-- ==== Sys2Proof/Word.lean ====
section
/-! DEFINITION. The plain data the rest of the model is written over: 16-bit words, 32-bit angles, bytes, and the two
small families of "one per phase" and "one per feeder" (spec/00_scope.md, Conventions). -/
namespace Sys2Proof

/-- A word of a cell: 16 bits (00_scope.md, "Words and cells"). -/
abbrev Word := BitVec 16

/-- An angle: a 32-bit unsigned fraction of one line cycle, summed modulo 2^32 (00_scope.md, "Angles"). -/
abbrev Angle := BitVec 32

/-- A byte of the serial memory. -/
abbrev Byte := BitVec 8

/-- The three supply phases, numbered 0, 1 and 2 where a formula needs a number (00_scope.md, "Phases"). -/
inductive Phase where
  | a | b | c
deriving DecidableEq, Repr

/-- The phase's number p in the formulas. -/
def Phase.number : Phase → Nat
  | .a => 0
  | .b => 1
  | .c => 2

/-- One value for each phase. -/
structure PerPhase (α : Type) where
  a : α
  b : α
  c : α
deriving DecidableEq, Repr

def PerPhase.get {α : Type} (v : PerPhase α) : Phase → α
  | .a => v.a
  | .b => v.b
  | .c => v.c

def PerPhase.set {α : Type} (v : PerPhase α) (p : Phase) (x : α) : PerPhase α :=
  match p with
  | .a => { v with a := x }
  | .b => { v with b := x }
  | .c => { v with c := x }

/-- The family whose value at each phase is given by a rule. -/
def PerPhase.build {α : Type} (g : Phase → α) : PerPhase α := ⟨g .a, g .b, g .c⟩

def PerPhase.map {α β : Type} (g : α → β) (v : PerPhase α) : PerPhase β := ⟨g v.a, g v.b, g v.c⟩

def PerPhase.fill {α : Type} (x : α) : PerPhase α := ⟨x, x, x⟩

def PerPhase.toList {α : Type} (v : PerPhase α) : List α := [v.a, v.b, v.c]

/-- The four feeders, numbered 0 to 3 (00_scope.md, "Feeders and slots"). -/
inductive Feeder where
  | f0 | f1 | f2 | f3
deriving DecidableEq, Repr

def Feeder.number : Feeder → Nat
  | .f0 => 0
  | .f1 => 1
  | .f2 => 2
  | .f3 => 3

/-- The feeder a number names, if it names one. -/
def Feeder.ofNumber : Nat → Option Feeder
  | 0 => some .f0
  | 1 => some .f1
  | 2 => some .f2
  | 3 => some .f3
  | _ => none

/-- All feeders in ascending order, the order of every slot map (R125). -/
def Feeder.all : List Feeder := [.f0, .f1, .f2, .f3]

/-- One value for each feeder. -/
structure PerFeeder (α : Type) where
  f0 : α
  f1 : α
  f2 : α
  f3 : α
deriving DecidableEq, Repr

def PerFeeder.get {α : Type} (v : PerFeeder α) : Feeder → α
  | .f0 => v.f0
  | .f1 => v.f1
  | .f2 => v.f2
  | .f3 => v.f3

def PerFeeder.set {α : Type} (v : PerFeeder α) (f : Feeder) (x : α) : PerFeeder α :=
  match f with
  | .f0 => { v with f0 := x }
  | .f1 => { v with f1 := x }
  | .f2 => { v with f2 := x }
  | .f3 => { v with f3 := x }

/-- The family whose value at each feeder is given by a rule. -/
def PerFeeder.build {α : Type} (g : Feeder → α) : PerFeeder α := ⟨g .f0, g .f1, g .f2, g .f3⟩

def PerFeeder.map {α β : Type} (g : α → β) (v : PerFeeder α) : PerFeeder β := ⟨g v.f0, g v.f1, g v.f2, g v.f3⟩

def PerFeeder.fill {α : Type} (x : α) : PerFeeder α := ⟨x, x, x, x⟩

def PerFeeder.toList {α : Type} (v : PerFeeder α) : List α := [v.f0, v.f1, v.f2, v.f3]

/-- A word read as a signed 16-bit value (section 1.5: samples and references are plain two's complement). -/
def Word.signed (w : Word) : Int := w.toInt

/-- A signed value sent as a word. -/
def Word.ofSigned (x : Int) : Word := BitVec.ofInt 16 x

/-- A number sent as a word. -/
def Word.ofNumber (n : Nat) : Word := BitVec.ofNat 16 n

end Sys2Proof
end

