-- ==== Sys2Proof/Config.lean ====
section
/-! DEFINITION. The fixed numbers of the part: capacities, identification and the constants of its arithmetic. The spec
leaves no value open for the model to keep free (see NOTES.md), so this file holds no opaque constant. -/
namespace Sys2Proof.Config

/-- ENQUIRE word 0 (R172). -/
def partCode : Nat := 0x04F4

/-- ENQUIRE word 1 (R172). -/
def revision : Nat := 1

/-- K120: one third of a cycle rounded down (R25). -/
def k120 : Nat := 1431655765

/-- A quarter cycle, 2^30 (R27, R31). -/
def quarterCycle : Nat := 1073741824

/-- Entries the management queue holds (R15). -/
def managementQueueSize : Nat := 8

/-- Replies the reply buffer holds (R170). -/
def replyBufferSize : Nat := 2

/-- Closed records the Event Recorder's queue holds (R163). -/
def recordQueueSize : Nat := 16

/-- Entries each history of the Injection Verifier holds (R143). -/
def historySize : Nat := 8

/-- The full blend gain (R88). -/
def fullGain : Nat := 4096

/-- The most a 16-bit counter of the part holds (R17, R50, R111, R184). -/
def counterMax : Nat := 65535

/-- The serial memory's bus address with both straps low (R190). -/
def memoryBusAddress : Nat := 0x50

/-- The image's signature word (R189). -/
def imageSignature : Nat := 0x5A3C

/-- The image's format version (R189). -/
def imageVersion : Nat := 1

/-- The most record words an image may announce (R189). -/
def imageMaxRecordWords : Nat := 2048

/-- The bytes of one page of the serial memory (R194). -/
def pageBytes : Nat := 32

/-- The words the longest cell may have (section 1.1). -/
def longestCell : Nat := 52

/-- The words the shortest cell may have (section 1.1). -/
def shortestCell : Nat := 3

end Sys2Proof.Config
end

