-- ==== Sys2Proof/Syntax.lean ====
section
/-! DEFINITION. The commands: one constructor for each row of spec/opcode_table.json, with the operands a row needs.
A row that names something coming about INSIDE the work of a cell (CONFIRMATION, EVENT_END, ...) takes no cell of its own:
it acts on the cell whose work is under way (assumption 2). -/
namespace Sys2Proof

/-- Where the work of an accepted SENSE cell stands when the next command falls. The spec lets a request fall while a cell
is being worked and gives the outcome of each order (R34, R81, R92, R93, R23, R181); these are the places its rules tell
apart. -/
inductive WorkPoint where
  /-- the cell is accepted and at most `left` of its missing cells are still to be worked before it: between two cells' work (R9) -/
  | gap (left : Nat)
  /-- the Phase Tracker, the Sag Monitor and the Store Account have worked the cell; no engine has -/
  | tracked
  /-- every engine has made its reference step and the Injection Verifier has worked the cell; no verifier step is made (R92) -/
  | referenced
  /-- every verifier step is made; the cell's work has not ended (R92, last order) -/
  | engined
  /-- the cell's work has ended and its DRIVE cell is assembled -/
  | ended
deriving DecidableEq, Repr

/-- What the serial memory does when the Image Loader reads it (R191). The memory is outside the part: its contents are those
the model's memory holds, or others put there from outside. -/
inductive MemoryAnswer where
  /-- it does not acknowledge its bus address or an address byte -/
  | silent
  /-- it answers with what it holds -/
  | stored
  /-- it was programmed from outside with these bytes, from address 0 on, and answers with them -/
  | replaced (bytes : List Byte)
deriving DecidableEq, Repr

/-- The commands, in the order of spec/opcode_table.json. -/
inductive Instr where
  /-- CELL_ARRIVAL (R1): the words received between the marks, and where the work of the cell, if it is an accepted SENSE
  cell, stands when the next command falls. -/
  | cellArrival (words : List Word) (upTo : WorkPoint)
  /-- ACQUIRE_END (R46) -/
  | acquireEnd
  /-- CONFIRMATION (R49) -/
  | confirmation
  /-- CLASSIFICATION_POINT (R52) -/
  | classificationPoint
  /-- EVENT_END (R55) -/
  | eventEnd
  /-- BURST_TIMER_EXPIRY (R56) -/
  | burstTimerExpiry
  /-- RELEASE_END (R87) of a feeder -/
  | releaseEnd (f : Feeder)
  /-- PATH_CHECK_VERDICT (R137) on a feeder -/
  | pathCheckVerdict (f : Feeder)
  /-- VERIFY_FAILURE (R149) of a feeder -/
  | verifyFailure (f : Feeder)
  /-- MAP_CHANGE_ABANDON (R132) -/
  | mapChangeAbandon
  /-- QUIET_TIMER_EXPIRY (R13) -/
  | quietTimerExpiry
  /-- SELF_TIMED_CELL (R22) -/
  | selfTimedCell
  /-- DRIVE_CELL_SENT (R20) -/
  | driveCellSent
  /-- REPLY_SENT (R170) -/
  | replySent
  /-- MALFORMED (R171) -/
  | malformed
  /-- ENQUIRE (R172) -/
  | enquire
  /-- READ_SETTING (R177) -/
  | readSetting
  /-- WRITE_SETTING (R178) -/
  | writeSetting
  /-- LOAD_ENVELOPE (R75) -/
  | loadEnvelope
  /-- LOAD_RESPONSE (R76) -/
  | loadResponse
  /-- COMMIT_NOW (R181) -/
  | commitNow
  /-- COMMIT_SYNC (R183) -/
  | commitSync
  /-- COMMIT_TAKES_EFFECT (R185) -/
  | commitTakesEffect
  /-- COMMIT_EXPIRED (R184) -/
  | commitExpired
  /-- DISCARD_SHADOW (R179) -/
  | discardShadow
  /-- ENLIST (R127) -/
  | enlist
  /-- RETIRE (R128) -/
  | retire
  /-- FORCE_BYPASS (R92) -/
  | forceBypass
  /-- CLEAR_FLAGS (R152) -/
  | clearFlags
  /-- SET_REPORT (R153) -/
  | setReport
  /-- READ_COUNTERS (R174) -/
  | readCounters
  /-- WRITE_COUNTER (R174) -/
  | writeCounter
  /-- READ_EVENT (R165) -/
  | readEvent
  /-- RELEASE_EVENT (R167) -/
  | releaseEvent
  /-- READ_LIVE (R173) -/
  | readLive
  /-- SET_ECHO (R23) -/
  | setEcho
  /-- SAVE_IMAGE (R186) -/
  | saveImage
  /-- SAVE_PAGE_ACK (R194) -/
  | savePageAck
  /-- SAVE_POLL_TIMEOUT (R194) -/
  | savePollTimeout
  /-- DEVICE_RESET (R187) -/
  | deviceReset
  /-- MANAGEMENT_RESET (R188) -/
  | managementReset
  /-- POWER_ON_RESET (R190) -/
  | powerOnReset
  /-- RESET_RELEASE (R190), with the levels of the two strap pins -/
  | resetRelease (straps : BitVec 2)
  /-- IMAGE_READ_COMPLETE (R191), with what the memory answered -/
  | imageReadComplete (answer : MemoryAnswer)
  /-- IMAGE_COMMIT (R192) -/
  | imageCommit
deriving DecidableEq, Repr

end Sys2Proof
end

