-- ==== Sys2Proof/WellFormed.lean ====
section
/-! DEFINITION. Which commands are well formed. The part itself accepts any words on its link (a bad cell is a counted
error, R5), so only the two operands that speak of the world outside have bounds. -/
namespace Sys2Proof

/-- A gap holds at most 15 missing cells (R8). -/
def WorkPoint.wellFormed : WorkPoint → Bool
  | .gap left => left ≤ 15
  | .tracked => true
  | .referenced => true
  | .engined => true
  | .ended => true

/-- The memory is addressed with two address bytes (R189), so it holds at most 65,536 bytes. -/
def MemoryAnswer.wellFormed : MemoryAnswer → Bool
  | .silent => true
  | .stored => true
  | .replaced bytes => bytes.length ≤ 65536

def Instr.wellFormed : Instr → Bool
  | .cellArrival _ upTo => upTo.wellFormed
  | .imageReadComplete answer => answer.wellFormed
  | .acquireEnd | .confirmation | .classificationPoint | .eventEnd | .burstTimerExpiry => true
  | .releaseEnd _ | .pathCheckVerdict _ | .verifyFailure _ | .mapChangeAbandon => true
  | .quietTimerExpiry | .selfTimedCell | .driveCellSent | .replySent | .malformed | .enquire => true
  | .readSetting | .writeSetting | .loadEnvelope | .loadResponse | .commitNow | .commitSync => true
  | .commitTakesEffect | .commitExpired | .discardShadow | .enlist | .retire | .forceBypass => true
  | .clearFlags | .setReport | .readCounters | .writeCounter | .readEvent | .releaseEvent => true
  | .readLive | .setEcho | .saveImage | .savePageAck | .savePollTimeout | .deviceReset => true
  | .managementReset | .powerOnReset | .resetRelease _ | .imageCommit => true

end Sys2Proof
end

