-- ==== Sys2Proof/Decode.lean ====
section
/-! DEFINITION. Reading a command from a word. spec/opcode_table.json gives no row any bits (every row's "fields" is empty
and none has a "fixed"), so no word spells a command. The words of a management request reach the part inside a MANAGE cell:
Machine/Operands.lean reads those. -/
namespace Sys2Proof

/-- The command a word spells by the opcode table's bits: none, for the table gives no bits (assumption 1). -/
def decodeTableWord (_nbits _w : Nat) : Option Instr := none

end Sys2Proof
end

