-- ==== Sys2Proof/Machine/Tables.lean ====
section
/-! DEFINITION. The Table Store's shape: the settings catalogue (R176), one bank, the value a write stores (R75, R76, R178)
and the validation of a bank (R78, R180). -/
namespace Sys2Proof.Machine

/-- How a feeder restores its supply (R64, R65). NONE is a value of PROVISIONAL_MODE and of a feeder's mode only. -/
inductive Mode where
  | full | inPhase | floor | decline | none
deriving DecidableEq, Repr

/-- The code a mode is carried as (R64). -/
def Mode.code : Mode → Nat
  | .full => 0
  | .inPhase => 1
  | .floor => 2
  | .decline => 3
  | .none => 4

/-- The mode a Response Table code names: 0 to 3 only (R76). -/
def Mode.ofResponseCode : Nat → Option Mode
  | 0 => some .full
  | 1 => some .inPhase
  | 2 => some .floor
  | 3 => some .decline
  | _ => Option.none

/-- The mode a PROVISIONAL_MODE code stores: any value other than 0 or 1 stores NONE (R76). -/
def Mode.ofProvisionalCode : Nat → Mode
  | 0 => .full
  | 1 => .inPhase
  | _ => .none

/-- One row of an envelope: from `duration` cell times into an event on, at least `floor` per mille is tolerated (R61). -/
structure EnvelopeRow where
  duration : Nat
  floor : Nat
deriving DecidableEq, Repr

/-- The feeder items of one bank for one feeder: items 32 to 45, the envelope (48) and the Response Table (49) (R176). -/
structure FeederBank where
  scale : Nat
  limit : Nat
  attack : Nat
  decay : Nat
  shedDecay : Nat
  margin : Nat
  shedLevel : Nat
  rearmLevel : Nat
  provisionalMode : Mode
  tripCurrent : Nat
  verifyTolerance : Nat
  verifyDelay : Nat
  verifyCount : Nat
  checkLevel : Nat
  envelope : List EnvelopeRow
  response : List Mode
deriving DecidableEq, Repr

/-- One bank: the device items 1 to 25 and the feeder items of each feeder (R175, R176). -/
structure Bank where
  cellPeriod : Nat
  nominalStep : Nat
  trackKp : Nat
  trackKi : Nat
  nominalPeak : Nat
  lockFloor : Nat
  acquireCells : Nat
  tripDeviation : Nat
  confirmCount : Nat
  halfWindow : Nat
  recoveryLevel : Nat
  recoveryHold : Nat
  jumpThreshold : Nat
  unbalanceThreshold : Nat
  burstWindow : Nat
  storeFloor : Nat
  storeFull : Nat
  housekeepingAverage : Nat
  heatLimit : Nat
  heatHysteresis : Nat
  storeHeatLimit : Nat
  verifyMode : Nat
  autoEnlist : Nat
  commitDeferLimit : Nat
  mapChangeLimit : Nat
  feeders : PerFeeder FeederBank
deriving DecidableEq, Repr

/-- The feeder items' defaults (R176, R61, R64). -/
def FeederBank.default : FeederBank :=
  {scale := 4096, limit := 16384, attack := 4096,
    decay := 64, shedDecay := 512, margin := 50, shedLevel := 200, rearmLevel := 600, provisionalMode := .full,
    tripCurrent := 30000, verifyTolerance := 1024, verifyDelay := 2, verifyCount := 4, checkLevel := 1024,
    envelope := [⟨0, 900⟩], response := List.replicate 16 Mode.full }

/-- The catalogue defaults, which both banks hold after a power-on reset (R175, R176). -/
def Bank.default : Bank :=
  {cellPeriod := 7812,
    nominalStep := 16777216,
    trackKp := 64,
    trackKi := 4,
    nominalPeak := 23170,
    lockFloor := 300,
    acquireCells := 1280,
    tripDeviation := 3277,
    confirmCount := 3,
    halfWindow := 128,
    recoveryLevel := 900,
    recoveryHold := 128,
    jumpThreshold := 1820,
    unbalanceThreshold := 150,
    burstWindow := 12800,
    storeFloor := 16000,
    storeFull := 32000,
    housekeepingAverage := 4,
    heatLimit := 3000,
    heatHysteresis := 100,
    storeHeatLimit := 2800,
    verifyMode := 0,
    autoEnlist := 0,
    commitDeferLimit := 25600,
    mapChangeLimit := 256,
    feeders := PerFeeder.fill FeederBank.default }

/-- The device items (R176). -/
inductive DeviceItem where
  | cellPeriod | nominalStep | trackKp | trackKi | nominalPeak | lockFloor | acquireCells | tripDeviation | confirmCount
  | halfWindow | recoveryLevel | recoveryHold | jumpThreshold | unbalanceThreshold | burstWindow | storeFloor | storeFull
  | housekeepingAverage | heatLimit | heatHysteresis | storeHeatLimit | verifyMode | autoEnlist | commitDeferLimit | mapChangeLimit
deriving DecidableEq, Repr

/-- The feeder items that hold one value (R176). -/
inductive FeederItem where
  | scale | limit | attack | decay | shedDecay | margin | shedLevel | rearmLevel
  | provisionalMode | tripCurrent | verifyTolerance | verifyDelay | verifyCount | checkLevel
deriving DecidableEq, Repr

/-- An item of the catalogue. -/
inductive Item where
  | device (d : DeviceItem)
  | feeder (i : FeederItem)
  | envelope
  | response
deriving DecidableEq, Repr

/-- The device items in catalogue order, 1 to 25. -/
def DeviceItem.all : List DeviceItem :=
  [.cellPeriod, .nominalStep, .trackKp, .trackKi, .nominalPeak, .lockFloor, .acquireCells,
   .tripDeviation, .confirmCount, .halfWindow, .recoveryLevel, .recoveryHold, .jumpThreshold, .unbalanceThreshold, .burstWindow,
   .storeFloor, .storeFull, .housekeepingAverage, .heatLimit, .heatHysteresis, .storeHeatLimit, .verifyMode, .autoEnlist, .commitDeferLimit, .mapChangeLimit]

/-- The single-valued feeder items in catalogue order, 32 to 45. -/
def FeederItem.all : List FeederItem :=
  [.scale, .limit, .attack, .decay, .shedDecay, .margin, .shedLevel, .rearmLevel,
   .provisionalMode, .tripCurrent, .verifyTolerance, .verifyDelay, .verifyCount, .checkLevel]

def DeviceItem.number : DeviceItem → Nat
  | .cellPeriod => 1
  | .nominalStep => 2
  | .trackKp => 3
  | .trackKi => 4
  | .nominalPeak => 5
  | .lockFloor => 6
  | .acquireCells => 7
  | .tripDeviation => 8
  | .confirmCount => 9
  | .halfWindow => 10
  | .recoveryLevel => 11
  | .recoveryHold => 12
  | .jumpThreshold => 13
  | .unbalanceThreshold => 14
  | .burstWindow => 15
  | .storeFloor => 16
  | .storeFull => 17
  | .housekeepingAverage => 18
  | .heatLimit => 19
  | .heatHysteresis => 20
  | .storeHeatLimit => 21
  | .verifyMode => 22
  | .autoEnlist => 23
  | .commitDeferLimit => 24
  | .mapChangeLimit => 25

def FeederItem.number : FeederItem → Nat
  | .scale => 32
  | .limit => 33
  | .attack => 34
  | .decay => 35
  | .shedDecay => 36
  | .margin => 37
  | .shedLevel => 38
  | .rearmLevel => 39
  | .provisionalMode => 40
  | .tripCurrent => 41
  | .verifyTolerance => 42
  | .verifyDelay => 43
  | .verifyCount => 44
  | .checkLevel => 45

def Item.number : Item → Nat
  | .device d => d.number
  | .feeder i => i.number
  | .envelope => 48
  | .response => 49

/-- The item a number names: numbers the catalogue does not list are unknown items (R176). -/
def Item.ofNumber (n : Nat) : Option Item :=
  match DeviceItem.all.find? (fun d => d.number = n) with
  | some d => some (.device d)
  | Option.none =>
    match FeederItem.all.find? (fun i => i.number = n) with
    | some i => some (.feeder i)
    | Option.none => if n = 48 then some .envelope else if n = 49 then some .response else Option.none

/-- The lower end of a device item's range (R176). -/
def DeviceItem.low : DeviceItem → Nat
  | .cellPeriod => 2000
  | .nominalStep => 4194304
  | .trackKp => 0
  | .trackKi => 0
  | .nominalPeak => 4096
  | .lockFloor => 100
  | .acquireCells => 64
  | .tripDeviation => 256
  | .confirmCount => 1
  | .halfWindow => 16
  | .recoveryLevel => 700
  | .recoveryHold => 1
  | .jumpThreshold => 182
  | .unbalanceThreshold => 50
  | .burstWindow => 0
  | .storeFloor => 0
  | .storeFull => 1
  | .housekeepingAverage => 1
  | .heatLimit => 0
  | .heatHysteresis => 0
  | .storeHeatLimit => 0
  | .verifyMode => 0
  | .autoEnlist => 0
  | .commitDeferLimit => 1
  | .mapChangeLimit => 16

/-- The upper end of a device item's range (R176). -/
def DeviceItem.high : DeviceItem → Nat
  | .cellPeriod => 65535
  | .nominalStep => 134217728
  | .trackKp => 4095
  | .trackKi => 4095
  | .nominalPeak => 32767
  | .lockFloor => 900
  | .acquireCells => 65535
  | .tripDeviation => 16384
  | .confirmCount => 8
  | .halfWindow => 256
  | .recoveryLevel => 980
  | .recoveryHold => 4096
  | .jumpThreshold => 16384
  | .unbalanceThreshold => 500
  | .burstWindow => 65535
  | .storeFloor => 65534
  | .storeFull => 65535
  | .housekeepingAverage => 8
  | .heatLimit => 4095
  | .heatHysteresis => 1023
  | .storeHeatLimit => 4095
  | .verifyMode => 12
  | .autoEnlist => 15
  | .commitDeferLimit => 65535
  | .mapChangeLimit => 4096

/-- The lower end of a feeder item's range (R176). -/
def FeederItem.low : FeederItem → Nat
  | .scale => 1
  | .limit => 0
  | .attack => 1
  | .decay => 1
  | .shedDecay => 1
  | .margin => 0
  | .shedLevel => 0
  | .rearmLevel => 1
  | .provisionalMode => 0
  | .tripCurrent => 1024
  | .verifyTolerance => 64
  | .verifyDelay => 1
  | .verifyCount => 1
  | .checkLevel => 256

/-- The upper end of a feeder item's range (R176). -/
def FeederItem.high : FeederItem → Nat
  | .scale => 16383
  | .limit => 32767
  | .attack => 4096
  | .decay => 4096
  | .shedDecay => 4096
  | .margin => 200
  | .shedLevel => 999
  | .rearmLevel => 1000
  | .provisionalMode => 4
  | .tripCurrent => 32767
  | .verifyTolerance => 8192
  | .verifyDelay => 8
  | .verifyCount => 15
  | .checkLevel => 8192

/-- A value below the range becomes its lower end, one above it its upper end (R178). -/
def clampNat (low high v : Nat) : Nat := max low (min high v)

/-- The value a write of a device item stores (R178): clamped, but for HOUSEKEEPING_AVERAGE (the next lower power of two,
1 for 0) and AUTO_ENLIST (bits 0 to 3 of the value). -/
def DeviceItem.stored (d : DeviceItem) (v : Nat) : Nat :=
  match d with
  | .housekeepingAverage => if v < 2 then 1 else if v < 4 then 2 else if v < 8 then 4 else 8
  | .autoEnlist => v % 16
  | d => clampNat d.low d.high v

/-- The value a write of a feeder item stores (R178): clamped, but for PROVISIONAL_MODE, where any value other than 0, 1
and 4 stores 4, NONE (R76). -/
def FeederItem.stored (i : FeederItem) (v : Nat) : Nat :=
  match i with
  | .provisionalMode => (Mode.ofProvisionalCode v).code
  | i => clampNat i.low i.high v

/-- A device item's value in a bank. -/
def Bank.read (b : Bank) : DeviceItem → Nat
  | .cellPeriod => b.cellPeriod
  | .nominalStep => b.nominalStep
  | .trackKp => b.trackKp
  | .trackKi => b.trackKi
  | .nominalPeak => b.nominalPeak
  | .lockFloor => b.lockFloor
  | .acquireCells => b.acquireCells
  | .tripDeviation => b.tripDeviation
  | .confirmCount => b.confirmCount
  | .halfWindow => b.halfWindow
  | .recoveryLevel => b.recoveryLevel
  | .recoveryHold => b.recoveryHold
  | .jumpThreshold => b.jumpThreshold
  | .unbalanceThreshold => b.unbalanceThreshold
  | .burstWindow => b.burstWindow
  | .storeFloor => b.storeFloor
  | .storeFull => b.storeFull
  | .housekeepingAverage => b.housekeepingAverage
  | .heatLimit => b.heatLimit
  | .heatHysteresis => b.heatHysteresis
  | .storeHeatLimit => b.storeHeatLimit
  | .verifyMode => b.verifyMode
  | .autoEnlist => b.autoEnlist
  | .commitDeferLimit => b.commitDeferLimit
  | .mapChangeLimit => b.mapChangeLimit

/-- The bank with one device item replaced. -/
def Bank.write (b : Bank) (d : DeviceItem) (v : Nat) : Bank :=
  match d with
  | .cellPeriod => { b with cellPeriod := v }
  | .nominalStep => { b with nominalStep := v }
  | .trackKp => { b with trackKp := v }
  | .trackKi => { b with trackKi := v }
  | .nominalPeak => { b with nominalPeak := v }
  | .lockFloor => { b with lockFloor := v }
  | .acquireCells => { b with acquireCells := v }
  | .tripDeviation => { b with tripDeviation := v }
  | .confirmCount => { b with confirmCount := v }
  | .halfWindow => { b with halfWindow := v }
  | .recoveryLevel => { b with recoveryLevel := v }
  | .recoveryHold => { b with recoveryHold := v }
  | .jumpThreshold => { b with jumpThreshold := v }
  | .unbalanceThreshold => { b with unbalanceThreshold := v }
  | .burstWindow => { b with burstWindow := v }
  | .storeFloor => { b with storeFloor := v }
  | .storeFull => { b with storeFull := v }
  | .housekeepingAverage => { b with housekeepingAverage := v }
  | .heatLimit => { b with heatLimit := v }
  | .heatHysteresis => { b with heatHysteresis := v }
  | .storeHeatLimit => { b with storeHeatLimit := v }
  | .verifyMode => { b with verifyMode := v }
  | .autoEnlist => { b with autoEnlist := v }
  | .commitDeferLimit => { b with commitDeferLimit := v }
  | .mapChangeLimit => { b with mapChangeLimit := v }

/-- A feeder item's value in a feeder's part of a bank; PROVISIONAL_MODE is read as its code. -/
def FeederBank.read (b : FeederBank) : FeederItem → Nat
  | .scale => b.scale
  | .limit => b.limit
  | .attack => b.attack
  | .decay => b.decay
  | .shedDecay => b.shedDecay
  | .margin => b.margin
  | .shedLevel => b.shedLevel
  | .rearmLevel => b.rearmLevel
  | .provisionalMode => b.provisionalMode.code
  | .tripCurrent => b.tripCurrent
  | .verifyTolerance => b.verifyTolerance
  | .verifyDelay => b.verifyDelay
  | .verifyCount => b.verifyCount
  | .checkLevel => b.checkLevel

/-- A feeder's part of a bank with one item replaced. -/
def FeederBank.write (b : FeederBank) (i : FeederItem) (v : Nat) : FeederBank :=
  match i with
  | .scale => { b with scale := v }
  | .limit => { b with limit := v }
  | .attack => { b with attack := v }
  | .decay => { b with decay := v }
  | .shedDecay => { b with shedDecay := v }
  | .margin => { b with margin := v }
  | .shedLevel => { b with shedLevel := v }
  | .rearmLevel => { b with rearmLevel := v }
  | .provisionalMode => { b with provisionalMode := Mode.ofProvisionalCode v }
  | .tripCurrent => { b with tripCurrent := v }
  | .verifyTolerance => { b with verifyTolerance := v }
  | .verifyDelay => { b with verifyDelay := v }
  | .verifyCount => { b with verifyCount := v }
  | .checkLevel => { b with checkLevel := v }

/-- One feeder's part of the bank. -/
def Bank.feeder (b : Bank) (f : Feeder) : FeederBank := b.feeders.get f

/-- The bank with one feeder's part replaced. -/
def Bank.setFeeder (b : Bank) (f : Feeder) (x : FeederBank) : Bank := { b with feeders := b.feeders.set f x }

/-- Each duration is greater than the duration of the row before it (R78). -/
def durationsAscend : List EnvelopeRow → Bool
  | [] => true
  | [_] => true
  | r :: q :: rest => decide (r.duration < q.duration) && durationsAscend (q :: rest)

/-- The envelope check (R78): row 0's duration is 0 and the durations strictly ascend. -/
def envelopeValid : List EnvelopeRow → Bool
  | [] => false
  | r :: rest => decide (r.duration = 0) && durationsAscend (r :: rest)

/-- What the validation of a bank reports: the failing item and the target (R180). -/
structure TableFault where
  item : Nat
  target : Nat
deriving DecidableEq, Repr

/-- One feeder's checks, the envelope first (R78, R180). -/
def FeederBank.fault (b : FeederBank) (f : Feeder) : Option TableFault :=
  if !envelopeValid b.envelope then some ⟨48, f.number⟩
  else if b.shedLevel < b.rearmLevel then Option.none
  else some ⟨39, f.number⟩

/-- The first failing check of a bank, the device items first, then feeders 0 to 3 (R180). -/
def Bank.fault (b : Bank) : Option TableFault :=
  if b.storeFull ≤ b.storeFloor then some ⟨17, 15⟩
  else Feeder.all.findSome? (fun f => (b.feeder f).fault f)

/-- The bank passes validation (R180). -/
def Bank.valid (b : Bank) : Bool := b.fault.isNone

end Sys2Proof.Machine
end

