-- ==== Sys2Proof/Machine/State.lean ====
section
/-! DEFINITION. The state: one structure for each block of the part (00_scope.md, "Block overview"), as plain data, with its
reset value; and the model's own bookkeeping, each piece marked as such. -/
namespace Sys2Proof.Machine

/-- What stops the block: nothing. No rule of the spec gives a command an effect that ends the part's work, so the type has
no constructor. -/
inductive Fault where
deriving DecidableEq, Repr

/-- Why a command has no meaning. -/
inductive Refusal where
  /-- Raised by exec's arm of a command that has no meaning yet; no arm raises it. Safe: the machine stops. -/
  | notModelled (mnemonic : String)
deriving DecidableEq, Repr

/-! ### Codes of the Cells and Links chapter -/

/-- The link state (R13); its code is 0, 1 or 2 in this order (section 1.5). -/
inductive LinkState where
  | down | up | quiet
deriving DecidableEq, Repr

/-- The sag state (section 3.4); codes 0 to 4 in this order (section 1.5). -/
inductive SagState where
  | acquiring | normal | suspect | sag | recovering
deriving DecidableEq, Repr

/-- The feeder state (R79); codes 0 to 8 in this order. -/
inductive FeederState where
  | offline | enlisting | checking | standby | injecting | releasing | shed | lockout | retiring
deriving DecidableEq, Repr

/-- A reply's result code; codes 0 to 12 in this order (section 1.5). -/
inductive Result where
  | done | clamped | accepted | empty | refusedState | refusedBusyMap | refusedEvent
  | invalidTable | unknownItem | malformed | stale | expired | writeFailed
deriving DecidableEq, Repr

/-! ### Ingress Port -/

/-- The eight link counters, in index order 0 to 7 (R17). -/
inductive LinkCounter where
  | crcErrors | shapeErrors | epochErrors | missingCells | duplicates | sequenceBreaks | managementOverruns
  | housekeepingErrors
deriving DecidableEq, Repr

/-- The values of the link counters, each 0 to 65,535 (R17). -/
structure Counters where
  crcErrors : Nat
  shapeErrors : Nat
  epochErrors : Nat
  missingCells : Nat
  duplicates : Nat
  sequenceBreaks : Nat
  managementOverruns : Nat
  housekeepingErrors : Nat
deriving DecidableEq, Repr

/-- An entry of the management queue (R15). -/
structure Request where
  tag : BitVec 8
  code : BitVec 8
  target : BitVec 4
  payload : List Word
  malformed : Bool
deriving DecidableEq, Repr

structure Ingress where
  link : LinkState
  expected : BitVec 8
  cellTime : BitVec 32
  /-- the quiet timer: stopped, or running with the core clocks it was last restarted to expire after (R13) -/
  quietTimer : Option Nat
  counters : Counters
  queue : List Request
deriving DecidableEq, Repr

/-! ### Phase Tracker -/

/-- The tracker's state (02_phase_tracking.md, the table before section 2.1). -/
structure Tracker where
  live : Angle
  offset : Int
  hold : Angle
  holdOffset : Int
  amplitudeRef : Nat
  amplitude : Int
  quadrature : Int
  lock : Bool
  jump : Int
deriving DecidableEq, Repr

/-! ### Sag Monitor -/

/-- The worst values of an event (R51). -/
structure Worst where
  lowest : PerPhase Nat
  lowestMin : Nat
  jumpMax : Nat
  unbalance : Bool
deriving DecidableEq, Repr

/-- The monitor's state (03_sag_detection.md, the table before section 3.1). -/
structure Monitor where
  sag : SagState
  acquireCount : Nat
  deviationCount : Nat
  windows : PerPhase (List Int)
  sums : PerPhase Nat
  retained : PerPhase Nat
  minRetained : Nat
  elapsed : Nat
  recoveryCount : Nat
  worst : Worst
  classified : Bool
  published : Option Nat
  burstTimer : Nat
  lastBurst : Nat
deriving DecidableEq, Repr

/-- The marks the monitor hands on with a cell (R41). -/
structure Marks where
  confirmation : Bool
  classificationPoint : Bool
  classRise : Bool
  recoveryEntry : Bool
  returnToSag : Bool
  eventEnd : Bool
deriving DecidableEq, Repr

/-- No mark. -/
def Marks.clear : Marks := ⟨false, false, false, false, false, false⟩

/-! ### Store Account -/

/-- The Store Account's state (07_store_energy_and_housekeeping.md, the table before section 7.1). Channel 0 is the store,
channels 1 to 4 the heat sinks of feeders 0 to 3. -/
structure StoreAccount where
  energy : Nat
  storeReadings : List Nat
  sinkReadings : PerFeeder (List Nat)
  storeMean : Option Nat
  sinkMeans : PerFeeder (Option Nat)
  sinkHot : PerFeeder Bool
  storeHot : Bool
  shedLevels : PerFeeder Nat
  rearmLevels : PerFeeder Nat
deriving DecidableEq, Repr

/-! ### Feeder Engines -/

/-- Why a RELEASING feeder is releasing (section 5.4). -/
inductive ReleaseCause where
  | recovery | lookup | shed
deriving DecidableEq, Repr

/-- The seven event marks of a feeder (R95, R96). -/
structure EventMarks where
  injected : Bool
  shed : Bool
  declined : Bool
  locked : Bool
  linkLost : Bool
  limited : Bool
  notReady : Bool
deriving DecidableEq, Repr

/-- All seven marks clear. -/
def EventMarks.clear : EventMarks := ⟨false, false, false, false, false, false, false⟩

/-- One engine's state (05_feeder_engines.md and 06_injection_arithmetic.md, their first tables). -/
structure Engine where
  state : FeederState
  gain : Nat
  mode : Mode
  drive : Mode
  cause : Option ReleaseCause
  prior : Option FeederState
  marks : EventMarks
  references : PerPhase Int
  peak : Nat
  limitedCount : Nat
  energyDraw : Int
deriving DecidableEq, Repr

/-- What an engine hands on for its slot (R79, R109), with the state code of the slot control word. -/
structure SlotOutput where
  bypassClosed : Bool
  modulator : Bool
  references : PerPhase Int
  state : FeederState
deriving DecidableEq, Repr

/-! ### Slot Map Unit -/

/-- A pending map with its epoch (R126). -/
structure PendingMap where
  epoch : BitVec 4
  feeders : List Feeder
deriving DecidableEq, Repr

/-- A check record (08_slot_map_and_enlistment.md, the table before section 8.1). -/
structure Check where
  cell : Nat
  mismatches : PerPhase Nat
deriving DecidableEq, Repr

/-- A check at its first cell. -/
def Check.start : Check := ⟨0, ⟨0, 0, 0⟩⟩

structure SlotMaps where
  epoch : BitVec 4
  active : List Feeder
  /-- present while a change is pending -/
  pending : Option PendingMap
  age : Nat
  checks : PerFeeder Check
deriving DecidableEq, Repr

/-! ### Injection Verifier -/

/-- A pair: a feeder and a phase (R145). -/
structure Pair where
  feeder : Feeder
  phase : Phase
deriving DecidableEq, Repr

structure Verifier where
  /-- for each pair its entries, oldest first, newest last; none is an entry with no command -/
  histories : PerFeeder (PerPhase (List (Option Int)))
  mismatches : PerFeeder (PerPhase Nat)
  pointer : Pair
  /-- each feeder's overcurrent condition (R148) -/
  overcurrent : PerFeeder Bool
deriving DecidableEq, Repr

/-! ### Flag Unit -/

structure FlagUnit where
  /-- the latched flags, index i at bit i (R150) -/
  latched : BitVec 32
  /-- the report masks: a set bit is a reported flag (R153) -/
  reported : BitVec 32
  /-- the set of feeders whose change FEEDER_CHANGE records -/
  changed : PerFeeder Bool
deriving DecidableEq, Repr

/-! ### Event Recorder -/

/-- The figures of the open record that the Event Recorder itself keeps (R158, R159). -/
structure OpenRecord where
  number : Nat
  burstIndex : Nat
  start : BitVec 32
  energyAtConfirmation : Nat
  lowestEnergy : Nat
  feeders : List Feeder
deriving DecidableEq, Repr

/-- How an event ended (R162). -/
inductive EndCause where
  | recovered | linkLost
deriving DecidableEq, Repr

/-- A feeder's outcome in an event; codes 1 to 7 in this order (R97, R165). -/
inductive EventOutcome where
  | lockedOut | linkLost | shed | rodeThrough | declined | notReady | tolerated
deriving DecidableEq, Repr

/-- A feeder entry of a record (R162). -/
structure FeederEntry where
  feeder : Feeder
  mode : Mode
  outcome : EventOutcome
  marks : EventMarks
  peak : Nat
  limitedCount : Nat
  energyDraw : Int
deriving DecidableEq, Repr

/-- A closed record (R162). -/
structure EventRecord where
  number : Nat
  burstIndex : Nat
  start : BitVec 32
  duration : BitVec 32
  cause : EndCause
  eventClass : Nat
  lowest : PerPhase Nat
  jumpMax : Nat
  energyAtConfirmation : Nat
  lowestEnergy : Nat
  entries : List FeederEntry
deriving DecidableEq, Repr

structure Recorder where
  openRecord : Option OpenRecord
  queue : List EventRecord
  nextNumber : Nat
deriving DecidableEq, Repr

/-! ### Table Store -/

structure Tables where
  active : Bank
  shadow : Bank
deriving DecidableEq, Repr

/-! ### Management Engine -/

/-- The engine's state (R169). -/
inductive EngineState where
  | idle | executing | deferred | saving | waitReply
deriving DecidableEq, Repr

/-- A reply as the engine builds it (R171); the Egress Port completes it (R21). -/
structure Reply where
  tag : BitVec 8
  result : Result
  payload : List Word
  /-- the reply answers a DEVICE_RESET (R187) -/
  answersReset : Bool
deriving DecidableEq, Repr

structure Management where
  engine : EngineState
  inFlight : Option Request
  held : Option Reply
  replies : List Reply
  deferralAge : Nat
  /-- MODEL'S OWN: the request in flight has been carried out, so its step is not made a second time -/
  carriedOut : Bool
  /-- MODEL'S OWN: a SET_ECHO whose step fell while a cell was being worked, waiting for that cell's end (R23) -/
  echoWaits : Option Bool
deriving DecidableEq, Repr

/-! ### Egress Port -/

/-- A cell being sent, as its words. -/
inductive Sending where
  | drive (words : List Word)
  | reply (words : List Word)
deriving DecidableEq, Repr

structure Egress where
  /-- the DRIVE cell waiting to be sent -/
  waiting : Option (List Word)
  /-- the cell in transmission -/
  onLink : Option Sending
  /-- the self-timed cell timer: stopped, or running with the core clocks it was last restarted to expire after (R22) -/
  cellTimer : Option Nat
  /-- the sequence number of the last DRIVE cell assembled (R22) -/
  lastSequence : BitVec 8
  echo : Bool
deriving DecidableEq, Repr

/-! ### Image Loader and the serial memory -/

/-- The loader's state (12_start_up_and_configuration_image.md). -/
inductive LoaderState where
  | idle | reading | applying | waiting | writing
deriving DecidableEq, Repr

/-- A load's outcome (R191, R192). -/
inductive LoadOutcome where
  | loaded | absent | corrupt | invalid
deriving DecidableEq, Repr

/-- One page write of a save: its start address and its bytes (R194). -/
structure PageWrite where
  address : Nat
  bytes : List Byte
deriving DecidableEq, Repr

structure Loader where
  state : LoaderState
  /-- the outcome of the latest load, if one has ended -/
  outcome : Option LoadOutcome
  /-- the page writes of the save in progress, the one now being written first -/
  writes : List PageWrite
deriving DecidableEq, Repr

/-- The serial memory's bytes, in the one canonical form of Machine/Memory.lean: addresses strictly rising, no entry that
equals what an unlisted address reads as. -/
abbrev Memory := List Host.Cell

/-! ### The work of a cell -/

/-- One slot of a SENSE cell (R3). -/
structure Slot where
  load : PerPhase Int
  current : PerPhase Int
deriving DecidableEq, Repr

/-- A SENSE cell's contents (R3). -/
structure Sense where
  epoch : BitVec 4
  sequence : BitVec 8
  supply : PerPhase Int
  store : Nat
  housekeeping : Word
  slots : List Slot
deriving DecidableEq, Repr

/-- How far the work of the accepted cell has got; each names what has been done. -/
inductive Stage where
  | accepted | tracked | referenced | engined
deriving DecidableEq, Repr

/-- The work of an accepted SENSE cell while it is under way: the cell, the bank its work reads (R11), and the values the
blocks hand on with it (R26, R41, R80). -/
structure Work where
  sense : Sense
  bank : Bank
  /-- missing cells still to be worked before it (R9) -/
  missing : Nat
  stage : Stage
  /-- the cell carries the link-return mark (R14) -/
  linkReturn : Bool
  /-- its acceptance triggers an epoch switch that is still to be made, after the missing cells before it (R7, R131) -/
  switches : Bool
  /-- a COMMIT SYNC was taken while this cell was being worked, so this cell is not one worked after it (R183) -/
  syncBarred : Bool
  /-- a commit took effect after the cell's acceptance (R37, R138) -/
  commitDuring : Bool
  /-- the cell angles and the cell amplitude (R26) -/
  live : Angle
  hold : Angle
  amplitudeRef : Nat
  zeroCrossing : Bool
  marks : Marks
  /-- the class handed on with the cell -/
  published : Option Nat
  outputs : PerFeeder SlotOutput
  /-- the feeders the Injection Verifier reports at fault (R142) -/
  faults : PerFeeder Bool
deriving DecidableEq, Repr

/-- MODEL'S OWN. What came about in the work of a cell or at a QUIET entry: the rows of the table that name such a thing. -/
inductive Occurrence where
  | acquireEnd
  | confirmation
  | classificationPoint
  | eventEnd
  | burstTimerExpiry
  | releaseEnd (f : Feeder)
  | pathCheckVerdict (f : Feeder)
  | verifyFailure (f : Feeder)
  | mapChangeAbandon
  | commitTakesEffect
  | commitExpired
  | imageCommit
deriving DecidableEq, Repr

/-- MODEL'S OWN. A step of the part's own that is due before anything else (assumption 4). -/
inductive Due where
  /-- the last word of the DONE reply to a DEVICE_RESET has been sent (R187) -/
  | managementReset
  /-- the loader entered WAITING with the commit's condition holding and no cell being worked (R192) -/
  | imageCommit
deriving DecidableEq, Repr

/-- The machine. -/
structure State where
  ingress : Ingress
  tracker : Tracker
  monitor : Monitor
  store : StoreAccount
  engines : PerFeeder Engine
  verifier : Verifier
  flags : FlagUnit
  recorder : Recorder
  maps : SlotMaps
  tables : Tables
  management : Management
  egress : Egress
  loader : Loader
  /-- the serial memory beside the part -/
  memory : Memory
  /-- the levels of the two strap pins -/
  straps : BitVec 2
  /-- RESET is asserted, or power-up is not complete: the part is held in its power-on values (R190) -/
  inReset : Bool
  /-- the work of an accepted SENSE cell while it is under way -/
  work : Option Work
  /-- MODEL'S OWN: what came about in the latest work -/
  came : List Occurrence
  /-- MODEL'S OWN: the part's own step that is due -/
  due : Option Due
  /-- MODEL'S OWN: the commands that wait, first in, first out -/
  pending : List Instr
deriving DecidableEq, Repr

/-! ### Reset values -/

def Counters.zero : Counters := ⟨0, 0, 0, 0, 0, 0, 0, 0⟩

/-- The Ingress Port after either reset (R8, R12, R13, R15, R17). -/
def Ingress.reset : Ingress :=
  { link := .down, expected := 0, cellTime := 0, quietTimer := none, counters := Counters.zero, queue := [] }

/-- The tracker after a reset, A_ref at the NOMINAL_PEAK given (R40). -/
def Tracker.reset (nominalPeak : Nat) : Tracker :=
  { live := 0, offset := 0, hold := 0, holdOffset := 0, amplitudeRef := nominalPeak, amplitude := 0, quadrature := 0,
    lock := false, jump := 0 }

/-- The worst values after a reset (R59). -/
def Worst.reset : Worst := { lowest := ⟨2000, 2000, 2000⟩, lowestMin := 2000, jumpMax := 0, unbalance := false }

/-- The monitor after either reset (R59). -/
def Monitor.reset : Monitor :=
  { sag := .acquiring, acquireCount := 0, deviationCount := 0, windows := ⟨[], [], []⟩, sums := ⟨0, 0, 0⟩,
    retained := ⟨0, 0, 0⟩, minRetained := 0, elapsed := 0, recoveryCount := 0, worst := Worst.reset, classified := false,
    published := none, burstTimer := 0, lastBurst := 0 }

/-- The Store Account after either reset (R123). The effective levels are formed at the first accepted cell; until then they
hold the least values of their ranges (DESIGN CHOICE, assumption 6). -/
def StoreAccount.reset : StoreAccount :=
  { energy := 0, storeReadings := [], sinkReadings := PerFeeder.fill [], storeMean := none,
    sinkMeans := PerFeeder.fill none, sinkHot := PerFeeder.fill false, storeHot := false, shedLevels := PerFeeder.fill 0,
    rearmLevels := PerFeeder.fill 1 }

/-- An engine after either reset (R98, R113). -/
def Engine.reset : Engine :=
  { state := .offline, gain := 0, mode := .none, drive := .none, cause := none, prior := none, marks := EventMarks.clear,
    references := ⟨0, 0, 0⟩, peak := 0, limitedCount := 0, energyDraw := 0 }

/-- The Slot Map Unit after either reset (R126). -/
def SlotMaps.reset : SlotMaps :=
  { epoch := 0, active := [], pending := none, age := 0, checks := PerFeeder.fill Check.start }

/-- The Injection Verifier after either reset (R149); no feeder holds a slot, so no overcurrent condition holds (R148). -/
def Verifier.reset : Verifier :=
  { histories := PerFeeder.fill ⟨[], [], []⟩, mismatches := PerFeeder.fill ⟨0, 0, 0⟩, pointer := ⟨.f0, .a⟩,
    overcurrent := PerFeeder.fill false }

/-- Every index that names a flag: 0 to 30 (R150). -/
def allFlags : BitVec 32 := 0x7FFFFFFF

/-- The Flag Unit after a power-on reset (R157). -/
def FlagUnit.reset : FlagUnit := { latched := 0, reported := allFlags, changed := PerFeeder.fill false }

/-- The Event Recorder after a power-on reset (R168). -/
def Recorder.reset : Recorder := { openRecord := none, queue := [], nextNumber := 1 }

/-- The Management Engine after either reset (R169). -/
def Management.reset : Management :=
  { engine := .idle, inFlight := none, held := none, replies := [], deferralAge := 0, carriedOut := false,
    echoWaits := none }

/-- The Egress Port after a reset, its cell timer started with the CELL_PERIOD given (R20, R22, R23). -/
def Egress.reset (cellPeriod : Nat) : Egress :=
  { waiting := none, onLink := none, cellTimer := some cellPeriod, lastSequence := 255, echo := false }

/-- The Image Loader after a power-on reset (R190). -/
def Loader.reset : Loader := { state := .idle, outcome := none, writes := [] }

/-- The machine right after a power-on reset, before RESET is released (R190, R188). The serial memory is erased and the strap
pins are low: both lie outside the part (DESIGN CHOICE, assumption 7). -/
def State.reset : State :=
  { ingress := Ingress.reset
    tracker := Tracker.reset 23170
    monitor := Monitor.reset
    store := StoreAccount.reset
    engines := PerFeeder.fill Engine.reset
    verifier := Verifier.reset
    flags := FlagUnit.reset
    recorder := Recorder.reset
    maps := SlotMaps.reset
    tables := { active := Bank.default, shadow := Bank.default }
    management := Management.reset
    egress := Egress.reset 7812
    loader := Loader.reset
    memory := []
    straps := 0
    inReset := true
    work := none
    came := []
    due := none
    pending := [] }

end Sys2Proof.Machine
end

