-- ==== Sys2Proof/Machine/Arithmetic.lean ====
section
/-! DEFINITION. The arithmetic the blocks share: the sine table (R25), the integer square root (00_scope.md), clamping,
saturation, and the CRC-16 (R2). -/
namespace Sys2Proof.Machine

/-- "Clamped to a range" (00_scope.md). -/
def clampInt (low high x : Int) : Int := if x < low then low else if high < x then high else x

/-- A counter that saturates at `high` advanced by `n` (00_scope.md). -/
def saturateAdd (high v n : Nat) : Nat := min high (v + n)

/-- Entries 0 to 31 of the sine table: round(32767 × sin(2πk / 1024)) (R25). -/
def sineRow0 : List Nat :=
  [0, 201, 402, 603, 804, 1005, 1206, 1407, 1608, 1809, 2009, 2210, 2410, 2611, 2811, 3012,
   3212, 3412, 3612, 3811, 4011, 4210, 4410, 4609, 4808, 5007, 5205, 5404, 5602, 5800, 5998, 6195]

/-- Entries 32 to 63 of the sine table: round(32767 × sin(2πk / 1024)) (R25). -/
def sineRow1 : List Nat :=
  [6393, 6590, 6786, 6983, 7179, 7375, 7571, 7767, 7962, 8157, 8351, 8545, 8739, 8933, 9126, 9319,
   9512, 9704, 9896, 10087, 10278, 10469, 10659, 10849, 11039, 11228, 11417, 11605, 11793, 11980, 12167, 12353]

/-- Entries 64 to 95 of the sine table: round(32767 × sin(2πk / 1024)) (R25). -/
def sineRow2 : List Nat :=
  [12539, 12725, 12910, 13094, 13279, 13462, 13645, 13828, 14010, 14191, 14372, 14553, 14732, 14912, 15090, 15269,
   15446, 15623, 15800, 15976, 16151, 16325, 16499, 16673, 16846, 17018, 17189, 17360, 17530, 17700, 17869, 18037]

/-- Entries 96 to 127 of the sine table: round(32767 × sin(2πk / 1024)) (R25). -/
def sineRow3 : List Nat :=
  [18204, 18371, 18537, 18703, 18868, 19032, 19195, 19357, 19519, 19680, 19841, 20000, 20159, 20317, 20475, 20631,
   20787, 20942, 21096, 21250, 21403, 21554, 21705, 21856, 22005, 22154, 22301, 22448, 22594, 22739, 22884, 23027]

/-- Entries 128 to 159 of the sine table: round(32767 × sin(2πk / 1024)) (R25). -/
def sineRow4 : List Nat :=
  [23170, 23311, 23452, 23592, 23731, 23870, 24007, 24143, 24279, 24413, 24547, 24680, 24811, 24942, 25072, 25201,
   25329, 25456, 25582, 25708, 25832, 25955, 26077, 26198, 26319, 26438, 26556, 26674, 26790, 26905, 27019, 27133]

/-- Entries 160 to 191 of the sine table: round(32767 × sin(2πk / 1024)) (R25). -/
def sineRow5 : List Nat :=
  [27245, 27356, 27466, 27575, 27683, 27790, 27896, 28001, 28105, 28208, 28310, 28411, 28510, 28609, 28706, 28803,
   28898, 28992, 29085, 29177, 29268, 29358, 29447, 29534, 29621, 29706, 29791, 29874, 29956, 30037, 30117, 30195]

/-- Entries 192 to 223 of the sine table: round(32767 × sin(2πk / 1024)) (R25). -/
def sineRow6 : List Nat :=
  [30273, 30349, 30424, 30498, 30571, 30643, 30714, 30783, 30852, 30919, 30985, 31050, 31113, 31176, 31237, 31297,
   31356, 31414, 31470, 31526, 31580, 31633, 31685, 31736, 31785, 31833, 31880, 31926, 31971, 32014, 32057, 32098]

/-- Entries 224 to 255 of the sine table: round(32767 × sin(2πk / 1024)) (R25). -/
def sineRow7 : List Nat :=
  [32137, 32176, 32213, 32250, 32285, 32318, 32351, 32382, 32412, 32441, 32469, 32495, 32521, 32545, 32567, 32589,
   32609, 32628, 32646, 32663, 32678, 32692, 32705, 32717, 32728, 32737, 32745, 32752, 32757, 32761, 32765, 32766]

/-- Entry k of the first quarter, k from 0 to 256 (R25). -/
def sineQuarter (k : Nat) : Nat :=
  match k / 32 with
  | 0 => sineRow0.getD (k % 32) 0
  | 1 => sineRow1.getD (k % 32) 0
  | 2 => sineRow2.getD (k % 32) 0
  | 3 => sineRow3.getD (k % 32) 0
  | 4 => sineRow4.getD (k % 32) 0
  | 5 => sineRow5.getD (k % 32) 0
  | 6 => sineRow6.getD (k % 32) 0
  | 7 => sineRow7.getD (k % 32) 0
  | _ => 32767

/-- Entry k of the sine table, k from 0 to 1023 (R25): the four quarters from the first, by the sine's symmetries. -/
def sineEntry (k : Nat) : Int :=
  if k ≤ 256 then sineQuarter k
  else if k ≤ 512 then sineQuarter (512 - k)
  else if k ≤ 768 then -sineQuarter (k - 512)
  else -sineQuarter (1024 - k)

/-- T(angle): the entry whose index is the angle's top 10 bits (R25). -/
def sineAt (angle : Angle) : Int := sineEntry (angle.toNat / 4194304)

/-- The angle of a phase belonging to a phase-A angle (R25). -/
def phaseAngle (angle : Angle) (p : Phase) : Angle := angle + BitVec.ofNat 32 (p.number * Config.k120)

/-- One bit of the integer square root, from the highest down: the root so far, raised by 2^k where its square still does
not exceed n. -/
def isqrtBits (n : Nat) : Nat → Nat → Nat
  | 0, root => root
  | k + 1, root => isqrtBits n k (if (root + 2 ^ k) * (root + 2 ^ k) ≤ n then root + 2 ^ k else root)

/-- isqrt(n): the greatest integer whose square does not exceed n (00_scope.md, "Square root"). -/
def isqrt (n : Nat) : Nat := isqrtBits n (n.log2 / 2 + 1) 0

/-- One bit of the CRC (R2): shift left; if the bit shifted out differs from the data bit, combine with 0x1021. -/
def crcBit (register : Word) (bit : Bool) : Word :=
  if register.msb != bit then (register <<< 1) ^^^ 0x1021#16 else register <<< 1

/-- One word of the CRC, most significant bit first (R2). -/
def crcWord (register : Word) (w : Word) : Word :=
  [15, 14, 13, 12, 11, 10, 9, 8, 7, 6, 5, 4, 3, 2, 1, 0].foldl (fun r i => crcBit r (w.getLsbD i)) register

/-- The check value over words in link order, from 0xFFFF (R2). -/
def crc16 (words : List Word) : Word := words.foldl crcWord 0xFFFF#16

/-- Words with their check word appended (R2). -/
def withCrc (words : List Word) : List Word := words ++ [crc16 words]

/-- A 32-bit value as two words, the upper half first (R165, R177). -/
def twoWords (v : BitVec 32) : List Word := [v.extractLsb' 16 16, v.extractLsb' 0 16]

/-- The 32-bit value two words carry, the upper half first (R178). -/
def joinWords (upper lower : Word) : Nat := upper.toNat * 65536 + lower.toNat

/-- The sum over the three phases. -/
def phaseSum (v : PerPhase Int) : Int := v.a + v.b + v.c

/-- The largest of the three values. -/
def phaseMost (v : PerPhase Nat) : Nat := max v.a (max v.b v.c)

/-- The least of the three values. -/
def phaseLeast (v : PerPhase Nat) : Nat := min v.a (min v.b v.c)

end Sys2Proof.Machine
end

