-- ==== Sys2Proof/Machine/PhaseTracker.lean ====
section
/-! DEFINITION. The Phase Tracker's work on a cell (02_phase_tracking.md): the live part, before the Sag Monitor works the cell,
and the hold part, after it (R26); its commit effect (R37). -/
namespace Sys2Proof.Machine

/-- F_max = floor(NOMINAL_STEP / 16) (R30). -/
def Bank.offsetMax (b : Bank) : Int := ((b.nominalStep / 16 : Nat) : Int)

/-- The lower end of A_ref's band, floor(NOMINAL_PEAK × 875 / 1000) (R37). -/
def Bank.amplitudeLow (b : Bank) : Nat := b.nominalPeak * 875 / 1000

/-- The upper end of A_ref's band, floor(NOMINAL_PEAK × 1125 / 1000) (R37). -/
def Bank.amplitudeHigh (b : Bank) : Nat := b.nominalPeak * 1125 / 1000

/-- A frequency offset clamped to ±F_max (R30). -/
def Bank.clampOffset (b : Bank) (x : Int) : Int := clampInt (-b.offsetMax) b.offsetMax x

/-- An amplitude clamped into A_ref's band (R34, R37). -/
def Bank.clampAmplitude (b : Bank) (x : Int) : Nat := (clampInt b.amplitudeLow b.amplitudeHigh x).toNat

/-- The lock floor, floor(NOMINAL_PEAK × LOCK_FLOOR / 1000) (R28). -/
def Bank.lockLevel (b : Bank) : Nat := b.nominalPeak * b.lockFloor / 1000

/-- Σ_p s_p × T(θ + p × K120 + turn), formed exactly (R27). -/
def correlate (angle turn : Angle) (supply : PerPhase Int) : Int :=
  phaseSum (PerPhase.build fun p => supply.get p * sineAt (phaseAngle angle p + turn))

/-- The quadrature error q (R27). -/
def quadratureError (angle : Angle) (supply : PerPhase Int) : Int :=
  correlate angle (BitVec.ofNat 32 Config.quarterCycle) supply / 32768

/-- The amplitude estimate a (R27). -/
def amplitudeEstimate (angle : Angle) (supply : PerPhase Int) : Int := 2 * correlate angle 0 supply / 98304

/-- The jump reading of two cell angles: the difference's top 16 bits read as a signed number (R38). -/
def jumpReading (live hold : Angle) : Int := ((live - hold).extractLsb' 16 16).toInt

/-- The quadrature error the lock gate admits (R28). -/
def Tracker.admitted (t : Tracker) : Int := if t.lock then t.quadrature else 0

/-- An accepted cell's q, a, lock and jump reading, formed from the cell angles before anything advances (R26 to R28, R38). -/
def Tracker.measure (b : Bank) (supply : PerPhase Int) (t : Tracker) : Tracker :=
  let a := amplitudeEstimate t.live supply
  let valid : Bool := (b.lockLevel : Int) ≤ a
  { t with
    quadrature := quadratureError t.live supply
    amplitude := a
    lock := valid
    jump := if valid then jumpReading t.live t.hold else t.jump }

/-- The phase and frequency updates of an accepted cell (R29, R30), with the acquisition step of R31. -/
def Tracker.advance (b : Bank) (acquiring : Bool) (t : Tracker) : Tracker :=
  let next := t.live + BitVec.ofInt 32 (b.nominalStep + t.offset + b.trackKp * t.admitted)
  { t with
    live := if acquiring && !t.lock then next + BitVec.ofNat 32 Config.quarterCycle else next
    offset := b.clampOffset (t.offset + b.trackKi * t.admitted / 256) }

/-- The live part for an accepted cell (R26). -/
def Tracker.liveAccepted (b : Bank) (acquiring : Bool) (supply : PerPhase Int) (t : Tracker) : Tracker :=
  (t.measure b supply).advance b acquiring

/-- The live part for a missing cell: no correction (R32). -/
def Tracker.liveMissing (b : Bank) (t : Tracker) : Tracker :=
  { t with live := t.live + BitVec.ofInt 32 (b.nominalStep + t.offset) }

/-- The cell is a zero crossing: the live phase, read unsigned, is less after the advance than before it (R39). -/
def zeroCrossing (before after : Tracker) : Bool := decide (after.live.toNat < before.live.toNat)

/-- The hold part where the follow condition fails: the held reference coasts (R35). -/
def Tracker.coast (b : Bank) (t : Tracker) : Tracker :=
  { t with hold := t.hold + BitVec.ofInt 32 (b.nominalStep + t.holdOffset) }

/-- The hold part where the follow condition holds: the held reference takes the live values; A_ref only in an accepted cell
(R34). -/
def Tracker.follow (b : Bank) (accepted : Bool) (t : Tracker) : Tracker :=
  { t with
    hold := t.live
    holdOffset := t.offset
    amplitudeRef := if accepted then b.clampAmplitude t.amplitude else t.amplitudeRef }

/-- The tracker's commit effect: A_ref, F and F_hold clamped into the active bank's bands (R37). -/
def Tracker.commit (active : Bank) (t : Tracker) : Tracker :=
  { t with
    amplitudeRef := active.clampAmplitude t.amplitudeRef
    offset := active.clampOffset t.offset
    holdOffset := active.clampOffset t.holdOffset }

/-- The hold part (R34, R35). When a commit took effect after the cell's acceptance and the hold follows, the stored values
are clamped into the active bank's bands as well (R37). -/
def Tracker.holdPart (b active : Bank) (follows accepted committed : Bool) (t : Tracker) : Tracker :=
  if follows then (if committed then (t.follow b accepted).commit active else t.follow b accepted) else t.coast b

end Sys2Proof.Machine
end

