-- ==== Sys2Proof/Machine/SagMonitor.lean ====
section
/-! DEFINITION. The Sag Monitor's work on a cell (03_sag_detection.md): windows and retained voltages, deviation, the burst
timer, the elapsed count, the sag state with the worst values and the class; QUIET entry and the commit effect. -/
namespace Sys2Proof.Machine

/-- U_nom = floor(NOMINAL_PEAK × 46341 / 65536) (R43). -/
def Bank.nominalRms (b : Bank) : Nat := b.nominalPeak * 46341 / 65536

/-- The sum of the squares of samples. -/
def squares : List Int → Nat
  | [] => 0
  | x :: rest => x.natAbs * x.natAbs + squares rest

/-- A window of at most `size` samples and the sum of its squares. -/
structure Window where
  samples : List Int
  sum : Nat
deriving DecidableEq, Repr

/-- The oldest samples leave until at most `size` remain, their squares subtracted (R42, R44). -/
def Window.trim (size : Nat) (w : Window) : Window :=
  let leaving := w.samples.length - size
  { samples := w.samples.drop leaving, sum := w.sum - squares (w.samples.take leaving) }

/-- A sample joins the tail, its square added, and the oldest leaves where the window was full (R42). -/
def Window.join (size : Nat) (w : Window) (x : Int) : Window :=
  Window.trim size { samples := w.samples ++ [x], sum := w.sum + x.natAbs * x.natAbs }

/-- The retained voltage of a window that holds a sample (R43). -/
def retainedOf (b : Bank) (w : Window) : Nat :=
  min 2000 (1000 * isqrt (w.sum / w.samples.length) / b.nominalRms)

/-- A phase's window. -/
def Monitor.window (m : Monitor) (p : Phase) : Window := ⟨m.windows.get p, m.sums.get p⟩

/-- The monitor with its three windows replaced. -/
def Monitor.setWindows (m : Monitor) (w : PerPhase Window) : Monitor :=
  { m with windows := w.map Window.samples, sums := w.map Window.sum }

/-- The windows emptied (R42, R58). -/
def Monitor.emptyWindows (m : Monitor) : Monitor := { m with windows := ⟨[], [], []⟩, sums := ⟨0, 0, 0⟩ }

/-- The retained voltages recomputed from the windows; a phase whose window holds no sample keeps its value (R43). -/
def Monitor.remeasure (b : Bank) (m : Monitor) : Monitor :=
  let retained := PerPhase.build fun p => if m.windows.get p = [] then m.retained.get p else retainedOf b (m.window p)
  { m with retained := retained, minRetained := phaseLeast retained }

/-- The window update of an accepted cell (R42, R43). -/
def Monitor.joinSamples (b : Bank) (supply : PerPhase Int) (m : Monitor) : Monitor :=
  (m.setWindows (PerPhase.build fun p => (m.window p).join b.halfWindow (supply.get p))).remeasure b

/-- The window update of a missing cell: a copy of the last sample that joined (R42, R43). -/
def Monitor.repeatSamples (b : Bank) (m : Monitor) : Monitor :=
  (m.setWindows (PerPhase.build fun p =>
    match (m.windows.get p).getLast? with
    | none => m.window p
    | some x => (m.window p).join b.halfWindow x)).remeasure b

/-- The reference r_p the held reference predicts for a phase, which is also FULL's target sample (R45, R104). -/
def targetSample (amplitude : Nat) (angle : Angle) (p : Phase) : Int :=
  (amplitude : Int) * sineAt (phaseAngle angle p) / 32768

/-- The largest of |d_A|, |d_B| and |d_C| (R45). -/
def largestDeviation (amplitudeRef : Nat) (hold : Angle) (supply : PerPhase Int) : Nat :=
  phaseMost (PerPhase.build fun p => (targetSample amplitudeRef hold p - supply.get p).natAbs)

/-- The cell is deviating: a difference equal to TRIP_DEVIATION does not deviate (R45). -/
def deviating (b : Bank) (amplitudeRef : Nat) (hold : Angle) (supply : PerPhase Int) : Bool :=
  decide (b.tripDeviation < largestDeviation amplitudeRef hold supply)

/-- The burst timer's countdown (R56). -/
def Monitor.countBurst (m : Monitor) : Monitor := { m with burstTimer := m.burstTimer - 1 }

/-- An event is in progress: SAG or RECOVERING. -/
def SagState.inEvent : SagState → Bool
  | .sag => true
  | .recovering => true
  | .acquiring => false
  | .normal => false
  | .suspect => false

/-- ACQUIRING or NORMAL: the states in which the part is quiet (R34, R134, R181). -/
def SagState.quietState : SagState → Bool
  | .acquiring => true
  | .normal => true
  | .suspect => false
  | .sag => false
  | .recovering => false

/-- The elapsed count's advance, saturating (R50). -/
def Monitor.countElapsed (m : Monitor) : Monitor :=
  if m.sag.inEvent then { m with elapsed := saturateAdd Config.counterMax m.elapsed 1 } else m

/-- The cell shows unbalance (R49, R51). -/
def Monitor.unbalanced (b : Bank) (m : Monitor) : Bool := decide (b.unbalanceThreshold ≤ phaseMost m.retained - m.minRetained)

/-- The worst values started from this cell (R49). -/
def Monitor.freshWorst (b : Bank) (jump : Int) (m : Monitor) : Worst :=
  { lowest := m.retained, lowestMin := m.minRetained, jumpMax := jump.natAbs, unbalance := m.unbalanced b }

/-- The worst values updated from this cell (R51). -/
def Monitor.worsened (b : Bank) (jump : Int) (m : Monitor) : Worst :=
  { lowest := PerPhase.build fun p => min (m.worst.lowest.get p) (m.retained.get p)
    lowestMin := min m.worst.lowestMin m.minRetained
    jumpMax := max m.worst.jumpMax jump.natAbs
    unbalance := m.worst.unbalance || m.unbalanced b }

/-- The depth band (R52). -/
def depthBand (lowestMin : Nat) : Nat :=
  if 800 ≤ lowestMin then 0 else if 500 ≤ lowestMin then 1 else if 200 ≤ lowestMin then 2 else 3

/-- The class formed from worst values (R52). -/
def classOf (b : Bank) (w : Worst) : Nat :=
  depthBand w.lowestMin * 4 + (if b.jumpThreshold ≤ w.jumpMax then 2 else 0) + (if w.unbalance then 1 else 0)

/-- What the settling of the sag state leaves: the monitor, the marks, and the class handed on with the cell. -/
structure Settled where
  monitor : Monitor
  marks : Marks
  published : Option Nat
deriving DecidableEq, Repr

/-- A settling with no mark; the class handed on is the published one. -/
def Settled.plain (m : Monitor) : Settled := ⟨m, Marks.clear, m.published⟩

/-- The confirmation cell (R49). -/
def Monitor.confirm (b : Bank) (jump : Int) (m : Monitor) : Settled :=
  let burst := if 0 < m.burstTimer then min 255 (m.lastBurst + 1) else 0
  { monitor :=
      { m with
        sag := .sag, elapsed := 0, recoveryCount := 0, classified := false, published := none,
        worst := m.freshWorst b jump, lastBurst := burst }
    marks := { Marks.clear with confirmation := true }
    published := none }

/-- The event's end with cause RECOVERED (R55); the class handed on is the cell's own. -/
def Monitor.endEvent (b : Bank) (marks : Marks) (m : Monitor) : Settled :=
  { monitor := { m with sag := .normal, deviationCount := 0, burstTimer := b.burstWindow, published := none }
    marks := { marks with eventEnd := true }
    published := m.published }

/-- The class formed again and published, where the event is classified (R52). -/
def Monitor.publish (b : Bank) (m : Monitor) : Monitor :=
  if m.classified then { m with published := some (classOf b m.worst) } else m

/-- The class published now is higher than the one published at the previous accepted cell (R52). -/
def classRises (before after : Option Nat) : Bool :=
  match before, after with
  | some x, some y => decide (x < y)
  | _, _ => false

/-- An accepted cell in ACQUIRING (R46). -/
def Monitor.settleAcquiring (b : Bank) (m : Monitor) : Settled :=
  let n := m.acquireCount + 1
  .plain { m with acquireCount := n, sag := if b.acquireCells ≤ n then .normal else .acquiring }

/-- An accepted cell in NORMAL (R47). -/
def Monitor.settleNormal (b : Bank) (deviates : Bool) (jump : Int) (m : Monitor) : Settled :=
  if deviates then
    if 2 ≤ b.confirmCount then .plain { m with sag := .suspect, deviationCount := 1 }
    else Monitor.confirm b jump { m with deviationCount := 1 }
  else .plain { m with deviationCount := 0 }

/-- An accepted cell in SUSPECT (R48). -/
def Monitor.settleSuspect (b : Bank) (deviates : Bool) (jump : Int) (m : Monitor) : Settled :=
  if deviates then
    if b.confirmCount ≤ m.deviationCount + 1 then
      Monitor.confirm b jump { m with deviationCount := m.deviationCount + 1 }
    else .plain { m with deviationCount := m.deviationCount + 1 }
  else .plain { m with sag := .normal, deviationCount := 0 }

/-- An accepted cell in SAG (R51 to R53). The worst values are updated in a cell whose sag state stays SAG, and in the
classification point cell before the recovery test (R41, R51). -/
def Monitor.settleSag (b : Bank) (jump : Int) (m : Monitor) : Settled :=
  let point : Bool := !m.classified && decide (b.halfWindow ≤ m.elapsed)
  let classified := m.classified || point
  let recovers : Bool := classified && decide (b.recoveryLevel ≤ m.minRetained)
  let worst := if point || !recovers then m.worsened b jump else m.worst
  let m1 := Monitor.publish b { m with worst := worst, classified := classified }
  let marks :=
    { Marks.clear with
      classificationPoint := point, classRise := m.classified && classRises m.published m1.published,
      recoveryEntry := recovers }
  if recovers then
    if b.recoveryHold ≤ 1 then Monitor.endEvent b marks { m1 with recoveryCount := 1 }
    else { monitor := { m1 with sag := .recovering, recoveryCount := 1 }, marks := marks, published := m1.published }
  else { monitor := m1, marks := marks, published := m1.published }

/-- An accepted cell in RECOVERING (R54). -/
def Monitor.settleRecovering (b : Bank) (jump : Int) (m : Monitor) : Settled :=
  if b.recoveryLevel ≤ m.minRetained then
    let m1 := Monitor.publish b { m with recoveryCount := m.recoveryCount + 1 }
    let marks := { Marks.clear with classRise := classRises m.published m1.published }
    if b.recoveryHold ≤ m.recoveryCount + 1 then Monitor.endEvent b marks m1
    else { monitor := m1, marks := marks, published := m1.published }
  else
    let m1 := Monitor.publish b { m with sag := .sag, recoveryCount := 0, worst := m.worsened b jump }
    { monitor := m1
      marks := { Marks.clear with returnToSag := true, classRise := classRises m.published m1.published }
      published := m1.published }

/-- The sag state settled for an accepted cell (section 3.4). -/
def Monitor.settle (b : Bank) (deviates : Bool) (jump : Int) (m : Monitor) : Settled :=
  match m.sag with
  | .acquiring => m.settleAcquiring b
  | .normal => m.settleNormal b deviates jump
  | .suspect => m.settleSuspect b deviates jump
  | .sag => m.settleSag b jump
  | .recovering => m.settleRecovering b jump

/-- What a link-return cell does before its own sample joins: the windows are emptied and the acquire count set to 0 (R46,
R58). -/
def Monitor.linkReturn (m : Monitor) : Monitor := { m.emptyWindows with acquireCount := 0 }

/-- The monitor's measures for an accepted cell: windows, burst countdown, elapsed count (R41). -/
def Monitor.measure (b : Bank) (linkReturn : Bool) (supply : PerPhase Int) (m : Monitor) : Monitor :=
  (((if linkReturn then m.linkReturn else m).joinSamples b supply).countBurst).countElapsed

/-- The monitor's work on an accepted cell, in the order of R41. -/
def Monitor.workAccepted (b : Bank) (linkReturn : Bool) (supply : PerPhase Int) (amplitudeRef : Nat) (hold : Angle)
    (jump : Int) (m : Monitor) : Settled :=
  (m.measure b linkReturn supply).settle b (deviating b amplitudeRef hold supply) jump

/-- The monitor's work on a missing cell: windows, burst countdown and elapsed count; no decision (R42, R45, R50, R56). -/
def Monitor.workMissing (b : Bank) (m : Monitor) : Monitor := ((m.repeatSamples b).countBurst).countElapsed

/-- QUIET entry (R57). -/
def Monitor.quietEntry (m : Monitor) : Monitor :=
  { m with
    sag := .acquiring, deviationCount := 0, recoveryCount := 0, acquireCount := 0, classified := false,
    published := none, burstTimer := 0 }

/-- The monitor's commit effect: windows longer than the new HALF_WINDOW lose their oldest samples (R44). -/
def Monitor.commit (active : Bank) (m : Monitor) : Monitor :=
  m.setWindows (PerPhase.build fun p => (m.window p).trim active.halfWindow)

end Sys2Proof.Machine
end

