-- ==== Sys2Proof/Machine/Flags.lean ====
section
/-! DEFINITION. The Flag Unit (section 9.2): the flags and their indices, latching and unlatching, conditions, the report
masks, ALERT and the attention code. -/
namespace Sys2Proof.Machine

/-- The flags of the device, in index order 0 to 10 (R150). -/
inductive DeviceFlag where
  | linkQuiet | crcSeen | shapeSeen | epochSeen | seqBreak | manageOverrun | mapAbandoned | eventDiscard | storeHot
  | imageFault | feederChange
deriving DecidableEq, Repr

/-- A feeder's flags, in offset order 0 to 4 (R150). -/
inductive FeederFlag where
  | overcurrent | verify | checkFail | operator | heat
deriving DecidableEq, Repr

def DeviceFlag.index : DeviceFlag → Nat
  | .linkQuiet => 0
  | .crcSeen => 1
  | .shapeSeen => 2
  | .epochSeen => 3
  | .seqBreak => 4
  | .manageOverrun => 5
  | .mapAbandoned => 6
  | .eventDiscard => 7
  | .storeHot => 8
  | .imageFault => 9
  | .feederChange => 10

def FeederFlag.offset : FeederFlag → Nat
  | .overcurrent => 0
  | .verify => 1
  | .checkFail => 2
  | .operator => 3
  | .heat => 4

/-- Feeder f's flag with offset k stands at index 11 + 5f + k (R150). -/
def FeederFlag.index (k : FeederFlag) (f : Feeder) : Nat := 11 + 5 * f.number + k.offset

/-- The flag set with the one index given. -/
def flagBit (index : Nat) : BitVec 32 := 1#32 <<< index

/-- A flag's cause occurs: it is latched, whatever its mask (R150). -/
def FlagUnit.latchIndex (u : FlagUnit) (index : Nat) : FlagUnit := { u with latched := u.latched ||| flagBit index }

def FlagUnit.latch (u : FlagUnit) (k : DeviceFlag) : FlagUnit := u.latchIndex k.index

def FlagUnit.latchFeeder (u : FlagUnit) (k : FeederFlag) (f : Feeder) : FlagUnit := u.latchIndex (k.index f)

/-- Latch a device flag where a condition holds. -/
def FlagUnit.latchIf (u : FlagUnit) (condition : Bool) (k : DeviceFlag) : FlagUnit := if condition then u.latch k else u

/-- Latch a feeder flag for every feeder of a set. -/
def FlagUnit.latchFeeders (u : FlagUnit) (k : FeederFlag) (on : PerFeeder Bool) : FlagUnit :=
  Feeder.all.foldl (fun v f => if on.get f then v.latchFeeder k f else v) u

/-- FEEDER_CHANGE raised for a feeder (R156). -/
def FlagUnit.raiseChange (u : FlagUnit) (f : Feeder) : FlagUnit :=
  { u.latch .feederChange with changed := u.changed.set f true }

/-- FEEDER_CHANGE raised for every feeder whose state differs before and after (R156). -/
def FlagUnit.raiseChanges (u : FlagUnit) (before after : PerFeeder Engine) : FlagUnit :=
  Feeder.all.foldl (fun v f => if (before.get f).state = (after.get f).state then v else v.raiseChange f) u

/-- FEEDER_CHANGE unlatched, its set emptied (R156). -/
def FlagUnit.clearChange (u : FlagUnit) : FlagUnit :=
  { u with latched := u.latched &&& ~~~(flagBit DeviceFlag.feederChange.index), changed := PerFeeder.fill false }

def FlagUnit.isLatched (u : FlagUnit) (index : Nat) : Bool := u.latched.getLsbD index

/-- A flag that calls for attention: latched and reported (R153). -/
def FlagUnit.calls (u : FlagUnit) (index : Nat) : Bool := (u.latched &&& u.reported).getLsbD index

/-- A feeder's five flags (R93). -/
def feederFlagBits (f : Feeder) : BitVec 32 := 0x1F#32 <<< (11 + 5 * f.number)

/-- None of a feeder's five flags is latched (R93). -/
def FlagUnit.feederClear (u : FlagUnit) (f : Feeder) : Bool := u.latched &&& feederFlagBits f = 0

/-- The flags whose conditions hold (R150): link QUIET, store HOT, each feeder's overcurrent condition and heat sink. -/
def heldConditions (link : LinkState) (storeHot : Bool) (overcurrent sinkHot : PerFeeder Bool) : BitVec 32 :=
  let device := (if link = .quiet then flagBit 0 else 0) ||| (if storeHot then flagBit 8 else 0)
  Feeder.all.foldl (fun v f =>
    v ||| (if overcurrent.get f then flagBit (FeederFlag.overcurrent.index f) else 0)
      ||| (if sinkHot.get f then flagBit (FeederFlag.heat.index f) else 0)) device

/-- The flag set two payload words carry: word 0 holds indices 0 to 15, word 1 indices 16 to 31; index 31 names no flag and
is ignored (R150). -/
def flagSetOf (w0 w1 : Word) : BitVec 32 := (w1 ++ w0) &&& allFlags

/-- The two payload words that carry a flag set (R150). -/
def flagSetWords (v : BitVec 32) : List Word := [v.extractLsb' 0 16, v.extractLsb' 16 16]

/-- CLEAR_FLAGS on the unit (R151, R152): each named flag whose condition does not hold is unlatched; FEEDER_CHANGE named has
its set emptied. -/
def FlagUnit.clear (u : FlagUnit) (named conditions : BitVec 32) : FlagUnit :=
  { u with
    latched := u.latched &&& ~~~(named &&& ~~~conditions)
    changed := if named.getLsbD DeviceFlag.feederChange.index then PerFeeder.fill false else u.changed }

/-- SET_REPORT on the unit (R153). -/
def FlagUnit.report (u : FlagUnit) (named : BitVec 32) : FlagUnit := { u with reported := named &&& allFlags }

/-- The ALERT output: active while a reported flag is latched (R154). -/
def FlagUnit.alert (u : FlagUnit) : Bool := u.latched &&& u.reported ≠ 0

/-- A cause of the attention code (R155). -/
inductive Cause where
  | feeder (k : FeederFlag)
  | device (k : DeviceFlag)
deriving DecidableEq, Repr

/-- The causes by priority, 1 first (R155). -/
def causesByPriority : List Cause :=
  [.feeder .overcurrent, .feeder .verify, .feeder .checkFail, .device .linkQuiet, .device .storeHot, .feeder .heat,
   .feeder .operator, .device .mapAbandoned, .device .eventDiscard, .device .manageOverrun, .device .seqBreak,
   .device .crcSeen, .device .shapeSeen, .device .epochSeen, .device .imageFault, .device .feederChange]

/-- The feeder field of a cause that calls for attention, none where it does not call (R155). -/
def FlagUnit.feederField (u : FlagUnit) : Cause → Option Nat
  | .feeder k => (Feeder.all.find? (fun f => u.calls (k.index f))).map Feeder.number
  | .device .feederChange =>
    if u.calls DeviceFlag.feederChange.index then
      some (((Feeder.all.find? (fun f => u.changed.get f)).map Feeder.number).getD 7)
    else none
  | .device k => if u.calls k.index then some 7 else none

/-- The attention code from the causes of priority `priority` on (R155). -/
def FlagUnit.attentionFrom (u : FlagUnit) : List Cause → Nat → BitVec 8
  | [], _ => 7#8
  | c :: rest, priority =>
    match u.feederField c with
    | some f => BitVec.ofNat 8 (priority * 8 + f)
    | none => u.attentionFrom rest (priority + 1)

/-- The attention code: cause in bits 7 to 3, feeder in bits 2 to 0; 0x07 when nothing calls (R155, section 1.5). -/
def FlagUnit.attention (u : FlagUnit) : BitVec 8 := u.attentionFrom causesByPriority 1

/-- The ALERT output of the part (R154). -/
def State.alert (s : State) : Bool := s.flags.alert

end Sys2Proof.Machine
end

