-- ==== Sys2Proof/Machine/Operands.lean ====
section
/-! DEFINITION. The words the supervisor, the concentrator and the gate drives see (section 1.5): reading the header and the
body of an arriving cell, the command table (R16), and building DRIVE and REPLY cells. -/
namespace Sys2Proof.Machine

/-! ### Codes -/

def LinkState.code : LinkState → Nat
  | .down => 0
  | .up => 1
  | .quiet => 2

def SagState.code : SagState → Nat
  | .acquiring => 0
  | .normal => 1
  | .suspect => 2
  | .sag => 3
  | .recovering => 4

def FeederState.code : FeederState → Nat
  | .offline => 0
  | .enlisting => 1
  | .checking => 2
  | .standby => 3
  | .injecting => 4
  | .releasing => 5
  | .shed => 6
  | .lockout => 7
  | .retiring => 8

def Result.code : Result → Nat
  | .done => 0
  | .clamped => 1
  | .accepted => 2
  | .empty => 3
  | .refusedState => 4
  | .refusedBusyMap => 5
  | .refusedEvent => 6
  | .invalidTable => 7
  | .unknownItem => 8
  | .malformed => 9
  | .stale => 10
  | .expired => 11
  | .writeFailed => 12

/-! ### The header -/

/-- The kind field of a header, bits 15 to 12. -/
def headerKind (h : Word) : BitVec 4 := h.extractLsb' 12 4

/-- The epoch field of a header, bits 11 to 8. -/
def headerEpoch (h : Word) : BitVec 4 := h.extractLsb' 8 4

/-- The sequence or tag field of a header, bits 7 to 0. -/
def headerTag (h : Word) : BitVec 8 := h.extractLsb' 0 8

/-- A header word. -/
def headerWord (kind epoch : BitVec 4) (tag : BitVec 8) : Word := kind ++ epoch ++ tag

def kindSense : BitVec 4 := 1
def kindManage : BitVec 4 := 2
def kindDrive : BitVec 4 := 9
def kindReply : BitVec 4 := 10

/-! ### SENSE cells -/

/-- The slots in the words after the housekeeping word, six words each (R3). -/
def slotsOf : List Word → List Slot
  | la :: lb :: lc :: ia :: ib :: ic :: rest =>
    ⟨⟨la.signed, lb.signed, lc.signed⟩, ⟨ia.signed, ib.signed, ic.signed⟩⟩ :: slotsOf rest
  | _ => []

/-- Word i of a cell. -/
def wordAt (words : List Word) (i : Nat) : Word := words.getD i 0

/-- A SENSE cell's contents (R3); the check word is left out. -/
def senseOf (words : List Word) : Sense :=
  { epoch := headerEpoch (wordAt words 0)
    sequence := headerTag (wordAt words 0)
    supply := ⟨(wordAt words 1).signed, (wordAt words 2).signed, (wordAt words 3).signed⟩
    store := (wordAt words 4).toNat
    housekeeping := wordAt words 5
    slots := slotsOf ((words.dropLast).drop 6) }

/-- The words a SENSE cell with n slots has (R3). -/
def senseLength (n : Nat) : Nat := 7 + 6 * n

/-- The slot of a feeder in a cell whose slots follow a map: slots stand in the map's order (R125). -/
def slotOf : List Feeder → List Slot → Feeder → Slot
  | g :: map, x :: slots, f => if g = f then x else slotOf map slots f
  | _, _, _ => ⟨⟨0, 0, 0⟩, ⟨0, 0, 0⟩⟩

/-- A housekeeping word's channel and 12-bit reading, where it is valid: top bit 0 and channel 0 to 4 (R18). -/
def housekeepingReading (w : Word) : Option (Nat × Nat) :=
  let channel := (w.extractLsb' 12 3).toNat
  if w.getLsbD 15 = false ∧ channel ≤ 4 then some (channel, (w.extractLsb' 0 12).toNat) else none

/-! ### MANAGE cells and the command table -/

/-- The commands of the command table (R16). -/
inductive Command where
  | enquire | readSetting | writeSetting | loadEnvelope | loadResponse | commitNow | commitSync | discardShadow | enlist
  | retire | forceBypass | clearFlags | setReport | readCounters | writeCounter | readEvent | releaseEvent | readLive
  | setEcho | saveImage | deviceReset
deriving DecidableEq, Repr

/-- The command a code names (R16). -/
def Command.ofCode (code : Nat) : Option Command :=
  match code with
  | 0x01 => some .enquire
  | 0x02 => some .readSetting
  | 0x03 => some .writeSetting
  | 0x04 => some .loadEnvelope
  | 0x05 => some .loadResponse
  | 0x06 => some .commitNow
  | 0x07 => some .commitSync
  | 0x08 => some .discardShadow
  | 0x09 => some .enlist
  | 0x0A => some .retire
  | 0x0B => some .forceBypass
  | 0x0C => some .clearFlags
  | 0x0D => some .setReport
  | 0x0E => some .readCounters
  | 0x0F => some .writeCounter
  | 0x10 => some .readEvent
  | 0x11 => some .releaseEvent
  | 0x12 => some .readLive
  | 0x13 => some .setEcho
  | 0x14 => some .saveImage
  | 0x15 => some .deviceReset
  | _ => none

/-- Target 15: the device as a whole (R16). -/
def deviceTarget : BitVec 4 := 15

/-- The targets a command allows (R16). -/
def Command.allowsTarget (c : Command) (target : BitVec 4) : Bool :=
  match c with
  | .readSetting | .writeSetting => target.toNat ≤ 3 || target = deviceTarget
  | .loadEnvelope | .loadResponse | .enlist | .retire | .forceBypass => target.toNat ≤ 3
  | .enquire | .commitNow | .commitSync | .discardShadow | .clearFlags | .setReport | .readCounters | .writeCounter
  | .readEvent | .releaseEvent | .readLive | .setEcho | .saveImage | .deviceReset => target = deviceTarget

/-- The payloads whose length a command allows (R16); LOAD_ENVELOPE's length follows its first word. -/
def Command.allowsLength (c : Command) (payload : List Word) : Bool :=
  match c with
  | .enquire | .commitNow | .commitSync | .discardShadow | .enlist | .retire | .forceBypass | .readCounters | .readLive
  | .saveImage | .deviceReset => payload.length = 0
  | .readSetting | .clearFlags | .setReport | .writeCounter => payload.length = 2
  | .writeSetting => payload.length = 3
  | .readEvent | .releaseEvent | .setEcho => payload.length = 1
  | .loadEnvelope =>
    match payload with
    | [] => false
    | r :: _ => decide (1 ≤ r.toNat) && decide (r.toNat ≤ 8) && decide (payload.length = 1 + 2 * r.toNat)
  | .loadResponse => decide (payload.length % 2 = 0) && decide (2 ≤ payload.length) && decide (payload.length ≤ 32)

/-- The command table's check (R16): code, target and length. -/
def commandTableAllows (code : BitVec 8) (target : BitVec 4) (payload : List Word) : Bool :=
  match Command.ofCode code.toNat with
  | none => false
  | some c => c.allowsTarget target && c.allowsLength payload

/-- The queue entry of a MANAGE cell: header, command word, length word, payload, check word (R3, R15, R16). -/
def requestOf (words : List Word) : Request :=
  let command := wordAt words 1
  let payload := (words.dropLast).drop 3
  { tag := headerTag (wordAt words 0)
    code := command.extractLsb' 8 8
    target := command.extractLsb' 0 4
    payload := payload
    malformed := !commandTableAllows (command.extractLsb' 8 8) (command.extractLsb' 0 4) payload }

/-- The command of an entry that passed the command table. -/
def Request.command (r : Request) : Option Command := if r.malformed then none else Command.ofCode r.code.toNat

/-- The feeder an entry's target names. -/
def Request.feeder (r : Request) : Option Feeder := Feeder.ofNumber r.target.toNat

/-! ### Outbound cells -/

/-- The slot control word (section 1.5). -/
def slotControlWord (bypassClosed modulator : Bool) (state : FeederState) : Word :=
  Word.ofNumber ((if bypassClosed then 32768 else 0) + (if modulator then 16384 else 0) + state.code)

/-- The device status word (section 1.5). -/
def deviceStatusWord (sagState : SagState) (link : LinkState) (echo : Bool) (attention : BitVec 8) : Word :=
  Word.ofNumber (sagState.code * 8192 + link.code * 2048 + (if echo then 1024 else 0) + attention.toNat)

/-- A DRIVE cell (R4) from its header fields, its status word and the four words of each slot. -/
def driveCell (epoch : BitVec 4) (sequence : BitVec 8) (status : Word) (slotWords : List Word) : List Word :=
  withCrc (headerWord kindDrive epoch sequence :: status :: slotWords)

/-- The four words of a slot: three words and the slot control word (R4). -/
def slotWords (x : PerPhase Int) (control : Word) : List Word :=
  [Word.ofSigned x.a, Word.ofSigned x.b, Word.ofSigned x.c, control]

/-- A REPLY cell (R4, R21). -/
def replyCell (epoch : BitVec 4) (attention : BitVec 8) (r : Reply) : List Word :=
  withCrc (headerWord kindReply epoch r.tag :: Word.ofNumber (r.result.code * 256 + attention.toNat)
    :: Word.ofNumber r.payload.length :: r.payload)

end Sys2Proof.Machine
end

