-- ==== Sys2Proof/Machine/StoreUnit.lean ====
section
/-! DEFINITION. The Store Account's work on an accepted cell (07_store_energy_and_housekeeping.md): E‰, the reading lists and
their means, the heat states, and the effective shed and rearm levels. -/
namespace Sys2Proof.Machine

/-- E‰ of a store voltage (R115). -/
def energyLevel (b : Bank) (v : Nat) : Nat :=
  if v ≤ b.storeFloor then 0
  else if b.storeFull ≤ v then 1000
  else 1000 * (v * v - b.storeFloor * b.storeFloor) / (b.storeFull * b.storeFull - b.storeFloor * b.storeFloor)

/-- A list that holds more readings than the average's length loses its oldest (R118). -/
def trimReadings (length : Nat) (readings : List Nat) : List Nat := readings.drop (readings.length - length)

/-- The mean of a list that holds at least one reading (R119). -/
def meanOf (readings : List Nat) : Option Nat :=
  if readings = [] then none else some (readings.sum / readings.length)

/-- A heat state settled from a mean: HOT at `limit`, left at `limit` minus the hysteresis; no mean is not HOT (R119 to
R121). -/
def heatState (limit hysteresis : Nat) (hot : Bool) (mean : Option Nat) : Bool :=
  match mean with
  | none => false
  | some m => if hot then !decide ((m : Int) ≤ (limit : Int) - (hysteresis : Int)) else decide (limit ≤ m)

/-- L_sh (R116). -/
def shedLevelOf (fb : FeederBank) (storeHot : Bool) : Nat :=
  if storeHot then min 999 (fb.shedLevel + 200) else fb.shedLevel

/-- L_re (R117). -/
def rearmLevelOf (fb : FeederBank) (shedLevel : Nat) : Nat := max fb.rearmLevel (shedLevel + 1)

/-- A valid reading joins the tail of its channel's list; then every list is trimmed (R118). -/
def StoreAccount.takeReading (b : Bank) (reading : Option (Nat × Nat)) (a : StoreAccount) : StoreAccount :=
  let storeList :=
    match reading with
    | some (0, v) => a.storeReadings ++ [v]
    | _ => a.storeReadings
  let sinkLists := PerFeeder.build fun f =>
    match reading with
    | some (channel, v) =>
      if channel = f.number + 1 then a.sinkReadings.get f ++ [v] else a.sinkReadings.get f
    | none => a.sinkReadings.get f
  { a with
    storeReadings := trimReadings b.housekeepingAverage storeList
    sinkReadings := sinkLists.map (trimReadings b.housekeepingAverage) }

/-- The means of the lists, the heat states from the means, and the levels from the store heat state (R114, steps 3 to 5). -/
def StoreAccount.settle (b : Bank) (a : StoreAccount) : StoreAccount :=
  let storeMean := meanOf a.storeReadings
  let sinkMeans := a.sinkReadings.map meanOf
  let storeHot := heatState b.storeHeatLimit b.heatHysteresis a.storeHot storeMean
  let sinkHot := PerFeeder.build fun f => heatState b.heatLimit b.heatHysteresis (a.sinkHot.get f) (sinkMeans.get f)
  let shed := PerFeeder.build fun f => shedLevelOf (b.feeder f) storeHot
  { a with
    storeMean := storeMean, sinkMeans := sinkMeans, storeHot := storeHot, sinkHot := sinkHot, shedLevels := shed,
    rearmLevels := PerFeeder.build fun f => rearmLevelOf (b.feeder f) (shed.get f) }

/-- The Store Account's work on an accepted cell (R114). -/
def StoreAccount.work (b : Bank) (voltage : Nat) (housekeeping : Word) (a : StoreAccount) : StoreAccount :=
  (({ a with energy := energyLevel b voltage }).takeReading b (housekeepingReading housekeeping)).settle b

/-- The flags of entries to HOT between two states of the account (R114, R120, R121). -/
def FlagUnit.heatEntries (u : FlagUnit) (before after : StoreAccount) : FlagUnit :=
  (u.latchIf (after.storeHot && !before.storeHot) .storeHot).latchFeeders .heat
    (PerFeeder.build fun f => after.sinkHot.get f && !before.sinkHot.get f)

end Sys2Proof.Machine
end

