-- ==== Sys2Proof/Machine/Responses.lean ====
section
/-! DEFINITION. Envelopes and Responses (04_envelopes_and_responses.md): what a Feeder Engine reads of a cell, the need for
support, and the four lookups with their answers. -/
namespace Sys2Proof.Machine

/-- The values one engine reads in its work on a cell (R81, R101): its settings, what the Sag Monitor, the Phase Tracker and
the Store Account handed on, the echo setting and its slot of the SENSE cell. -/
structure CellView where
  settings : FeederBank
  sag : SagState
  marks : Marks
  elapsed : Nat
  published : Option Nat
  classified : Bool
  minRetained : Nat
  burstExpired : Bool
  energy : Nat
  shedLevel : Nat
  rearmLevel : Nat
  sinkHot : Bool
  echo : Bool
  /-- an event record is open (R91, R96) -/
  eventOpen : Bool
  live : Angle
  hold : Angle
  amplitudeRef : Nat
  supply : PerPhase Int
  slot : Slot
deriving DecidableEq, Repr

/-- The envelope floor f(e): the floor of the last row whose duration is at most e (R62). -/
def envelopeFloor (rows : List EnvelopeRow) (e : Nat) : Nat :=
  match (rows.filter fun r => r.duration ≤ e).getLast? with
  | some r => r.floor
  | none => 0

/-- The support level, min(1000, f(e) + MARGIN) (R63). -/
def supportLevel (fb : FeederBank) (e : Nat) : Nat := min 1000 (envelopeFloor fb.envelope e + fb.margin)

/-- The feeder needs support in the cell (R63). -/
def CellView.needsSupport (v : CellView) : Bool := decide (v.minRetained < supportLevel v.settings v.elapsed)

/-- Response[c] (R64). -/
def FeederBank.responseTo (fb : FeederBank) (c : Nat) : Mode := fb.response.getD c .full

/-- A lookup's answer (section 4.3). -/
inductive Answer where
  | noChange
  | start (m : Mode)
  | inject (m : Mode)
  | goOn
  | declined
  | tolerated
deriving DecidableEq, Repr

/-- An engine after its lookup, and the lookup's answer. -/
structure Lookup where
  engine : Engine
  answer : Answer
deriving DecidableEq, Repr

/-- No lookup is made: nothing changes. -/
def Lookup.unmade (e : Engine) : Lookup := ⟨e, .noChange⟩

/-- The confirmation lookup (R68). -/
def confirmationLookup (v : CellView) (e : Engine) : Lookup :=
  match v.settings.provisionalMode with
  | .none => ⟨e, .noChange⟩
  | m => ⟨{ e with mode := m }, .start m⟩

/-- The classification lookup (R70). -/
def classificationLookup (v : CellView) (c : Nat) (e : Engine) : Lookup :=
  match v.settings.responseTo c with
  | .decline => ⟨{ e with mode := .decline }, .declined⟩
  | m => ⟨{ e with mode := m, drive := m }, if v.needsSupport then .goOn else .tolerated⟩

/-- The class-rise lookup (R71). -/
def classRiseLookup (v : CellView) (c : Nat) (e : Engine) : Lookup :=
  match v.settings.responseTo c with
  | .decline => ⟨{ e with mode := .decline }, .declined⟩
  | m => ⟨{ e with mode := m, drive := m }, .goOn⟩

/-- The standing lookup (R72). -/
def standingLookup (v : CellView) (c : Nat) (e : Engine) : Lookup :=
  if v.needsSupport then
    match v.settings.responseTo c with
    | .decline => ⟨{ e with mode := .decline }, .declined⟩
    | m => ⟨{ e with mode := m }, .inject m⟩
  else ⟨e, .noChange⟩

/-- The lookup of a feeder that began the cell INJECTING (R67, R70, R71); with neither mark it goes on. -/
def injectingLookup (v : CellView) (e : Engine) : Lookup :=
  match v.published with
  | none => ⟨e, .goOn⟩
  | some c =>
    if v.marks.classificationPoint then classificationLookup v c e
    else if v.marks.classRise then classRiseLookup v c e
    else ⟨e, .goOn⟩

/-- The cell qualifies for the standing lookup: sag state SAG, event classified, no return to SAG mark (R67, R72). -/
def CellView.standing (v : CellView) : Bool := decide (v.sag = .sag) && v.classified && !v.marks.returnToSag

/-- The standing lookup where the cell qualifies (R67, R72). -/
def standingLookupIf (v : CellView) (e : Engine) : Lookup :=
  match v.published with
  | none => Lookup.unmade e
  | some c => if v.standing then standingLookup v c e else Lookup.unmade e

end Sys2Proof.Machine
end

