-- ==== Sys2Proof/Machine/Injection.lean ====
section
/-! DEFINITION. Injection Arithmetic (06_injection_arithmetic.md): the chain from target to reference, and the path check's
pattern and comparison (section 8.4). -/
namespace Sys2Proof.Machine

/-- L_eff: the feeder's LIMIT, halved while its heat sink is HOT (R108). -/
def CellView.limit (v : CellView) : Nat := if v.sinkHot then v.settings.limit / 2 else v.settings.limit

/-- The phase-A angle a drive mode aims at (R102). -/
def CellView.aim (v : CellView) (drive : Mode) : Angle :=
  match drive with
  | .full => v.hold
  | .inPhase => v.live
  | .floor => v.live
  | .decline => v.live
  | .none => v.live

/-- The target's amplitude A (R103). -/
def CellView.targetAmplitude (v : CellView) (drive : Mode) : Nat :=
  match drive with
  | .floor => v.amplitudeRef * supportLevel v.settings v.elapsed / 1000
  | .full => v.amplitudeRef
  | .inPhase => v.amplitudeRef
  | .decline => v.amplitudeRef
  | .none => v.amplitudeRef

/-- The missing voltage e_p (R105). -/
def CellView.missingVoltage (v : CellView) (drive : Mode) (p : Phase) : Int :=
  targetSample (v.targetAmplitude drive) (v.aim drive) p - v.supply.get p

/-- The blended missing voltage b_p (R106). -/
def blended (missing : Int) (gain : Nat) : Int := missing * gain / 4096

/-- The scaled reference before the clamp (R107). -/
def CellView.scaledReference (v : CellView) (drive : Mode) (gain : Nat) (p : Phase) : Int :=
  blended (v.missingVoltage drive p) gain * v.settings.scale / 4096

/-- A reference clamped to ±L_eff (R108). -/
def CellView.clampReference (v : CellView) (x : Int) : Int := clampInt (-(v.limit : Int)) v.limit x

/-- The three references of an injecting or releasing feeder (R101 to R108). -/
def CellView.references (v : CellView) (drive : Mode) (gain : Nat) : PerPhase Int :=
  PerPhase.build fun p => v.clampReference (v.scaledReference drive gain p)

/-- How many of the three the clamp changes (R111). -/
def CellView.clampCount (v : CellView) (drive : Mode) (gain : Nat) : Nat :=
  ((PerPhase.build fun p =>
    if v.clampReference (v.scaledReference drive gain p) = v.scaledReference drive gain p then 0 else 1).toList).sum

/-- The measured injection of a phase (R112, R147). -/
def measuredInjection (supply : PerPhase Int) (slot : Slot) (p : Phase) : Int := slot.load.get p - supply.get p

/-- What one cell adds to the energy draw (R112). -/
def energyTerm (supply : PerPhase Int) (slot : Slot) : Int :=
  phaseSum (PerPhase.build fun p => measuredInjection supply slot p * slot.current.get p / 65536)

/-- The energy draw with a cell's term, held at either end of its range (R112). -/
def addEnergy (draw term : Int) : Int := clampInt (-2147483648) 2147483647 (draw + term)

/-- The largest magnitude of three references (R110). -/
def largestReference (x : PerPhase Int) : Nat := phaseMost (x.map Int.natAbs)

/-! ### The path check -/

/-- The check runs in the cell: sag state ACQUIRING or NORMAL and echo mode off (R134). -/
def CellView.checkRuns (v : CellView) : Bool := v.sag.quietState && !v.echo

/-- The sign of the pattern on a phase at cell index k (R135). -/
def patternSign (k : Nat) (p : Phase) : Int :=
  let sigma : Int := if k % 2 = 0 then 1 else -1
  match p with
  | .a => sigma
  | .b => -sigma
  | .c => sigma

/-- The pattern's references at cell index k, its level clamped to L_eff (R135). -/
def CellView.pattern (v : CellView) (k : Nat) : PerPhase Int :=
  PerPhase.build fun p => (min v.settings.checkLevel v.limit : Nat) * patternSign k p

/-- The mismatch counts after the comparison at index k; below VERIFY_DELAY none is made (R136). -/
def CellView.compareCheck (v : CellView) (x : Check) : Check :=
  if v.settings.verifyDelay ≤ x.cell then
    { x with
      mismatches := PerPhase.build fun p =>
        if (v.slot.current.get p).sign = patternSign (x.cell - v.settings.verifyDelay) p then x.mismatches.get p
        else x.mismatches.get p + 1 }
  else x

/-- The check passes: every phase's mismatch count is 2 or less (R137). -/
def Check.passes (x : Check) : Bool := decide (phaseMost x.mismatches ≤ 2)

end Sys2Proof.Machine
end

