-- ==== Sys2Proof/Machine/FeederEngine.lean ====
section
/-! DEFINITION. A Feeder Engine's work on an accepted cell (05_feeder_engines.md): the confirmation, decision, gain, reference
and verifier steps (R80), QUIET entry, lockout, and the outcome of an event. -/
namespace Sys2Proof.Machine

/-- INJECTING or RELEASING: the states whose slot shows the bypass open (R79). -/
def FeederState.driving : FeederState → Bool
  | .injecting => true
  | .releasing => true
  | .offline => false
  | .enlisting => false
  | .checking => false
  | .standby => false
  | .shed => false
  | .lockout => false
  | .retiring => false

/-- The states that hold a slot: the active map holds exactly the feeders in these (R125). -/
def FeederState.holdsSlot : FeederState → Bool
  | .checking => true
  | .standby => true
  | .injecting => true
  | .releasing => true
  | .shed => true
  | .lockout => true
  | .retiring => true
  | .offline => false
  | .enlisting => false

/-- The states the pending map holds (R125). -/
def FeederState.inPendingMap : FeederState → Bool
  | .checking => true
  | .standby => true
  | .injecting => true
  | .releasing => true
  | .shed => true
  | .lockout => true
  | .enlisting => true
  | .offline => false
  | .retiring => false

/-- The states a fault or FORCE_BYPASS takes to LOCKOUT (R91, R92). -/
def FeederState.lockable : FeederState → Bool
  | .checking => true
  | .standby => true
  | .injecting => true
  | .releasing => true
  | .shed => true
  | .offline => false
  | .enlisting => false
  | .lockout => false
  | .retiring => false

/-- A transition into a state: g becomes 0 in every state other than INJECTING and RELEASING (R88). -/
def Engine.enter (e : Engine) (x : FeederState) : Engine :=
  { e with state := x, gain := if x.driving then e.gain else 0 }

/-- The feeder enters INJECTING in a mode: drive mode, release cause and injected mark (R66, R82, R83, R85, R86). -/
def Engine.inject (e : Engine) (m : Mode) : Engine :=
  { e with state := .injecting, drive := m, cause := none, marks := { e.marks with injected := true } }

/-- The feeder enters RELEASING (R84). -/
def Engine.release (e : Engine) (c : ReleaseCause) : Engine := { e with state := .releasing, cause := some c }

def Engine.markShed (e : Engine) : Engine := { e with marks := { e.marks with shed := true } }
def Engine.markDeclined (e : Engine) : Engine := { e with marks := { e.marks with declined := true } }
def Engine.markLocked (e : Engine) : Engine := { e with marks := { e.marks with locked := true } }
def Engine.markNotReady (e : Engine) : Engine := { e with marks := { e.marks with notReady := true } }
def Engine.markLinkLost (e : Engine) : Engine := { e with marks := { e.marks with linkLost := true } }

/-- The feeder enters LOCKOUT (R91, R92); the locked mark where an event is open (R96). -/
def Engine.lockOut (e : Engine) (eventOpen : Bool) : Engine :=
  let e1 := { e.enter .lockout with cause := none }
  if eventOpen then e1.markLocked else e1

/-- The confirmation step's restarts: marks, accumulators and mode (R95). -/
def Engine.restart (e : Engine) : Engine :=
  { e with marks := EventMarks.clear, peak := 0, limitedCount := 0, energyDraw := 0, mode := .none }

/-- The mark of readiness the confirmation step sets (R95). -/
def Engine.readiness (e : Engine) : Engine :=
  match e.state with
  | .shed => e.markShed
  | .releasing => if e.cause = some .shed then e.markShed else e
  | .lockout => e.markLocked
  | .checking => e.markNotReady
  | .retiring => e.markNotReady
  | .offline => e
  | .enlisting => e
  | .standby => e
  | .injecting => e

/-- The confirmation step of an engine whose feeder holds a slot (R95). -/
def Engine.confirmationStep (v : CellView) (e : Engine) : Engine :=
  if v.marks.confirmation then e.restart.readiness else e

/-- E‰ is below the feeder's effective shed level. -/
def CellView.storeLow (v : CellView) : Bool := decide (v.energy < v.shedLevel)

/-- A STANDBY feeder that a lookup would put into injection in a mode (R82, R83). -/
def Engine.enterInjection (v : CellView) (m : Mode) (e : Engine) : Engine :=
  if v.storeLow then (e.enter .shed).markShed else if v.echo then e.markDeclined else e.inject m

/-- The decision step from STANDBY (R82, R83). -/
def Engine.decideStandby (v : CellView) (e : Engine) : Engine :=
  let l := if v.marks.confirmation then confirmationLookup v e else standingLookupIf v e
  match l.answer with
  | .start m => l.engine.enterInjection v m
  | .inject m => l.engine.enterInjection v m
  | .declined => l.engine.markDeclined
  | .noChange => l.engine
  | .goOn => l.engine
  | .tolerated => l.engine

/-- The decision step from INJECTING: the first condition of R84 that holds. -/
def Engine.decideInjecting (v : CellView) (e : Engine) : Engine :=
  let l := injectingLookup v e
  if v.storeLow then
    let e1 := (l.engine.release .shed).markShed
    if l.answer = .declined then e1.markDeclined else e1
  else if l.answer = .declined then (l.engine.release .lookup).markDeclined
  else if l.answer = .tolerated then l.engine.release .lookup
  else if v.marks.recoveryEntry then l.engine.release .recovery
  else l.engine

/-- The decision step from RELEASING in a cell that carries the return to SAG mark (R86). -/
def Engine.decideReturn (v : CellView) (e : Engine) : Engine :=
  if e.cause = some .recovery then
    if v.storeLow then { e.markShed with cause := some .shed } else e.inject e.drive
  else e

/-- The decision step from RELEASING in any other cell (R85). -/
def Engine.decideReleasing (v : CellView) (e : Engine) : Engine :=
  let l := standingLookupIf v e
  match l.answer with
  | .inject m =>
    if l.engine.cause = some .shed then l.engine
    else if v.storeLow then { l.engine.markShed with cause := some .shed }
    else l.engine.inject m
  | .declined => l.engine.markDeclined
  | .start _ => l.engine
  | .noChange => l.engine
  | .goOn => l.engine
  | .tolerated => l.engine

/-- The decision step from SHED: the rearm (R89). -/
def Engine.decideShed (v : CellView) (e : Engine) : Engine :=
  if v.sag = .normal ∧ v.burstExpired ∧ v.rearmLevel ≤ v.energy then e.enter .standby else e

/-- What an engine's decision step leaves: the engine, its check record, and what the check brought about. -/
structure Decision where
  engine : Engine
  check : Check
  /-- the path check gave its verdict in this cell -/
  verdict : Bool
  /-- the verdict was a failure: CHECK_FAIL is set -/
  failed : Bool
deriving DecidableEq, Repr

/-- The decision step from CHECKING: suspended (R90, R134), or the comparison and, at cell 31, the verdict (R136, R137). -/
def Engine.decideChecking (v : CellView) (e : Engine) (x : Check) : Decision :=
  if v.checkRuns then
    let y := v.compareCheck x
    if x.cell = 31 then
      if y.passes then ⟨e.enter .standby, Check.start, true, false⟩
      else ⟨e.lockOut v.eventOpen, Check.start, true, true⟩
    else ⟨e, y, false, false⟩
  else ⟨e, Check.start, false, false⟩

/-- The decision step, from the state in which the feeder began the cell (R80). -/
def Engine.decision (v : CellView) (e : Engine) (x : Check) : Decision :=
  match e.state with
  | .standby => ⟨e.decideStandby v, x, false, false⟩
  | .injecting => ⟨e.decideInjecting v, x, false, false⟩
  | .releasing => ⟨if v.marks.returnToSag then e.decideReturn v else e.decideReleasing v, x, false, false⟩
  | .shed => ⟨e.decideShed v, x, false, false⟩
  | .checking => e.decideChecking v x
  | .lockout => ⟨e, x, false, false⟩
  | .retiring => ⟨e, x, false, false⟩
  | .offline => ⟨e, x, false, false⟩
  | .enlisting => ⟨e, x, false, false⟩

/-- The gain step's update of g (R88). -/
def Engine.nextGain (fb : FeederBank) (e : Engine) : Nat :=
  match e.state with
  | .injecting => min Config.fullGain (e.gain + fb.attack)
  | .releasing => e.gain - (if e.cause = some .shed then fb.shedDecay else fb.decay)
  | .offline => 0
  | .enlisting => 0
  | .checking => 0
  | .standby => 0
  | .shed => 0
  | .lockout => 0
  | .retiring => 0

/-- A RELEASING feeder whose gain has reached 0 ends its release (R87). -/
def Engine.releaseDone (e : Engine) : Bool := decide (e.state = .releasing) && decide (e.gain = 0)

/-- The state a release ends in (R87). -/
def Engine.endRelease (e : Engine) : Engine :=
  if e.releaseDone then
    { e.enter (if e.cause = some .shed then .shed else .standby) with cause := none }
  else e

/-- The gain step (R87, R88). -/
def Engine.gainStep (fb : FeederBank) (e : Engine) : Engine := Engine.endRelease { e with gain := e.nextGain fb }

/-- The slot outputs of a state that shows bypass closed, the modulator disabled and references 0 (R79). -/
def SlotOutput.closed (x : FeederState) : SlotOutput := ⟨true, false, ⟨0, 0, 0⟩, x⟩

/-- What an engine's work up to its reference step leaves. -/
structure EngineStep where
  engine : Engine
  check : Check
  output : SlotOutput
  verdict : Bool
  failed : Bool
  /-- a release ended in this cell -/
  released : Bool
deriving DecidableEq, Repr

/-- The clamps of the chain counted, and the limited mark (R111). -/
def Engine.countClamps (n : Nat) (e : Engine) : Engine :=
  { e with
    limitedCount := saturateAdd Config.counterMax e.limitedCount n
    marks := if n = 0 then e.marks else { e.marks with limited := true } }

/-- The reference step (R79, R101, R135): the slot outputs and, for a check that ran, the next cell index. -/
def Engine.referenceStep (v : CellView) (e : Engine) (x : Check) : Engine × Check × SlotOutput :=
  match e.state with
  | .injecting =>
    (e.countClamps (v.clampCount e.drive e.gain), x, ⟨false, true, v.references e.drive e.gain, .injecting⟩)
  | .releasing =>
    (e.countClamps (v.clampCount e.drive e.gain), x, ⟨false, true, v.references e.drive e.gain, .releasing⟩)
  | .checking =>
    if v.checkRuns then (e, { x with cell := x.cell + 1 }, ⟨true, true, v.pattern x.cell, .checking⟩)
    else (e, x, SlotOutput.closed .checking)
  | .offline => (e, x, SlotOutput.closed .offline)
  | .enlisting => (e, x, SlotOutput.closed .enlisting)
  | .standby => (e, x, SlotOutput.closed .standby)
  | .shed => (e, x, SlotOutput.closed .shed)
  | .lockout => (e, x, SlotOutput.closed .lockout)
  | .retiring => (e, x, SlotOutput.closed .retiring)

/-- An engine's confirmation, decision, gain and reference steps on a cell (R80). -/
def Engine.work (v : CellView) (e : Engine) (x : Check) : EngineStep :=
  let d := (e.confirmationStep v).decision v x
  let g := d.engine.gainStep v.settings
  let r := g.referenceStep v d.check
  { engine := r.1, check := r.2.1, output := r.2.2, verdict := d.verdict, failed := d.failed,
    released := Engine.releaseDone { d.engine with gain := d.engine.nextGain v.settings } }

/-- The verifier step's effect on the state (R91): a fault locks the feeder out; a RETIRING feeder's prior state becomes
LOCKOUT. -/
def Engine.verifierStep (fault eventOpen : Bool) (e : Engine) : Engine :=
  if fault then
    if e.state.lockable then e.lockOut eventOpen
    else if e.state = .retiring then { e with prior := some .lockout }
    else e
  else e

/-- The slot outputs as the verifier step leaves them: those of LOCKOUT for a feeder that stands there (R91, R92); the state
code is the one at the end of the engine's work (R79). -/
def SlotOutput.afterVerifier (o : SlotOutput) (x : FeederState) : SlotOutput :=
  if x = .lockout then SlotOutput.closed .lockout else { o with state := x }

/-- What follows the verifier step: the references held, the peak reference, the energy draw, and the not-ready mark of a
RETIRING feeder in an open event (R96, R109, R110, R112). -/
def Engine.account (supply : PerPhase Int) (slot : Slot) (o : SlotOutput) (eventOpen : Bool) (e : Engine) : Engine :=
  let e1 := { e with references := o.references }
  let e2 :=
    if o.bypassClosed then e1
    else { e1 with
      peak := max e1.peak (largestReference o.references)
      energyDraw := addEnergy e1.energyDraw (energyTerm supply slot) }
  if eventOpen && decide (e2.state = .retiring) then e2.markNotReady else e2

/-- QUIET entry on an engine (R94). -/
def Engine.quietEntry (e : Engine) : Engine :=
  if e.state.driving then ({ e.enter .standby with cause := none }).markLinkLost else e

/-- A RETIRING feeder returns to its prior state, an ENLISTING feeder to OFFLINE (R132). A feeder that returns to LOCKOUT so while
an event is open takes no locked mark: R96 names R90 to R92 for that mark, R91's own words could be read the other way (DESIGN
CHOICE, assumption 33). -/
def Engine.abandon (e : Engine) : Engine :=
  match e.state with
  | .enlisting => e.enter .offline
  | .retiring => { e.enter (e.prior.getD .standby) with prior := none }
  | .offline => e
  | .checking => e
  | .standby => e
  | .injecting => e
  | .releasing => e
  | .shed => e
  | .lockout => e

/-- The epoch switch on an engine (R131): ENLISTING to CHECKING, RETIRING to OFFLINE with the not-ready mark in an open
event. -/
def Engine.switch (eventOpen : Bool) (e : Engine) : Engine :=
  match e.state with
  | .enlisting => e.enter .checking
  | .retiring =>
    let e1 := { e.enter .offline with prior := none }
    if eventOpen then e1.markNotReady else e1
  | .offline => e
  | .checking => e
  | .standby => e
  | .injecting => e
  | .releasing => e
  | .shed => e
  | .lockout => e

/-- The outcome the precedence gives for the marks held (R97). -/
def EventMarks.outcome (m : EventMarks) : EventOutcome :=
  if m.locked then .lockedOut
  else if m.linkLost then .linkLost
  else if m.shed then .shed
  else if m.injected then .rodeThrough
  else if m.declined then .declined
  else if m.notReady then .notReady
  else .tolerated

end Sys2Proof.Machine
end

