-- ==== Sys2Proof/Machine/EventRecorder.lean ====
section
/-! DEFINITION. The Event Recorder (10_sag_event_records.md): opening, lowest E‰, closing, the queue, and the payload of a
record. -/
namespace Sys2Proof.Machine

/-- The event number after a given one: from 65,535 to 1 (R164). -/
def nextEventNumber (n : Nat) : Nat := if n = 65535 then 1 else n + 1

/-- A record opened in the confirmation cell (R158). -/
def Recorder.openNew (burst : Nat) (start : BitVec 32) (energy : Nat) (map : List Feeder) (r : Recorder) : Recorder :=
  { r with
    openRecord := some
      { number := r.nextNumber, burstIndex := burst, start := start, energyAtConfirmation := energy,
        lowestEnergy := energy, feeders := map }
    nextNumber := nextEventNumber r.nextNumber }

/-- The lowest E‰ kept (R159). -/
def Recorder.keepLowest (energy : Nat) (r : Recorder) : Recorder :=
  { r with openRecord := r.openRecord.map fun o => { o with lowestEnergy := min o.lowestEnergy energy } }

/-- A feeder's entry as its engine stands (R160, R162). -/
def Engine.entry (e : Engine) (f : Feeder) : FeederEntry :=
  { feeder := f, mode := e.mode, outcome := e.marks.outcome, marks := e.marks, peak := e.peak,
    limitedCount := e.limitedCount, energyDraw := e.energyDraw }

/-- The open record gathered from its owners as they stand (R160, R162, R166). -/
def OpenRecord.gather (b : Bank) (worst : Worst) (engines : PerFeeder Engine) (now : BitVec 32) (cause : EndCause)
    (o : OpenRecord) : EventRecord :=
  { number := o.number, burstIndex := o.burstIndex, start := o.start, duration := now - o.start, cause := cause,
    eventClass := classOf b worst, lowest := worst.lowest, jumpMax := worst.jumpMax,
    energyAtConfirmation := o.energyAtConfirmation, lowestEnergy := o.lowestEnergy,
    entries := o.feeders.map fun f => (engines.get f).entry f }

/-- A closing record discards the oldest of a full queue (R163). -/
def Recorder.discards (r : Recorder) : Bool := decide (Config.recordQueueSize ≤ r.queue.length)

/-- A closed record joins the queue's tail (R163). -/
def Recorder.join (x : EventRecord) (r : Recorder) : Recorder :=
  { r with
    openRecord := none
    queue := r.queue.drop (r.queue.length + 1 - Config.recordQueueSize) ++ [x] }

/-- The end cause's code (R165). -/
def EndCause.code : EndCause → Nat
  | .recovered => 0
  | .linkLost => 1

/-- The outcome codes 1 to 7 (R165). -/
def EventOutcome.code : EventOutcome → Nat
  | .lockedOut => 1
  | .linkLost => 2
  | .shed => 3
  | .rodeThrough => 4
  | .declined => 5
  | .notReady => 6
  | .tolerated => 7

/-- The marks word (R165). -/
def EventMarks.word (m : EventMarks) : Nat :=
  (if m.injected then 1 else 0) + (if m.shed then 2 else 0) + (if m.declined then 4 else 0) + (if m.locked then 8 else 0)
    + (if m.linkLost then 16 else 0) + (if m.limited then 32 else 0) + (if m.notReady then 64 else 0)

/-- A feeder entry's eight words (R165). -/
def FeederEntry.words (x : FeederEntry) : List Word :=
  [Word.ofNumber x.feeder.number, Word.ofNumber x.mode.code, Word.ofNumber x.outcome.code, Word.ofNumber x.marks.word,
   Word.ofNumber x.peak, Word.ofNumber x.limitedCount] ++ twoWords (BitVec.ofInt 32 x.energyDraw)

/-- A record's payload with the end cause code given: 15 + 8n words (R165). -/
def EventRecord.words (x : EventRecord) (causeCode : Nat) : List Word :=
  [Word.ofNumber x.number, Word.ofNumber x.burstIndex] ++ twoWords x.start ++ twoWords x.duration
    ++ [Word.ofNumber causeCode, Word.ofNumber x.eventClass, Word.ofNumber x.lowest.a, Word.ofNumber x.lowest.b,
        Word.ofNumber x.lowest.c, Word.ofNumber x.jumpMax, Word.ofNumber x.energyAtConfirmation,
        Word.ofNumber x.lowestEnergy, Word.ofNumber x.entries.length]
    ++ x.entries.flatMap FeederEntry.words

end Sys2Proof.Machine
end

