-- ==== Sys2Proof/Machine/InjectionVerifier.lean ====
section
/-! DEFINITION. The Injection Verifier (section 9.1): histories, eligibility, the pair compared, the mismatch counters and the
overcurrent check. -/
namespace Sys2Proof.Machine

/-- The twelve pairs in the pair order (R145). -/
def pairOrder : List Pair :=
  [⟨.f0, .a⟩, ⟨.f0, .b⟩, ⟨.f0, .c⟩, ⟨.f1, .a⟩, ⟨.f1, .b⟩, ⟨.f1, .c⟩, ⟨.f2, .a⟩, ⟨.f2, .b⟩, ⟨.f2, .c⟩, ⟨.f3, .a⟩,
   ⟨.f3, .b⟩, ⟨.f3, .c⟩]

/-- A pair's place in the pair order, 0 to 11. -/
def Pair.place (x : Pair) : Nat := 3 * x.feeder.number + x.phase.number

/-- The pairs in search order: from the pair after the pointer's, ending with the pointer's own (R145). -/
def searchOrder (pointer : Pair) : List Pair :=
  pairOrder.drop (pointer.place + 1) ++ pairOrder.take (pointer.place + 1)

/-- An entry joins a history; a full one loses its oldest (R143). -/
def joinHistory (h : List (Option Int)) (entry : Option Int) : List (Option Int) :=
  (h ++ [entry]).drop ((h ++ [entry]).length - Config.historySize)

/-- The D-th entry of a history counted from its newest (R144). -/
def historyEntry (h : List (Option Int)) (d : Nat) : Option Int :=
  if d = 0 ∨ h.length < d then none else (h[h.length - d]?).join

/-- The command a pair is compared against in this cell, where the pair is eligible (R144). -/
def Verifier.command (b : Bank) (outputs : PerFeeder SlotOutput) (u : Verifier) (x : Pair) : Option Int :=
  if (outputs.get x.feeder).bypassClosed then none
  else historyEntry ((u.histories.get x.feeder).get x.phase) (b.feeder x.feeder).verifyDelay

/-- The pair is eligible (R144). -/
def Verifier.eligible (b : Bank) (outputs : PerFeeder SlotOutput) (u : Verifier) (x : Pair) : Bool :=
  (u.command b outputs x).isSome

/-- VERIFY_MODE is ROTATE (R145, R176). -/
def Bank.rotates (b : Bank) : Bool := decide (b.verifyMode = 0)

/-- The pair compared in the cell: in ROTATE the first eligible one of the search, in FIXED the one the setting names, if
eligible (R145, R146). -/
def Verifier.chosen (b : Bank) (outputs : PerFeeder SlotOutput) (u : Verifier) : Option Pair :=
  if b.rotates then (searchOrder u.pointer).find? (u.eligible b outputs)
  else (pairOrder[b.verifyMode - 1]?).filter (u.eligible b outputs)

/-- The expected injection of a reference: the feeder's scaling undone (R147). -/
def expectedInjection (c : Int) (scale : Nat) : Int := c * 4096 / (scale : Int)

/-- The pair mismatches: the difference exceeds VERIFY_TOLERANCE (R147). -/
def mismatches (fb : FeederBank) (supply : PerPhase Int) (slot : Slot) (c : Int) (p : Phase) : Bool :=
  decide (fb.verifyTolerance < (measuredInjection supply slot p - expectedInjection c fb.scale).natAbs)

/-- A pair's mismatch counter after a comparison, saturating at 15 (R147). -/
def nextMismatch (mismatch : Bool) (n : Nat) : Nat := if mismatch then saturateAdd 15 n 1 else 0

/-- What the comparison of a cell leaves: the verifier, and the feeder whose VERIFY_COUNT is reached, if any (R147, R149). -/
structure Comparison where
  verifier : Verifier
  failed : Option Feeder
deriving DecidableEq, Repr

/-- The comparison of a cell (R142, R145 to R147, R149). -/
def Verifier.compare (b : Bank) (supply : PerPhase Int) (slots : Feeder → Slot) (outputs : PerFeeder SlotOutput)
    (u : Verifier) : Comparison :=
  match u.chosen b outputs with
  | none => ⟨u, none⟩
  | some x =>
    match u.command b outputs x with
    | none => ⟨u, none⟩
    | some c =>
      let fb := b.feeder x.feeder
      let bad := Machine.mismatches fb supply (slots x.feeder) c x.phase
      let n := nextMismatch bad ((u.mismatches.get x.feeder).get x.phase)
      { verifier :=
          { u with
            mismatches := u.mismatches.set x.feeder ((u.mismatches.get x.feeder).set x.phase n)
            pointer := if b.rotates then x else u.pointer }
        failed := if bad && decide (fb.verifyCount ≤ n) then some x.feeder else none }

/-- A slot shows an overcurrent on some phase: a magnitude that exceeds TRIP_CURRENT (R148). -/
def overcurrentIn (fb : FeederBank) (slot : Slot) : Bool :=
  decide (fb.tripCurrent < phaseMost (slot.current.map Int.natAbs))

/-- The overcurrent conditions of a cell, settled afresh for all four feeders (R148). -/
def overcurrentsOf (b : Bank) (map : List Feeder) (slots : Feeder → Slot) : PerFeeder Bool :=
  PerFeeder.build fun f => decide (f ∈ map) && overcurrentIn (b.feeder f) (slots f)

/-- The histories after an accepted cell: a command for each pair whose feeder's slot shows bypass open (R143). -/
def Verifier.append (outputs : PerFeeder SlotOutput) (u : Verifier) : Verifier :=
  { u with
    histories := PerFeeder.build fun f => PerPhase.build fun p =>
      joinHistory ((u.histories.get f).get p)
        (if (outputs.get f).bypassClosed then none else some ((outputs.get f).references.get p)) }

/-- The histories after a missing cell: a no-command entry in each (R143). -/
def Verifier.appendMissing (u : Verifier) : Verifier :=
  { u with
    histories := PerFeeder.build fun f => PerPhase.build fun p => joinHistory ((u.histories.get f).get p) none }

/-- The histories emptied (R143). -/
def Verifier.empty (u : Verifier) : Verifier := { u with histories := PerFeeder.fill ⟨[], [], []⟩ }

/-- The mismatch counters of every feeder that left INJECTING and RELEASING set to 0 (R149). -/
def Verifier.left (before after : PerFeeder Engine) (u : Verifier) : Verifier :=
  { u with
    mismatches := PerFeeder.build fun f =>
      if (before.get f).state.driving && !(after.get f).state.driving then ⟨0, 0, 0⟩ else u.mismatches.get f }

end Sys2Proof.Machine
end

