-- ==== Sys2Proof/Machine/Memory.lean ====
section
/-! DEFINITION. The serial memory: a list of address and byte pairs in one canonical form. An address it does not list reads
as 0xFF, an erased byte (R191: "An erased memory, reading 0xFFFF"). -/
namespace Sys2Proof.Machine

/-- What a byte nothing has written reads as (R191). -/
def erasedByte : Byte := 0xFF

/-- One byte of the memory. -/
def Memory.read : Memory → Nat → Byte
  | [], _ => erasedByte
  | c :: rest, address => if c.1 = address then c.2 else Memory.read rest address

/-- The memory with one byte written: addresses stay strictly rising, and writing an erased byte leaves no entry. -/
def Memory.write : Memory → Nat → Byte → Memory
  | [], address, byte => if byte = erasedByte then [] else [(address, byte)]
  | c :: rest, address, byte =>
    if address < c.1 then (if byte = erasedByte then c :: rest else (address, byte) :: c :: rest)
    else if address = c.1 then (if byte = erasedByte then rest else (address, byte) :: rest)
    else c :: Memory.write rest address byte

/-- Bytes written from an address on. -/
def Memory.writeFrom (m : Memory) (address : Nat) : List Byte → Memory
  | [] => m
  | b :: rest => Memory.writeFrom (m.write address b) (address + 1) rest

/-- Every address listed is above `low`, they rise strictly, and no entry is an erased byte. -/
def Memory.wfAbove (low : Nat) : Memory → Bool
  | [] => true
  | c :: rest => decide (low ≤ c.1) && decide (c.2 ≠ erasedByte) && Memory.wfAbove (c.1 + 1) rest

/-- The canonical form. -/
def Memory.wf (m : Memory) : Bool := m.wfAbove 0

/-- The memory that holds the bytes given from address 0 on and is erased elsewhere. -/
def Memory.ofBytes (bytes : List Byte) : Memory := Memory.writeFrom [] 0 bytes

/-- A 16-bit word, stored upper byte first (R189). -/
def Memory.readWord (m : Memory) (index : Nat) : Word := m.read (2 * index) ++ m.read (2 * index + 1)

/-- The first n words (R189). -/
def Memory.readWords (m : Memory) (n : Nat) : List Word := (List.range n).map m.readWord

end Sys2Proof.Machine
end

