-- ==== Sys2Proof/Machine/Ops.lean ====
section
/-! DEFINITION. The operations over the whole state that several commands share: sending and answering, moving feeders between
states, committing a bank, closing a record, auto-enlist, the two resets, and the part's own steps that are due. -/
namespace Sys2Proof.Machine

/-! ### Sending -/

/-- The words of a reply, completed from the state at the moment its transmission begins (R21). -/
def State.replyWords (s : State) (r : Reply) : List Word := replyCell s.maps.epoch s.flags.attention r

/-- The Egress Port after its choice whenever the link is free: the waiting DRIVE cell is being sent, or else the oldest reply
(R20). -/
def State.nextEgress (s : State) : Egress :=
  match s.egress.onLink with
  | some _ => s.egress
  | none =>
    match s.egress.waiting with
    | some d => { s.egress with waiting := none, onLink := some (.drive d) }
    | none =>
      match s.management.replies with
      | [] => s.egress
      | r :: _ => { s.egress with onLink := some (.reply (s.replyWords r)) }

/-- The Egress Port's choice is made (R20). -/
def State.chooseNext (s : State) : State := { s with egress := s.nextEgress }

/-- A DRIVE cell becomes ready: it waits in place of any earlier one that has not begun to leave (R20), and its sequence
number is the last assembled (R22). -/
def State.readyDrive (s : State) (words : List Word) (sequence : BitVec 8) : State :=
  State.chooseNext { s with egress := { s.egress with waiting := some words, lastSequence := sequence } }

/-! ### Requests and replies -/

/-- The Image Loader is running a load, so the engine takes no entry (R193). -/
def LoaderState.loading : LoaderState → Bool
  | .reading => true
  | .applying => true
  | .waiting => true
  | .idle => false
  | .writing => false

/-- The request the engine would carry out now: the one in flight, not yet carried out, or else, in IDLE, the queue's head
(R169). -/
def State.nextRequest (s : State) : Option Request :=
  if s.inReset || s.loader.state.loading then none
  else
    match s.management.engine with
    | .idle => s.ingress.queue.head?
    | .executing => if s.management.carriedOut then none else s.management.inFlight
    | .deferred => none
    | .saving => none
    | .waitReply => none

/-- The engine takes that request and enters EXECUTING (R169); in IDLE it leaves the queue's head (R15). -/
def State.take (s : State) (r : Request) : State :=
  { s with
    ingress :=
      { s.ingress with queue := if s.management.engine = .idle then s.ingress.queue.tail else s.ingress.queue }
    management := { s.management with engine := .executing, inFlight := some r, carriedOut := false } }

/-- A reply built joins the buffer's tail and the engine enters IDLE; a DEVICE_RESET stays in flight, the engine EXECUTING
(R169, R187). -/
def Management.join (m : Management) (r : Reply) : Management :=
  { m with
    engine := if r.answersReset then .executing else .idle
    inFlight := if r.answersReset then m.inFlight else none
    replies := m.replies ++ [r]
    carriedOut := r.answersReset
    echoWaits := none }

/-- A reply built while the buffer holds two is held, in WAIT_REPLY (R169, R170). -/
def Management.hold (m : Management) (r : Reply) : Management :=
  { m with
    engine := .waitReply
    inFlight := if r.answersReset then m.inFlight else none
    held := some r
    carriedOut := r.answersReset
    echoWaits := none }

/-- The buffer has room for a reply (R170). -/
def Management.hasRoom (m : Management) : Bool := decide (m.replies.length < Config.replyBufferSize)

/-- A reply built joins the buffer, or is held where the buffer holds two (R169, R170). -/
def State.buffer (s : State) (r : Reply) : State :=
  if s.management.hasRoom then State.chooseNext { s with management := s.management.join r }
  else { s with management := s.management.hold r }

/-- The request is answered (R171). -/
def State.answer (s : State) (r : Request) (result : Result) (payload : List Word) : State :=
  s.buffer { tag := r.tag, result := result, payload := payload, answersReset := false }

/-- The step of a request: the engine takes the entry, if it is the command named and not tagged MALFORMED, and carries it
out; where the next request is another, or there is none, this step does not come about and nothing changes (R171,
assumption 3). -/
def State.request (s : State) (c : Command) (act : Request → State → State) : State :=
  match s.nextRequest with
  | none => s
  | some r => if r.command = some c then act r (s.take r) else s

/-! ### Feeders -/

/-- Some feeder is INJECTING or RELEASING. -/
def anyDriving (engines : PerFeeder Engine) : Bool := Feeder.all.any fun f => (engines.get f).state.driving

/-- The quiescent condition (R181). -/
def State.quiescent (s : State) : Bool := s.monitor.sag.quietState && !anyDriving s.engines

/-- Check records after engines changed: a feeder that entered or left CHECKING has its record at the first cell (R131, R93,
R137, R138). -/
def settleChecks (before after : PerFeeder Engine) (checks : PerFeeder Check) : PerFeeder Check :=
  PerFeeder.build fun f =>
    if ((before.get f).state = .checking) = ((after.get f).state = .checking) then checks.get f else Check.start

/-- Engines replaced, with what follows for their check records and mismatch counters (R149). -/
def State.moveEngines (s : State) (after : PerFeeder Engine) : State :=
  { s with
    engines := after
    maps := { s.maps with checks := settleChecks s.engines after s.maps.checks }
    verifier := s.verifier.left s.engines after }

/-- The same, by a cause other than a request: FEEDER_CHANGE is raised (R156). -/
def State.moveEnginesRaising (s : State) (after : PerFeeder Engine) : State :=
  { s.moveEngines after with flags := s.flags.raiseChanges s.engines after }

/-- Every running path check restarts at its first cell (R138). -/
def State.restartChecks (s : State) : State :=
  { s with
    maps :=
      { s.maps with
        checks := PerFeeder.build fun f =>
          if (s.engines.get f).state = .checking then Check.start else s.maps.checks.get f } }

/-- An event record is open. -/
def State.eventOpen (s : State) : Bool := s.recorder.openRecord.isSome

/-- A pending map with a feeder added in its ascending place (R127). -/
def mapWith (map : List Feeder) (f : Feeder) : List Feeder := Feeder.all.filter fun g => decide (g ∈ map) || decide (g = f)

/-- A map with a feeder removed (R128). -/
def mapWithout (map : List Feeder) (f : Feeder) : List Feeder := map.filter fun g => g ≠ f

/-- A change made: pending epoch, pending map and age (R126, R127, R128, R140). -/
def State.announce (s : State) (epoch : BitVec 4) (map : List Feeder) : State :=
  { s with maps := { s.maps with pending := some { epoch := epoch, feeders := map }, age := 0 } }

/-- The feeders AUTO_ENLIST names (R140, R176). -/
def Bank.enlisted (b : Bank) : List Feeder := Feeder.all.filter fun f => b.autoEnlist.testBit f.number

/-- Auto-enlist from the active bank (R140). -/
def State.autoEnlist (s : State) : State :=
  match s.tables.active.enlisted with
  | [] => s
  | map =>
    State.moveEnginesRaising (s.announce 1 map)
      (PerFeeder.build fun f => if f ∈ map then (s.engines.get f).enter .enlisting else s.engines.get f)

/-! ### Between two cells -/

/-- No cell is being worked: none is under way, or the work under way stands between two cells' work, before a missing cell of
the gap or before the accepted cell, whose own work has not begun (R9, R181; assumption 22). -/
def State.betweenCells (s : State) : Bool :=
  match s.work with
  | none => true
  | some w => decide (w.stage = .accepted)

/-! ### Committing a bank -/

/-- A commit takes effect: the active bank becomes a copy of the shadow bank, and the blocks apply their commit effects
(R185, R37, R44, R138, R143). -/
def State.commitBank (s : State) : State :=
  State.restartChecks
    { s with
      tables := { s.tables with active := s.tables.shadow }
      tracker := s.tracker.commit s.tables.shadow
      monitor := s.monitor.commit s.tables.shadow
      verifier := s.verifier.empty
      work := s.work.map fun w => { w with commitDuring := true } }

/-- What came about is noted. -/
def State.note (s : State) (x : Occurrence) : State := { s with came := s.came ++ [x] }

/-- The image is committed and the load finishes: the loader returns to IDLE, then auto-enlist is made (R192, R193). -/
def State.commitImage (s : State) : State :=
  State.autoEnlist
    { s.commitBank with
      loader := { s.loader with state := .idle, outcome := some .loaded }
      came := s.came ++ [.imageCommit]
      due := none }

/-! ### Event records -/

/-- The open record, if there is one, is closed and joins the queue (R160, R161, R163). -/
def State.closeRecord (s : State) (b : Bank) (cause : EndCause) : State :=
  match s.recorder.openRecord with
  | none => s
  | some o =>
    { s with
      recorder := s.recorder.join (o.gather b s.monitor.worst s.engines s.ingress.cellTime cause)
      flags := s.flags.latchIf s.recorder.discards .eventDiscard }

/-! ### Resets -/

/-- Every block in its power-on values (R190); the serial memory, the strap pins and the waiting commands lie outside. -/
def State.powerOn (s : State) : State :=
  { State.reset with memory := s.memory, straps := s.straps, pending := s.pending }

/-- Every block in its management-reset values, before auto-enlist (R188): the active bank, the closed records and their
numbering, and the report masks are kept. -/
def State.manageValues (s : State) : State :=
  { State.reset with
    tracker := Tracker.reset s.tables.active.nominalPeak
    flags := { FlagUnit.reset with reported := s.flags.reported }
    recorder := { s.recorder with openRecord := none }
    tables := { active := s.tables.active, shadow := s.tables.active }
    egress := Egress.reset s.tables.active.cellPeriod
    loader := { state := .idle, outcome := s.loader.outcome, writes := [] }
    memory := s.memory
    straps := s.straps
    inReset := false
    pending := s.pending }

/-- A management reset (R187, R188), with auto-enlist from the kept active bank (R140). -/
def State.manageReset (s : State) : State := State.autoEnlist s.manageValues

/-! ### The part's own steps -/

/-- The part's own step that is due before anything else, if one is (assumption 4). -/
def State.carryDue (s : State) : State :=
  match s.due with
  | none => s
  | some .managementReset => s.manageReset
  | some .imageCommit => s.commitImage

/-- A command while the part is held in reset does nothing (R190, assumption 5); otherwise what is due comes first. -/
def State.ready (s : State) (act : State → State) : State := if s.inReset then s else act s.carryDue

end Sys2Proof.Machine
end

