-- ==== Sys2Proof/Machine/CellPath.lean ====
section
/-! DEFINITION. The cell path: the work of an accepted SENSE cell and of the missing cells before it, block by block (00_scope.md,
"How the blocks work together"; R11, R26, R41, R80, R114, R142), in the stages between which a request may fall. -/
namespace Sys2Proof.Machine

/-! ### The end of a cell's work -/

/-- The commit in flight is a COMMIT NOW (R182). -/
def Request.commitsNow (r : Request) : Bool := decide (r.command = some .commitNow)

/-- The condition for a deferred commit to take effect at the end of a cell's work (R182, R183). -/
def State.commitMeets (s : State) (r : Request) (zero : Bool) : Bool :=
  s.quiescent && (r.commitsNow || (zero && !((s.work.map Work.syncBarred).getD false)))

/-- A deferred commit takes effect and is answered DONE (R185). -/
def State.takeCommit (s : State) (r : Request) : State := (s.commitBank.note .commitTakesEffect).answer r .done []

/-- A deferred commit expires (R184). -/
def State.expireCommit (s : State) (r : Request) : State := (s.note .commitExpired).answer r .expired []

/-- The deferral age advances by 1, saturating (R184). -/
def State.growOlder (s : State) : State :=
  { s with
    management := { s.management with deferralAge := saturateAdd Config.counterMax s.management.deferralAge 1 } }

/-- The commit in flight takes effect, or expires, or waits on (R182 to R184). -/
def State.testCommit (s : State) (r : Request) (zero : Bool) : State :=
  if s.commitMeets r zero then s.takeCommit r
  else if s.tables.active.commitDeferLimit ≤ s.management.deferralAge then s.expireCommit r
  else s

/-- The engine's part of the end of a cell's work while a commit is DEFERRED: the age advances, then the commit is tested
(R184). -/
def State.ageCommit (s : State) (zero : Bool) : State :=
  match s.management.engine, s.management.inFlight with
  | .deferred, some r => s.growOlder.testCommit r zero
  | _, _ => s

/-- The loader's part of the end of a cell's work: an image in WAITING is committed where the condition holds (R192). -/
def State.waitImage (s : State) : State :=
  if s.loader.state = .waiting ∧ s.monitor.sag.quietState then s.commitImage else s

/-- A feeder is CHECKING, INJECTING or RELEASING: echo mode may not be turned on (R23). -/
def State.echoBarred (s : State) : Bool :=
  Feeder.all.any fun f => (s.engines.get f).state.driving || decide ((s.engines.get f).state = .checking)

/-- SET_ECHO's test, change and answer (R23). -/
def State.setEcho (s : State) (r : Request) (on : Bool) : State :=
  if on && s.echoBarred then s.answer r .refusedState []
  else State.answer { s with egress := { s.egress with echo := on } } r .done []

/-- A SET_ECHO whose step fell while a cell was being worked makes its test and its change at that cell's end (R23). -/
def State.settleEcho (s : State) : State :=
  match s.management.echoWaits, s.management.inFlight with
  | some on, some r => s.setEcho r on
  | _, _ => s

/-- What happens at the end of the work of each cell, accepted or missing, before the next cell's work: the commit in flight, the
image that waits, a SET_ECHO that waits. -/
def State.endCell (s : State) (zero : Bool) : State := (s.ageCommit zero).waitImage.settleEcho

/-! ### A missing cell -/

/-- The burst timer expired in a cell: it was running and counted down to 0 (R56). -/
def burstExpires (before after : Monitor) : Bool := decide (before.burstTimer = 1) && decide (after.burstTimer = 0)

/-- The follow condition (R34): the sag state as settled for this cell, and the feeder states as they stand. -/
def State.follows (s : State) (settled : SagState) : Bool := settled.quietState && !anyDriving s.engines

/-- The tracker after the live part of a missing cell. -/
def State.liveAlone (s : State) (w : Work) : Tracker := s.tracker.liveMissing w.bank

/-- The monitor after a missing cell. -/
def State.monitorAlone (s : State) (w : Work) : Monitor := s.monitor.workMissing w.bank

/-- A missing cell worked: its cell time (assumption 41), the tracker, the monitor, the histories (R9, R12, R32, R42, R143). -/
def State.passMissing (s : State) (w : Work) : State :=
  { s with
    ingress := { s.ingress with cellTime := s.ingress.cellTime + 1 }
    tracker :=
      (s.liveAlone w).holdPart w.bank s.tables.active (s.follows (s.monitorAlone w).sag) false w.commitDuring
    monitor := s.monitorAlone w
    verifier := s.verifier.appendMissing
    work := some { w with missing := w.missing - 1 }
    came :=
      if burstExpires s.monitor (s.monitorAlone w) then s.came ++ [Occurrence.burstTimerExpiry] else s.came }

/-- The work of one missing cell; running checks restart, and its end is that of a cell's work (R9, R80, R114, R138). -/
def State.workMissing (s : State) (w : Work) : State :=
  (s.passMissing w).restartChecks.endCell (zeroCrossing s.tracker (s.liveAlone w))

/-! ### The epoch switch -/

/-- The epoch switch (R131). -/
def State.switchEpoch (s : State) : State :=
  match s.maps.pending with
  | none => s
  | some p =>
    State.moveEnginesRaising
      { s with maps := { s.maps with epoch := p.epoch, active := p.feeders, pending := none, age := 0 } }
      (s.engines.map (Engine.switch s.eventOpen))

/-- The accepted cell's acceptance triggers the switch, and no missing cell before it is left to be worked: the switch is made,
before any block works the cell itself (R131). -/
def State.settleSwitch (s : State) : State :=
  match s.work with
  | none => s
  | some w =>
    if w.switches && decide (w.missing = 0) then State.switchEpoch { s with work := some { w with switches := false } }
    else s

/-! ### The accepted cell, stage by stage -/

/-- What came about in the monitor's work on a cell. -/
def monitorOccurrences (before after : Monitor) (marks : Marks) : List Occurrence :=
  (if before.sag = .acquiring ∧ after.sag = .normal then [.acquireEnd] else [])
    ++ (if marks.confirmation then [.confirmation] else [])
    ++ (if marks.classificationPoint then [.classificationPoint] else [])
    ++ (if marks.eventEnd then [.eventEnd] else [])
    ++ (if before.burstTimer = 1 ∧ after.burstTimer = 0 then [.burstTimerExpiry] else [])

/-- The tracker after the live part of an accepted cell (R26). -/
def State.liveTracker (s : State) (w : Work) : Tracker :=
  s.tracker.liveAccepted w.bank (decide (s.monitor.sag = .acquiring)) w.sense.supply

/-- The monitor's work on an accepted cell, from the cell amplitude and held angle and the jump reading handed on (R41). -/
def State.settled (s : State) (w : Work) : Settled :=
  s.monitor.workAccepted w.bank w.linkReturn w.sense.supply s.tracker.amplitudeRef s.tracker.hold (s.liveTracker w).jump

/-- The Store Account after an accepted cell (R114). -/
def State.storeWorked (s : State) (w : Work) : StoreAccount := s.store.work w.bank w.sense.store w.sense.housekeeping

/-- The Event Recorder after the confirmation mark: a record is opened (R158). -/
def State.recorderOpened (s : State) (w : Work) : Recorder :=
  if (s.settled w).marks.confirmation then
    s.recorder.openNew (s.settled w).monitor.lastBurst (s.ingress.cellTime + 1) (s.storeWorked w).energy s.maps.active
  else s.recorder

/-- The work of a cell with what the tracker and the monitor hand on (R26, R41). -/
def State.handOn (s : State) (w : Work) : Work :=
  { w with
    stage := .tracked, live := s.tracker.live, hold := s.tracker.hold, amplitudeRef := s.tracker.amplitudeRef,
    zeroCrossing := zeroCrossing s.tracker (s.liveTracker w), marks := (s.settled w).marks,
    published := (s.settled w).published }

/-- The first stage of the accepted cell's work: the cell-time count (R12, assumption 41), the tracker's live part,
the Sag Monitor, the tracker's hold part (R26), the Store Account (R114), and the record opened at a confirmation (R158). -/
def State.trackCell (s : State) (w : Work) : State :=
  { s with
    ingress := { s.ingress with cellTime := s.ingress.cellTime + 1 }
    tracker :=
      (s.liveTracker w).holdPart w.bank s.tables.active (s.follows (s.settled w).monitor.sag) true w.commitDuring
    monitor := (s.settled w).monitor
    store := s.storeWorked w
    flags := s.flags.heatEntries s.store (s.storeWorked w)
    recorder := s.recorderOpened w
    came := s.came ++ monitorOccurrences s.monitor (s.settled w).monitor (s.settled w).marks
    work := some (s.handOn w) }

/-- What a feeder's engine reads of the cell (R81, R101). -/
def State.view (s : State) (w : Work) (f : Feeder) : CellView :=
  { settings := w.bank.feeder f, sag := s.monitor.sag, marks := w.marks, elapsed := s.monitor.elapsed,
    published := w.published, classified := s.monitor.classified, minRetained := s.monitor.minRetained,
    burstExpired := decide (s.monitor.burstTimer = 0), energy := s.store.energy,
    shedLevel := s.store.shedLevels.get f, rearmLevel := s.store.rearmLevels.get f, sinkHot := s.store.sinkHot.get f,
    echo := s.egress.echo, eventOpen := s.eventOpen, live := w.live, hold := w.hold, amplitudeRef := w.amplitudeRef,
    supply := w.sense.supply, slot := slotOf s.maps.active w.sense.slots f }

/-- One feeder's steps up to its reference step. A feeder with no slot does no work; the confirmation step clears its marks,
accumulators and mode (R95, R129). -/
def State.engineStep (s : State) (w : Work) (f : Feeder) : EngineStep :=
  if f ∈ s.maps.active then (s.engines.get f).work (s.view w f) (s.maps.checks.get f)
  else
    { engine := if w.marks.confirmation then (s.engines.get f).restart else s.engines.get f
      check := s.maps.checks.get f, output := SlotOutput.closed (s.engines.get f).state, verdict := false,
      failed := false, released := false }

/-- What came about in the engines' work on a cell. -/
def engineOccurrences (steps : PerFeeder EngineStep) (failed : Option Feeder) : List Occurrence :=
  Feeder.all.flatMap (fun f =>
    (if (steps.get f).released then [Occurrence.releaseEnd f] else [])
      ++ (if (steps.get f).verdict then [Occurrence.pathCheckVerdict f] else []))
    ++ (match failed with
        | some f => [Occurrence.verifyFailure f]
        | none => [])

/-- Every engine's work up to its reference step (R80). -/
def State.engineSteps (s : State) (w : Work) : PerFeeder EngineStep := PerFeeder.build (s.engineStep w)

/-- The engines as their reference steps leave them. -/
def State.enginesStepped (s : State) (w : Work) : PerFeeder Engine := (s.engineSteps w).map EngineStep.engine

/-- The slot outputs as the reference steps form them (R109). -/
def State.outputsFormed (s : State) (w : Work) : PerFeeder SlotOutput := (s.engineSteps w).map EngineStep.output

/-- The overcurrents of the cell (R148). -/
def State.tripped (s : State) (w : Work) : PerFeeder Bool :=
  overcurrentsOf w.bank s.maps.active (slotOf s.maps.active w.sense.slots)

/-- The verification comparison of the cell (R142). -/
def State.compared (s : State) (w : Work) : Comparison :=
  (s.verifier.left s.engines (s.enginesStepped w)).compare w.bank w.sense.supply (slotOf s.maps.active w.sense.slots)
    (s.outputsFormed w)

/-- The feeder whose VERIFY_COUNT is reached in the cell (R149). -/
def State.verifyFailed (s : State) (w : Work) : PerFeeder Bool :=
  PerFeeder.build fun f => decide ((s.compared w).failed = some f)

/-- The flags the engines' work and the Injection Verifier latch (R137, R148, R149, R156; assumption 40). -/
def State.flagsRaised (s : State) (w : Work) : FlagUnit :=
  (((s.flags.latchFeeders .checkFail ((s.engineSteps w).map EngineStep.failed)).raiseChanges s.engines
    (s.enginesStepped w)).latchFeeders .overcurrent (s.tripped w)).latchFeeders .verify (s.verifyFailed w)

/-- The second stage: every engine's work up to its reference step (R80), then the Injection Verifier's work on the cell
(R142). -/
def State.engageCell (s : State) (w : Work) : State :=
  { s with
    engines := s.enginesStepped w
    maps := { s.maps with checks := (s.engineSteps w).map EngineStep.check }
    verifier := { (s.compared w).verifier with overcurrent := s.tripped w }
    flags := s.flagsRaised w
    came := s.came ++ engineOccurrences (s.engineSteps w) (s.compared w).failed
    work :=
      some
        { w with
          stage := .referenced, outputs := s.outputsFormed w,
          faults := PerFeeder.build fun f => (s.tripped w).get f || (s.verifyFailed w).get f } }

/-- The engines after the verifier step's lockouts (R91). -/
def State.enginesVerified (s : State) (w : Work) : PerFeeder Engine :=
  PerFeeder.build fun f => (s.engines.get f).verifierStep (w.faults.get f) s.eventOpen

/-- The slot outputs as the verifier step leaves them (R91, R109). -/
def State.outputsVerified (s : State) (w : Work) : PerFeeder SlotOutput :=
  PerFeeder.build fun f => (w.outputs.get f).afterVerifier ((s.enginesVerified w).get f).state

/-- The engines at the end of their work on the cell: references, peak reference, energy draw (R109, R110, R112). -/
def State.enginesAccounted (s : State) (w : Work) : PerFeeder Engine :=
  PerFeeder.build fun f =>
    if f ∈ s.maps.active then
      ((s.enginesVerified w).get f).account w.sense.supply (slotOf s.maps.active w.sense.slots f)
        ((s.outputsVerified w).get f) s.eventOpen
    else (s.enginesVerified w).get f

/-- The histories gain the cell's entries (R143), and the engines' work on the cell is done. -/
def State.appendHistories (s : State) (outputs : PerFeeder SlotOutput) (w : Work) : State :=
  { s with
    verifier := s.verifier.append outputs
    work := some { w with stage := .engined, outputs := outputs } }

/-- The third stage: every engine's verifier step and what follows it (R91, R109 to R112), then the histories (R143). -/
def State.verifyCell (s : State) (w : Work) : State :=
  (s.moveEnginesRaising (s.enginesAccounted w)).appendHistories (s.outputsVerified w) w

/-- The change is abandoned: the transitions of its feeders, then the pending map gone and MAP_ABANDONED set (R132). -/
def State.dropChange (s : State) : State :=
  { s with
    maps := { s.maps with pending := none, age := 0 }
    flags := s.flags.latch .mapAbandoned
    came := s.came ++ [.mapChangeAbandon] }

/-- The change is abandoned where its age has reached MAP_CHANGE_LIMIT (R132). -/
def State.abandonChange (s : State) (b : Bank) : State :=
  if s.maps.pending.isSome && decide (b.mapChangeLimit ≤ s.maps.age) then
    (s.moveEnginesRaising (s.engines.map Engine.abandon)).dropChange
  else s

/-- The four words of a feeder's slot in the cell's DRIVE cell: in echo mode its load voltages, bypass closed and the
modulator disabled (R23); otherwise its slot outputs (R19). -/
def State.cellSlotWords (s : State) (w : Work) (f : Feeder) : List Word :=
  let o := w.outputs.get f
  if s.egress.echo then
    slotWords (slotOf s.maps.active w.sense.slots f).load (slotControlWord true false o.state)
  else slotWords o.references (slotControlWord o.bypassClosed o.modulator o.state)

/-- The device status word as it stands (R19). -/
def State.statusWord (s : State) : Word :=
  deviceStatusWord s.monitor.sag s.ingress.link s.egress.echo s.flags.attention

/-- The DRIVE cell of an accepted cell (R19). -/
def State.cellDrive (s : State) (w : Work) : List Word :=
  driveCell s.maps.epoch w.sense.sequence s.statusWord (s.maps.active.flatMap (s.cellSlotWords w))

/-- Slot outputs whose state codes are those of feeders an abandon restored (R132). -/
def restoreCodes (before after : PerFeeder Engine) (outputs : PerFeeder SlotOutput) : PerFeeder SlotOutput :=
  PerFeeder.build fun f =>
    if (before.get f).state = (after.get f).state then outputs.get f
    else { outputs.get f with state := (after.get f).state }

/-- The lowest E‰ of the open record (R159). The model takes it at the end of the cell's work: R159 and R114 name no moment within it
(DESIGN CHOICE, assumption 38). -/
def State.keepLowest (s : State) : State := { s with recorder := s.recorder.keepLowest s.store.energy }

/-- The recorder's part of an accepted cell, at the end of its work: the lowest E‰ (whose moment is the model's choice, assumption
38), and the close at an event's end (R159, R160). -/
def State.recordCell (s : State) (w : Work) : State :=
  if w.marks.eventEnd then s.keepLowest.closeRecord w.bank .recovered else s.keepLowest

/-- The cell's DRIVE cell is assembled and becomes ready (R19), from the slot outputs with the state codes an abandon
restored. -/
def State.sendDrive (s : State) (before : PerFeeder Engine) (w : Work) : State :=
  s.readyDrive (s.cellDrive { w with outputs := restoreCodes before s.engines w.outputs }) w.sense.sequence

/-- A check's restart by a commit that took effect after the cell's acceptance is made at the end of its work (R138). -/
def State.lateRestart (s : State) (w : Work) : State := if w.commitDuring then s.restartChecks else s

/-- No cell is being worked. -/
def State.endWork (s : State) : State := { s with work := none }

/-- The last stage: the Event Recorder, the abandon, the DRIVE cell, and what waited for the end of a cell's work. -/
def State.finishCell (s : State) (w : Work) : State :=
  State.endWork
    (((((s.recordCell w).abandonChange w.bank).sendDrive (s.recordCell w).engines w).lateRestart w).endCell
      w.zeroCrossing)

/-! ### Running the work -/

/-- One missing cell, with the epoch switch after the last of them, or one stage of the accepted cell, is worked. -/
def State.advance (s : State) : State :=
  match s.work with
  | none => s
  | some w =>
    match w.stage with
    | .accepted => if w.missing = 0 then s.trackCell w else (s.workMissing w).settleSwitch
    | .tracked => s.engageCell w
    | .referenced => s.verifyCell w
    | .engined => s.finishCell w

/-- The work stands at a point, or beyond it. -/
def Work.standsAt (w : Work) : WorkPoint → Bool
  | .gap left => decide (w.stage ≠ .accepted) || decide (w.missing ≤ left)
  | .tracked => decide (w.stage ≠ .accepted)
  | .referenced => decide (w.stage = .referenced) || decide (w.stage = .engined)
  | .engined => decide (w.stage = .engined)
  | .ended => false

/-- At most n advances, stopping where the work stands at a point. -/
def State.advanceTo (p : WorkPoint) : Nat → State → State
  | 0, s => s
  | n + 1, s =>
    match s.work with
    | none => s
    | some w => if w.standsAt p then s else State.advanceTo p n s.advance

/-- The advances that bring a cell's work to its end. -/
def Work.length (w : Work) : Nat := w.missing + 4

/-- The work in progress, if any, is carried to a point. -/
def State.workTo (s : State) (p : WorkPoint) : State :=
  match s.work with
  | none => s
  | some w => State.advanceTo p w.length s

/-- The work in progress, if any, is carried to its end. -/
def State.finishWork (s : State) : State := s.workTo .ended

/-- The state between two cells' work: the work of a cell whose own work has begun is carried to its end (R130). -/
def State.toBetween (s : State) : State := if s.betweenCells then s else s.finishWork

end Sys2Proof.Machine
end

