-- ==== Sys2Proof/Machine/Arrival.lean ====
section
/-! DEFINITION. CELL_ARRIVAL: the six acceptance checks (section 1.2), what an accepted SENSE cell does at its acceptance, and
the management queue (section 1.4). -/
namespace Sys2Proof.Machine

/-! ### Counters -/

def Counters.get (c : Counters) : LinkCounter → Nat
  | .crcErrors => c.crcErrors
  | .shapeErrors => c.shapeErrors
  | .epochErrors => c.epochErrors
  | .missingCells => c.missingCells
  | .duplicates => c.duplicates
  | .sequenceBreaks => c.sequenceBreaks
  | .managementOverruns => c.managementOverruns
  | .housekeepingErrors => c.housekeepingErrors

def Counters.set (c : Counters) (k : LinkCounter) (v : Nat) : Counters :=
  match k with
  | .crcErrors => { c with crcErrors := v }
  | .shapeErrors => { c with shapeErrors := v }
  | .epochErrors => { c with epochErrors := v }
  | .missingCells => { c with missingCells := v }
  | .duplicates => { c with duplicates := v }
  | .sequenceBreaks => { c with sequenceBreaks := v }
  | .managementOverruns => { c with managementOverruns := v }
  | .housekeepingErrors => { c with housekeepingErrors := v }

/-- The counters in index order (R17). -/
def LinkCounter.all : List LinkCounter :=
  [.crcErrors, .shapeErrors, .epochErrors, .missingCells, .duplicates, .sequenceBreaks, .managementOverruns,
   .housekeepingErrors]

/-- A counter advanced, saturating at 65,535 (R17). -/
def Counters.advance (c : Counters) (k : LinkCounter) (n : Nat) : Counters :=
  c.set k (saturateAdd Config.counterMax (c.get k) n)

/-- A link counter of the part advanced. -/
def State.count (s : State) (k : LinkCounter) (n : Nat) : State :=
  { s with ingress := { s.ingress with counters := s.ingress.counters.advance k n } }

/-- A device flag's cause occurs (R150). -/
def State.latch (s : State) (k : DeviceFlag) : State := { s with flags := s.flags.latch k }

/-! ### Dropped cells -/

/-- A shape error (R5, R6). -/
def State.shapeError (s : State) : State := (s.count .shapeErrors 1).latch .shapeSeen

/-- A CRC error (R5). -/
def State.crcError (s : State) : State := (s.count .crcErrors 1).latch .crcSeen

/-- An epoch error (R7). -/
def State.epochError (s : State) : State := (s.count .epochErrors 1).latch .epochSeen

/-- A duplicate (R8). -/
def State.duplicate (s : State) : State := s.count .duplicates 1

/-! ### MANAGE cells -/

/-- An entry that arrives while the engine is IDLE with an empty queue is taken on its arrival, unless a load is running
(R169, R193). -/
def State.takesOnArrival (s : State) : Bool :=
  decide (s.management.engine = .idle) && s.ingress.queue.isEmpty && !s.loader.state.loading

/-- An accepted MANAGE cell is offered to the management queue (R11, R15). -/
def State.offer (s : State) (r : Request) : State :=
  if s.takesOnArrival then s.take r
  else if s.ingress.queue.length < Config.managementQueueSize then
    { s with ingress := { s.ingress with queue := s.ingress.queue ++ [r] } }
  else (s.count .managementOverruns 1).latch .manageOverrun

/-- A MANAGE cell: the fourth check, then the queue (R6). -/
def State.arriveManage (s : State) (words : List Word) : State :=
  if words.length = 4 + (wordAt words 2).toNat then s.offer (requestOf words) else s.shapeError

/-! ### SENSE cells -/

/-- The outcome of the sixth check (R8). -/
inductive SequenceCheck where
  | accepted (missing : Nat)
  | duplicate
  | sequenceBreak
deriving DecidableEq, Repr

/-- The sixth check on a gap (R8). -/
def sequenceCheck (link : LinkState) (gap : Nat) : SequenceCheck :=
  if link = .up then
    if gap = 255 then .duplicate else if gap ≤ 15 then .accepted gap else .sequenceBreak
  else .accepted 0

/-- The gap g, modulo 256 (R8). -/
def sequenceGap (sequence expected : BitVec 8) : Nat := (sequence - expected).toNat

/-- The counters an acceptance advances: missing cells (R9), sequence breaks (R10), housekeeping errors (R18). -/
def acceptanceCounters (c : Counters) (missing : Nat) (breaks : Bool) (housekeeping : Word) : Counters :=
  let c1 := c.advance .missingCells missing
  let c2 := if breaks then c1.advance .sequenceBreaks 1 else c1
  if (housekeepingReading housekeeping).isNone then c2.advance .housekeepingErrors 1 else c2

/-- The work that begins at a cell's acceptance; its bank is the one active now (R11). -/
def State.beginWork (s : State) (c : Sense) (missing : Nat) (switches : Bool) : Work :=
  { sense := c, bank := s.tables.active, missing := missing, stage := .accepted,
    linkReturn := decide (s.ingress.link ≠ .up), switches := switches, syncBarred := false, commitDuring := false,
    live := s.tracker.live, hold := s.tracker.hold, amplitudeRef := s.tracker.amplitudeRef, zeroCrossing := false,
    marks := Marks.clear, published := none, outputs := PerFeeder.fill (SlotOutput.closed .offline),
    faults := PerFeeder.fill false }

/-- What the marks of a sequence break and of a link return do at the acceptance: the histories are emptied and path checks
restart (R10, R14, R138, R143). -/
def State.breakMarks (s : State) (marked : Bool) : State :=
  if marked then { s.restartChecks with verifier := s.verifier.empty } else s

/-- What the acceptance of a SENSE cell does, but for an epoch switch (R8 to R14, R18, R22, R132). -/
def State.enterCell (s : State) (c : Sense) (missing : Nat) (breaks switches : Bool) : State :=
  let s1 := s.breakMarks (breaks || decide (s.ingress.link ≠ .up))
  { s1 with
    ingress :=
      { s.ingress with
        link := .up, expected := c.sequence + 1, quietTimer := some (4 * s.tables.active.cellPeriod),
        counters := acceptanceCounters s.ingress.counters missing breaks c.housekeeping }
    flags := s.flags.latchIf breaks .seqBreak
    maps := { s1.maps with age := if s.maps.pending.isSome && !switches then s.maps.age + 1 else s.maps.age }
    egress := { s.egress with cellTimer := none }
    work := some (s.beginWork c missing switches)
    came := [] }

/-- A SENSE cell is accepted; an epoch switch it triggers is made at once where no missing cell stands before it (R131). -/
def State.accept (s : State) (c : Sense) (missing : Nat) (breaks switches : Bool) : State :=
  (s.enterCell c missing breaks switches).settleSwitch

/-- The sixth check of a SENSE cell and what follows it (R8). -/
def State.checkSequence (s : State) (c : Sense) (switches : Bool) : State :=
  match sequenceCheck s.ingress.link (sequenceGap c.sequence s.ingress.expected) with
  | .accepted missing => s.accept c missing false switches
  | .duplicate => s.duplicate
  | .sequenceBreak => s.accept c 0 true switches

/-- The map a SENSE cell's epoch names, and whether it is the pending one (R6, R7). -/
def State.mapNamed (s : State) (epoch : BitVec 4) : Option (List Feeder × Bool) :=
  if epoch = s.maps.epoch then some (s.maps.active, false)
  else
    match s.maps.pending with
    | some p => if epoch = p.epoch then some (p.feeders, true) else none
    | none => none

/-- A SENSE cell: the fourth, fifth and sixth checks (R6 to R8). -/
def State.arriveSense (s : State) (words : List Word) : State :=
  let c := senseOf words
  match s.mapNamed c.epoch with
  | none => s.epochError
  | some (map, switches) =>
    if words.length = senseLength map.length then s.checkSequence c switches else s.shapeError

/-- The length bounds (R5). -/
def lengthBounds (n : Nat) : Bool := decide (Config.shortestCell ≤ n) && decide (n ≤ Config.longestCell)

/-- A cell's last word is the check word of the words before it (R2). -/
def crcMatches (words : List Word) : Bool := decide (words.getLast? = some (crc16 words.dropLast))

/-- An arriving cell: the first three checks, then its kind's own (R5). -/
def State.arrive (s : State) (words : List Word) : State :=
  if lengthBounds words.length then
    if crcMatches words then
      if headerKind (wordAt words 0) = kindSense then s.arriveSense words
      else if headerKind (wordAt words 0) = kindManage then s.arriveManage words
      else s.shapeError
    else s.crcError
  else s.shapeError

/-- CELL_ARRIVAL (R1): the cell before it has been worked to its end (R11); the arriving cell is checked, and if it is an
accepted SENSE cell it is worked up to the point the command names. -/
def execCellArrival (words : List Word) (upTo : WorkPoint) (s : State) : Host.Outcome State Fault Refusal :=
  .next (s.ready fun s1 => (s1.finishWork.arrive words).workTo upTo)

end Sys2Proof.Machine
end

