-- ==== Sys2Proof/Machine/CellSteps.lean ====
section
/-! DEFINITION. The rows of the table that name something coming about in the work of a cell: each carries the work in progress
to its end where the thing comes about in what remains of it; where it does not, this step does not come about and nothing
changes (assumption 2). -/
namespace Sys2Proof.Machine

/-- The work in progress as it ends, with what comes about from here on noted alone. -/
def State.restOfWork (s : State) : State := State.finishWork { s with came := [] }

/-- The work in progress is carried to its end if the thing named comes about in it. -/
def State.comesAbout (x : Occurrence) (s : State) : State := if x ∈ s.restOfWork.came then s.restOfWork else s

/-- ACQUIRE_END (R46). -/
def execAcquireEnd (s : State) : Host.Outcome State Fault Refusal := .next (s.ready (State.comesAbout .acquireEnd))

/-- CONFIRMATION (R49). -/
def execConfirmation (s : State) : Host.Outcome State Fault Refusal := .next (s.ready (State.comesAbout .confirmation))

/-- CLASSIFICATION_POINT (R52). -/
def execClassificationPoint (s : State) : Host.Outcome State Fault Refusal :=
  .next (s.ready (State.comesAbout .classificationPoint))

/-- EVENT_END (R55). -/
def execEventEnd (s : State) : Host.Outcome State Fault Refusal := .next (s.ready (State.comesAbout .eventEnd))

/-- BURST_TIMER_EXPIRY (R56). -/
def execBurstTimerExpiry (s : State) : Host.Outcome State Fault Refusal :=
  .next (s.ready (State.comesAbout .burstTimerExpiry))

/-- RELEASE_END (R87). -/
def execReleaseEnd (f : Feeder) (s : State) : Host.Outcome State Fault Refusal :=
  .next (s.ready (State.comesAbout (.releaseEnd f)))

/-- PATH_CHECK_VERDICT (R137). -/
def execPathCheckVerdict (f : Feeder) (s : State) : Host.Outcome State Fault Refusal :=
  .next (s.ready (State.comesAbout (.pathCheckVerdict f)))

/-- VERIFY_FAILURE (R149). -/
def execVerifyFailure (f : Feeder) (s : State) : Host.Outcome State Fault Refusal :=
  .next (s.ready (State.comesAbout (.verifyFailure f)))

/-- MAP_CHANGE_ABANDON (R132). -/
def execMapChangeAbandon (s : State) : Host.Outcome State Fault Refusal :=
  .next (s.ready (State.comesAbout .mapChangeAbandon))

/-- COMMIT_TAKES_EFFECT (R185), at the end of a cell's work; at a QUIET entry it comes about in QUIET_TIMER_EXPIRY. -/
def execCommitTakesEffect (s : State) : Host.Outcome State Fault Refusal :=
  .next (s.ready (State.comesAbout .commitTakesEffect))

/-- COMMIT_EXPIRED (R184). -/
def execCommitExpired (s : State) : Host.Outcome State Fault Refusal :=
  .next (s.ready (State.comesAbout .commitExpired))

end Sys2Proof.Machine
end

