-- ==== Sys2Proof/Machine/StatusRequests.lean ====
section
/-! DEFINITION. The requests that read or acknowledge: MALFORMED, ENQUIRE, READ_LIVE, the counters, the flags, echo mode and the
event records. -/
namespace Sys2Proof.Machine

/-- Word i of a request's payload. -/
def Request.word (r : Request) (i : Nat) : Word := r.payload.getD i 0

/-- The next request, where it is tagged MALFORMED, is taken and answered MALFORMED without being carried out (R171). -/
def State.refuseMalformed (s : State) : State :=
  match s.nextRequest with
  | none => s
  | some r => if r.malformed then (s.take r).answer r .malformed [] else s

/-- MALFORMED (R171). -/
def execMalformed (s : State) : Host.Outcome State Fault Refusal := .next (s.ready State.refuseMalformed)

/-- The ENQUIRE payload (R172). Inside a cell's own work it reports what the stages done so far have left: R171 and R172 say as the
state stands, R99 after the last cell's work, R80 at the end of the verifier step (DESIGN CHOICE, assumption 37). -/
def State.enquirePayload (s : State) : List Word :=
  [Word.ofNumber Config.partCode, Word.ofNumber Config.revision, Word.ofNumber s.ingress.link.code,
   Word.ofNumber s.monitor.sag.code]
    ++ (Feeder.all.map fun f => Word.ofNumber (s.engines.get f).state.code)
    ++ [Word.ofNumber s.maps.epoch.toNat, Word.ofNumber ((s.maps.pending.map fun p => p.epoch.toNat).getD 16)]

/-- ENQUIRE's step: the payload, then FEEDER_CHANGE unlatched (R172, R156). -/
def State.enquire (s : State) (r : Request) : State :=
  State.answer { s with flags := s.flags.clearChange } r .done s.enquirePayload

/-- ENQUIRE (R172). -/
def execEnquire (s : State) : Host.Outcome State Fault Refusal :=
  .next (s.ready fun s1 => s1.request .enquire fun r s2 => s2.enquire r)

/-- The READ_LIVE payload (R173). Inside a cell's own work it reports what the stages done so far have left: R171 and R173 say as
the state stands, R99 after the last cell's work (DESIGN CHOICE, assumption 37). -/
def State.livePayload (s : State) : List Word :=
  [Word.ofNumber s.monitor.retained.a, Word.ofNumber s.monitor.retained.b, Word.ofNumber s.monitor.retained.c,
   Word.ofNumber s.store.energy, Word.ofSigned s.tracker.jump, Word.ofNumber s.monitor.sag.code,
   Word.ofNumber s.monitor.elapsed]
    ++ Feeder.all.flatMap fun f =>
      [Word.ofNumber (s.engines.get f).gain, Word.ofNumber (s.engines.get f).mode.code]

/-- READ_LIVE (R173). -/
def execReadLive (s : State) : Host.Outcome State Fault Refusal :=
  .next (s.ready fun s1 => s1.request .readLive fun r s2 => s2.answer r .done s2.livePayload)

/-- The READ_COUNTERS payload (R174). -/
def State.countersPayload (s : State) : List Word :=
  LinkCounter.all.map fun k => Word.ofNumber (s.ingress.counters.get k)

/-- READ_COUNTERS (R174). -/
def execReadCounters (s : State) : Host.Outcome State Fault Refusal :=
  .next (s.ready fun s1 => s1.request .readCounters fun r s2 => s2.answer r .done s2.countersPayload)

/-- WRITE_COUNTER's step (R174). -/
def State.writeCounter (s : State) (r : Request) : State :=
  match LinkCounter.all[(r.word 0).toNat]? with
  | none => s.answer r .malformed []
  | some k =>
    State.answer
      { s with ingress := { s.ingress with counters := s.ingress.counters.set k (r.word 1).toNat } } r .done []

/-- WRITE_COUNTER (R174). -/
def execWriteCounter (s : State) : Host.Outcome State Fault Refusal :=
  .next (s.ready fun s1 => s1.request .writeCounter fun r s2 => s2.writeCounter r)

/-- The conditions that hold now (R150). -/
def State.conditions (s : State) : BitVec 32 :=
  heldConditions s.ingress.link s.store.storeHot s.verifier.overcurrent s.store.sinkHot

/-- The exit from LOCKOUT: every LOCKOUT feeder with none of its five flags latched enters CHECKING (R93). -/
def State.lockoutExit (s : State) : State :=
  s.moveEngines (PerFeeder.build fun f =>
    if (s.engines.get f).state = .lockout ∧ s.flags.feederClear f then (s.engines.get f).enter .checking
    else s.engines.get f)

/-- The named flags are dealt with (R151). -/
def State.unlatch (s : State) (named : BitVec 32) : State := { s with flags := s.flags.clear named s.conditions }

/-- CLEAR_FLAGS' step (R151, R152, R93): the flags, the exit from LOCKOUT, the reply. -/
def State.clearFlags (s : State) (r : Request) : State :=
  (s.unlatch (flagSetOf (r.word 0) (r.word 1))).lockoutExit.answer r .done
    (flagSetWords (s.unlatch (flagSetOf (r.word 0) (r.word 1))).flags.latched)

/-- CLEAR_FLAGS (R152). -/
def execClearFlags (s : State) : Host.Outcome State Fault Refusal :=
  .next (s.ready fun s1 => s1.request .clearFlags fun r s2 => s2.clearFlags r)

/-- SET_REPORT (R153). -/
def execSetReport (s : State) : Host.Outcome State Fault Refusal :=
  .next (s.ready fun s1 => s1.request .setReport fun r s2 =>
    State.answer { s2 with flags := s2.flags.report (flagSetOf (r.word 0) (r.word 1)) } r .done [])

/-- SET_ECHO's step: between two cells' work at once, while a cell is being worked at the end of that cell's work (R23, R171). -/
def State.echoRequest (s : State) (r : Request) : State :=
  if (r.word 0).toNat ≤ 1 then
    if s.betweenCells then s.setEcho r (decide ((r.word 0).toNat = 1))
    else
      { s with
        management :=
          { s.management with carriedOut := true, echoWaits := some (decide ((r.word 0).toNat = 1)) } }
  else s.answer r .malformed []

/-- SET_ECHO (R23). -/
def execSetEcho (s : State) : Host.Outcome State Fault Refusal :=
  .next (s.ready fun s1 => s1.request .setEcho fun r s2 => s2.echoRequest r)

/-- The payload of the open record, with end cause code 2 (R166). Its class is formed with the JUMP_THRESHOLD of the active bank:
R166 names no bank, and inside the work of a cell accepted under an earlier bank the two may differ (DESIGN CHOICE, assumption
34). Inside a cell's own work its figures are those the stages done so far have left: R166 says as they stand, R80 has an engine hand
its state to the recorder at the end of its verifier step (DESIGN CHOICE, assumption 39). -/
def State.openPayload (s : State) (o : OpenRecord) : List Word :=
  (o.gather s.tables.active s.monitor.worst s.engines s.ingress.cellTime .recovered).words 2

/-- The payload READ_EVENT's index names, if it names a record (R165). -/
def State.eventPayload (s : State) (index : Nat) : Option (List Word) :=
  if index = 255 then s.recorder.openRecord.map s.openPayload
  else if index ≤ 15 then (s.recorder.queue[index]?).map fun x => x.words x.cause.code
  else none

/-- READ_EVENT's step (R165). -/
def State.readEvent (s : State) (r : Request) : State :=
  match s.eventPayload (r.word 0).toNat with
  | some payload => s.answer r .done payload
  | none => s.answer r .empty []

/-- READ_EVENT (R165). -/
def execReadEvent (s : State) : Host.Outcome State Fault Refusal :=
  .next (s.ready fun s1 => s1.request .readEvent fun r s2 => s2.readEvent r)

/-- The RELEASE_EVENT payload (R167). -/
def Recorder.releasePayload (x : Recorder) : List Word :=
  [Word.ofNumber x.queue.length, Word.ofNumber ((x.queue.head?.map EventRecord.number).getD 0)]

/-- The oldest record is removed (R167). -/
def State.dropOldest (s : State) : State := { s with recorder := { s.recorder with queue := s.recorder.queue.tail } }

/-- The oldest record carries the number given (R167). -/
def Recorder.namesOldest (x : Recorder) (number : Nat) : Bool := decide (x.queue.head?.map EventRecord.number = some number)

/-- RELEASE_EVENT's step (R167). -/
def State.releaseEvent (s : State) (r : Request) : State :=
  if s.recorder.namesOldest (r.word 0).toNat then s.dropOldest.answer r .done s.dropOldest.recorder.releasePayload
  else s.answer r .stale s.recorder.releasePayload

/-- RELEASE_EVENT (R167). -/
def execReleaseEvent (s : State) : Host.Outcome State Fault Refusal :=
  .next (s.ready fun s1 => s1.request .releaseEvent fun r s2 => s2.releaseEvent r)

end Sys2Proof.Machine
end

