-- ==== Sys2Proof/Machine/SettingRequests.lean ====
section
/-! DEFINITION. The requests that read and write settings and tables: READ_SETTING, WRITE_SETTING, LOAD_ENVELOPE, LOAD_RESPONSE
and DISCARD_SHADOW (sections 4.5, 11.3). What a write does to a bank is stated on the bank alone, since the Image Loader applies
an image's records in the same way (R191). -/
namespace Sys2Proof.Machine

/-! ### Writing a bank -/

/-- What a request that writes a bank comes to. -/
inductive Written where
  | refused (result : Result)
  | stored (bank : Bank) (result : Result) (payload : List Word)
deriving DecidableEq, Repr

/-- DONE where a value is stored as given, CLAMPED where it is stored otherwise (R178). -/
def storedResult (given kept : Nat) : Result := if kept = given then .done else .clamped

/-- A 32-bit value as payload words (R177, R178). -/
def valueWords (v : Nat) : List Word := twoWords (BitVec.ofNat 32 v)

/-- A device item written (R178). -/
def Bank.storeDevice (b : Bank) (d : DeviceItem) (v : Nat) : Written :=
  .stored (b.write d (d.stored v)) (storedResult v (d.stored v)) (valueWords (d.stored v))

/-- A feeder item written (R178). -/
def Bank.storeFeeder (b : Bank) (f : Feeder) (i : FeederItem) (v : Nat) : Written :=
  .stored (b.setFeeder f ((b.feeder f).write i (i.stored v))) (storedResult v (i.stored v)) (valueWords (i.stored v))

/-- WRITE_SETTING on a bank (R178, R77). -/
def Bank.writeSetting (b : Bank) (r : Request) : Written :=
  let v := joinWords (r.word 1) (r.word 2)
  match Item.ofNumber (r.word 0).toNat with
  | none => .refused .unknownItem
  | some .envelope => .refused .unknownItem
  | some .response => .refused .unknownItem
  | some (.device d) => if r.target = deviceTarget then b.storeDevice d v else .refused .malformed
  | some (.feeder i) =>
    match r.feeder with
    | some f => b.storeFeeder f i v
    | none => .refused .malformed

/-- The rows of a LOAD_ENVELOPE payload after its count word: pairs of a duration and a floor, a floor above 1000 stored as
1000 (R75). -/
def envelopeRows : List Word → List EnvelopeRow
  | d :: fl :: rest => ⟨d.toNat, min 1000 fl.toNat⟩ :: envelopeRows rest
  | _ => []

/-- Some floor of the payload's rows exceeds 1000 (R75). -/
def floorsClamped : List Word → Bool
  | _ :: fl :: rest => decide (1000 < fl.toNat) || floorsClamped rest
  | _ => false

/-- LOAD_ENVELOPE on a bank (R75). -/
def Bank.loadEnvelope (b : Bank) (r : Request) : Written :=
  match r.feeder with
  | none => .refused .malformed
  | some f =>
    .stored (b.setFeeder f { b.feeder f with envelope := envelopeRows r.payload.tail })
      (if floorsClamped r.payload.tail then .clamped else .done) []

/-- One pair of a LOAD_RESPONSE payload. -/
structure ResponseEntry where
  eventClass : Nat
  mode : Mode
deriving DecidableEq, Repr

/-- The pairs of a LOAD_RESPONSE payload, where every class is 0 to 15 and every mode code 0 to 3 (R76). -/
def responseEntries : List Word → Option (List ResponseEntry)
  | c :: m :: rest =>
    match Mode.ofResponseCode m.toNat, responseEntries rest with
    | some mode, some entries => if c.toNat ≤ 15 then some (⟨c.toNat, mode⟩ :: entries) else none
    | _, _ => none
  | _ => some []

/-- Entries written pair by pair, in payload order (R76). -/
def writeEntries (response : List Mode) (entries : List ResponseEntry) : List Mode :=
  entries.foldl (fun table e => table.set e.eventClass e.mode) response

/-- LOAD_RESPONSE on a bank (R76). -/
def Bank.loadResponse (b : Bank) (r : Request) : Written :=
  match r.feeder, responseEntries r.payload with
  | some f, some entries =>
    .stored (b.setFeeder f { b.feeder f with response := writeEntries (b.feeder f).response entries }) .done []
  | _, _ => .refused .malformed

/-- A write's outcome settled on the shadow bank and answered (R175, R178). -/
def State.settleWrite (s : State) (r : Request) (w : Written) : State :=
  match w with
  | .refused result => s.answer r result []
  | .stored bank result payload => State.answer { s with tables := { s.tables with shadow := bank } } r result payload

/-- WRITE_SETTING (R178). -/
def execWriteSetting (s : State) : Host.Outcome State Fault Refusal :=
  .next (s.ready fun s1 => s1.request .writeSetting fun r s2 => s2.settleWrite r (s2.tables.shadow.writeSetting r))

/-- LOAD_ENVELOPE (R75). -/
def execLoadEnvelope (s : State) : Host.Outcome State Fault Refusal :=
  .next (s.ready fun s1 => s1.request .loadEnvelope fun r s2 => s2.settleWrite r (s2.tables.shadow.loadEnvelope r))

/-- LOAD_RESPONSE (R76). -/
def execLoadResponse (s : State) : Host.Outcome State Fault Refusal :=
  .next (s.ready fun s1 => s1.request .loadResponse fun r s2 => s2.settleWrite r (s2.tables.shadow.loadResponse r))

/-- DISCARD_SHADOW (R179). -/
def execDiscardShadow (s : State) : Host.Outcome State Fault Refusal :=
  .next (s.ready fun s1 => s1.request .discardShadow fun r s2 =>
    State.answer { s2 with tables := { s2.tables with shadow := s2.tables.active } } r .done [])

/-! ### Reading a bank -/

/-- The READ_SETTING payload of a feeder's part (R77, R177). -/
def FeederBank.payload (fb : FeederBank) : Item → List Word
  | .device _ => []
  | .feeder i => valueWords (fb.read i)
  | .envelope =>
    Word.ofNumber fb.envelope.length :: fb.envelope.flatMap fun x => [Word.ofNumber x.duration, Word.ofNumber x.floor]
  | .response => fb.response.map fun m => Word.ofNumber m.code

/-- The payload of an item read for a target, none where the item's kind does not match the target (R177). -/
def Bank.payload (b : Bank) (item : Item) (r : Request) : Option (List Word) :=
  match item with
  | .device d => if r.target = deviceTarget then some (valueWords (b.read d)) else none
  | .feeder i => r.feeder.map fun f => (b.feeder f).payload (.feeder i)
  | .envelope => r.feeder.map fun f => (b.feeder f).payload .envelope
  | .response => r.feeder.map fun f => (b.feeder f).payload .response

/-- The bank a selector names: 0 active, 1 shadow (R177). -/
def Tables.selected (t : Tables) (selector : Nat) : Option Bank :=
  if selector = 0 then some t.active else if selector = 1 then some t.shadow else none

/-- READ_SETTING's step (R177): the item is known, its kind matches the target, the selector is 0 or 1, in that order. -/
def State.readSetting (s : State) (r : Request) : State :=
  match Item.ofNumber (r.word 0).toNat with
  | none => s.answer r .unknownItem []
  | some item =>
    match (s.tables.selected (r.word 1).toNat).bind fun b => b.payload item r with
    | some payload => s.answer r .done payload
    | none => s.answer r .malformed []

/-- READ_SETTING (R177). -/
def execReadSetting (s : State) : Host.Outcome State Fault Refusal :=
  .next (s.ready fun s1 => s1.request .readSetting fun r s2 => s2.readSetting r)

end Sys2Proof.Machine
end

