-- ==== Sys2Proof/Machine/CommitRequests.lean ====
section
/-! DEFINITION. COMMIT NOW and COMMIT SYNC as the engine takes them (R180, R181, R183). What happens to a deferred commit at
the end of a cell's work stands in Machine/CellPath.lean, and at a QUIET entry in Machine/LinkSteps.lean. -/
namespace Sys2Proof.Machine

/-- The reply payload of a failed validation: the failing item and the target (R180). -/
def TableFault.words (x : TableFault) : List Word := [Word.ofNumber x.item, Word.ofNumber x.target]

/-- A validated commit enters DEFERRED with a deferral age of 0 (R181). -/
def State.defer (s : State) : State :=
  { s with management := { s.management with engine := .deferred, deferralAge := 0 } }

/-- The cell being worked before its accepted stage is done is not a cell worked after a COMMIT SYNC taken now (R183): a
missing cell of its gap still to be worked is one, so the bar falls on the accepted cell only once that cell's own work has
begun (assumption 8). -/
def State.barSync (s : State) : State :=
  { s with work := s.work.map fun w => if w.stage = .accepted then w else { w with syncBarred := true } }

/-- COMMIT NOW's step: between two cells' work with the quiescent condition holding it takes effect at once (R180, R181). -/
def State.commitNow (s : State) (r : Request) : State :=
  match s.tables.shadow.fault with
  | some x => s.answer r .invalidTable x.words
  | none =>
    if s.betweenCells && s.quiescent then
      State.takeCommit { s with management := { s.management with deferralAge := 0 } } r
    else s.defer

/-- COMMIT_NOW (R181). -/
def execCommitNow (s : State) : Host.Outcome State Fault Refusal :=
  .next (s.ready fun s1 => s1.request .commitNow fun r s2 => s2.commitNow r)

/-- COMMIT SYNC's step (R180, R181, R183). -/
def State.commitSync (s : State) (r : Request) : State :=
  match s.tables.shadow.fault with
  | some x => s.answer r .invalidTable x.words
  | none => s.defer.barSync

/-- COMMIT_SYNC (R183). -/
def execCommitSync (s : State) : Host.Outcome State Fault Refusal :=
  .next (s.ready fun s1 => s1.request .commitSync fun r s2 => s2.commitSync r)

end Sys2Proof.Machine
end

