-- ==== Sys2Proof/Machine/FeederRequests.lean ====
section
/-! DEFINITION. The requests on one feeder: ENLIST, RETIRE and FORCE_BYPASS (R127, R128, R92). -/
namespace Sys2Proof.Machine

/-- The payload of an ACCEPTED reply: the pending epoch, the number of feeders in the pending map, then those feeders (R127). -/
def mapPayload (epoch : BitVec 4) (map : List Feeder) : List Word :=
  Word.ofNumber epoch.toNat :: Word.ofNumber map.length :: map.map fun f => Word.ofNumber f.number

/-- A change is made for one feeder: the pending epoch is the active epoch plus 1, the feeder's engine stands as given, and the
reply is ACCEPTED (R127, R128). -/
def State.acceptChange (s : State) (r : Request) (map : List Feeder) (after : PerFeeder Engine) : State :=
  State.answer ((s.announce (s.maps.epoch + 1) map).moveEngines after) r .accepted (mapPayload (s.maps.epoch + 1) map)

/-- ENLIST's step on a feeder (R127, R24). -/
def State.enlist (s : State) (r : Request) (f : Feeder) : State :=
  if (s.engines.get f).state = .offline ∧ s.egress.echo = false then
    if s.maps.pending.isNone then
      if s.monitor.sag.quietState then
        s.acceptChange r (mapWith s.maps.active f) (s.engines.set f ((s.engines.get f).enter .enlisting))
      else s.answer r .refusedEvent []
    else s.answer r .refusedBusyMap []
  else s.answer r .refusedState []

/-- The states a feeder can be retired from (R128). -/
def FeederState.retirable : FeederState → Bool
  | .standby => true
  | .shed => true
  | .lockout => true
  | .offline => false
  | .enlisting => false
  | .checking => false
  | .injecting => false
  | .releasing => false
  | .retiring => false

/-- A feeder enters RETIRING, its present state recorded as its prior state (R128). -/
def Engine.retire (e : Engine) : Engine := { e.enter .retiring with prior := some e.state }

/-- RETIRE's step on a feeder (R128). -/
def State.retire (s : State) (r : Request) (f : Feeder) : State :=
  if (s.engines.get f).state.driving then s.answer r .refusedEvent []
  else if (s.engines.get f).state.retirable then
    if s.maps.pending.isNone then
      s.acceptChange r (mapWithout s.maps.active f) (s.engines.set f (s.engines.get f).retire)
    else s.answer r .refusedBusyMap []
  else s.answer r .refusedState []

/-- The slot outputs of the cell being worked, where a feeder is locked out between its reference step and its verifier step:
they are replaced by those of LOCKOUT (R92, the middle order). -/
def Work.bypass (f : Feeder) (w : Work) : Work :=
  if w.stage = .referenced then { w with outputs := w.outputs.set f (SlotOutput.closed .lockout) } else w

/-- The cell being worked, if one is, after a lockout by request (R92). -/
def State.bypassWork (s : State) (f : Feeder) : State := { s with work := s.work.map (Work.bypass f) }

/-- A feeder enters LOCKOUT on the supervisor's command (R92). -/
def State.lockFeeder (s : State) (f : Feeder) : State :=
  (s.moveEngines (s.engines.set f ((s.engines.get f).lockOut s.eventOpen))).bypassWork f

/-- OPERATOR is set for the feeder (R92). -/
def State.setOperator (s : State) (f : Feeder) : State := { s with flags := s.flags.latchFeeder .operator f }

/-- FORCE_BYPASS's step on a feeder (R92). -/
def State.forceBypass (s : State) (r : Request) (f : Feeder) : State :=
  if (s.engines.get f).state.lockable then ((s.lockFeeder f).setOperator f).answer r .done []
  else if (s.engines.get f).state = .lockout then (s.setOperator f).answer r .done []
  else s.answer r .refusedState []

/-- The step of a request whose target is a feeder. An entry that passed the command table names one (R16). -/
def State.forFeeder (s : State) (r : Request) (act : Feeder → State) : State :=
  match r.feeder with
  | some f => act f
  | none => s.answer r .malformed []

/-- The step of a request that is carried out between cells only: one that falls in a cell's own work finds that work carried to
its end, so it acts on the state the cell's work has left and the cell's slot outputs stand (R130, R81; assumption 35). -/
def State.requestBetween (s : State) (c : Command) (act : Request → State → State) : State :=
  match s.nextRequest with
  | none => s
  | some r => if r.command = some c then act r (s.toBetween.take r) else s

/-- ENLIST (R127, R130). -/
def execEnlist (s : State) : Host.Outcome State Fault Refusal :=
  .next (s.ready fun s1 => s1.requestBetween .enlist fun r s2 => s2.forFeeder r (s2.enlist r))

/-- RETIRE (R128, R130). -/
def execRetire (s : State) : Host.Outcome State Fault Refusal :=
  .next (s.ready fun s1 => s1.requestBetween .retire fun r s2 => s2.forFeeder r (s2.retire r))

/-- FORCE_BYPASS (R92). -/
def execForceBypass (s : State) : Host.Outcome State Fault Refusal :=
  .next (s.ready fun s1 => s1.request .forceBypass fun r s2 => s2.forFeeder r (s2.forceBypass r))

end Sys2Proof.Machine
end

