-- ==== Sys2Proof/Machine/ImageSteps.lean ====
section
/-! DEFINITION. The configuration image (chapter 12): its words, the save and its page protocol, the load, and the resets. -/
namespace Sys2Proof.Machine

/-! ### The image of a bank -/

/-- A command word (section 1.5). -/
def commandWord (code : BitVec 8) (target : BitVec 4) : Word := code ++ 0#4 ++ target

/-- A record: command word, length word, payload (R189). -/
def record (code : BitVec 8) (target : BitVec 4) (payload : List Word) : List Word :=
  commandWord code target :: Word.ofNumber payload.length :: payload

/-- A WRITE_SETTING record (R194). -/
def settingRecord (target : BitVec 4) (item value : Nat) : List Word :=
  record 0x03 target (Word.ofNumber item :: valueWords value)

/-- A LOAD_RESPONSE payload naming classes from c on, in order (R194). -/
def responsePairs : Nat → List Mode → List Word
  | _, [] => []
  | c, m :: rest => Word.ofNumber c :: Word.ofNumber m.code :: responsePairs (c + 1) rest

/-- One feeder's records: items 32 to 45, its envelope, its Response Table (R194). -/
def FeederBank.records (fb : FeederBank) (target : BitVec 4) : List Word :=
  (FeederItem.all.flatMap fun i => settingRecord target i.number (fb.read i))
    ++ record 0x04 target (fb.payload .envelope) ++ record 0x05 target (responsePairs 0 fb.response)

/-- A bank's records in the order of R194. -/
def Bank.records (b : Bank) : List Word :=
  (DeviceItem.all.flatMap fun d => settingRecord deviceTarget d.number (b.read d))
    ++ Feeder.all.flatMap fun f => (b.feeder f).records (BitVec.ofNat 4 f.number)

/-- The words of an image that holds the records given (R189). -/
def imageWords (records : List Word) : List Word :=
  withCrc (Word.ofNumber Config.imageSignature :: Word.ofNumber Config.imageVersion :: Word.ofNumber records.length
    :: records)

/-- Words as bytes, each word upper byte first (R189). -/
def wordBytes (words : List Word) : List Byte :=
  words.flatMap fun w => [w.extractLsb' 8 8, w.extractLsb' 0 8]

/-- Bytes cut into pages of 32 from an address on, the last page perhaps short; at most n pages (R194). -/
def pagesFrom : Nat → Nat → List Byte → List PageWrite
  | 0, _, _ => []
  | n + 1, address, bytes =>
    if bytes = [] then []
    else ⟨address, bytes.take Config.pageBytes⟩
      :: pagesFrom n (address + Config.pageBytes) (bytes.drop Config.pageBytes)

/-- The pages of an image. -/
def imagePages (bytes : List Byte) : List PageWrite := pagesFrom (bytes.length / Config.pageBytes + 1) 0 bytes

/-- A page with its first word written as 0x0000 (R194). -/
def PageWrite.blankSignature (x : PageWrite) : PageWrite := { x with bytes := 0 :: 0 :: x.bytes.drop 2 }

/-- The page writes of a save in order: page 0 with its signature blank, the other pages, page 0 again (R194). -/
def saveWrites (pages : List PageWrite) : List PageWrite :=
  match pages with
  | [] => []
  | first :: rest => first.blankSignature :: rest ++ [first]

/-! ### Saving -/

/-- SAVE_IMAGE's step: the image of the active bank is formed and its writing begins (R186, R194). -/
def State.saveImage (s : State) : State :=
  { s with
    management := { s.management with engine := .saving, carriedOut := true }
    loader :=
      { s.loader with
        state := .writing, writes := saveWrites (imagePages (wordBytes (imageWords s.tables.active.records))) } }

/-- SAVE_IMAGE (R186). -/
def execSaveImage (s : State) : Host.Outcome State Fault Refusal :=
  .next (s.ready fun s1 => s1.request .saveImage fun _ s2 => s2.saveImage)

/-- The loader stops writing and returns to IDLE. -/
def State.stopWriting (s : State) : State := { s with loader := { s.loader with state := .idle, writes := [] } }

/-- The save ends and its request is answered (R186, R194). -/
def State.endSave (s : State) (result : Result) : State :=
  match s.management.inFlight with
  | some r => s.stopWriting.answer r result []
  | none => s.stopWriting

/-- A page stands in the memory, and the next write begins (R194). -/
def State.storePage (s : State) (x : PageWrite) (rest : List PageWrite) : State :=
  { s with memory := s.memory.writeFrom x.address x.bytes, loader := { s.loader with writes := rest } }

/-- The page being written is acknowledged: it stands in the memory; with the last one the save ends (R194). -/
def State.pageWritten (s : State) : State :=
  match s.loader.writes with
  | [] => s
  | x :: rest => if rest = [] then (s.storePage x rest).endSave .done else s.storePage x rest

/-- SAVE_PAGE_ACK (R194). -/
def execSavePageAck (s : State) : Host.Outcome State Fault Refusal :=
  .next (s.ready fun s1 => if s1.loader.state = .writing then s1.pageWritten else s1)

/-- SAVE_POLL_TIMEOUT: the page being written is not acknowledged, the memory holds the pages acknowledged before (R194). -/
def execSavePollTimeout (s : State) : Host.Outcome State Fault Refusal :=
  .next (s.ready fun s1 => if s1.loader.state = .writing then s1.endSave .writeFailed else s1)

/-! ### Resets -/

/-- DEVICE_RESET's step: the reply is built, and the request stays in flight (R187). -/
def State.deviceReset (s : State) (r : Request) : State :=
  s.buffer { tag := r.tag, result := .done, payload := [], answersReset := true }

/-- DEVICE_RESET (R187). -/
def execDeviceReset (s : State) : Host.Outcome State Fault Refusal :=
  .next (s.ready fun s1 => s1.request .deviceReset fun r s2 => s2.deviceReset r)

/-- MANAGEMENT_RESET (R188): it takes effect where it is due (R187). -/
def execManagementReset (s : State) : Host.Outcome State Fault Refusal := .next (s.ready id)

/-- POWER_ON_RESET (R190): it ends whatever was in progress; the part is held until RESET is released. -/
def execPowerOnReset (s : State) : Host.Outcome State Fault Refusal := .next s.powerOn

/-- RESET is released: the Image Loader leaves IDLE for READING, and the straps give the memory's bus address (R190). -/
def State.release (s : State) (straps : BitVec 2) : State :=
  { s with inReset := false, straps := straps, loader := { s.loader with state := .reading } }

/-- The bus address the loader gives, 0x50 plus the strap value (R190). -/
def State.busAddress (s : State) : Nat := Config.memoryBusAddress + s.straps.toNat

/-- RESET_RELEASE (R190); out of reset it does nothing but what is due (assumptions 3 and 4). -/
def execResetRelease (straps : BitVec 2) (s : State) : Host.Outcome State Fault Refusal :=
  .next (if s.inReset then s.release straps else s.carryDue)

/-! ### Loading -/

/-- A record as the request it stands for (R189, R191). -/
def recordRequest (command : Word) (payload : List Word) : Request :=
  { tag := 0
    code := command.extractLsb' 8 8
    target := command.extractLsb' 0 4
    payload := payload
    malformed := !commandTableAllows (command.extractLsb' 8 8) (command.extractLsb' 0 4) payload }

/-- The records of an image's record words; none where one runs past the last word (R191). At most n records. -/
def recordsOf : Nat → List Word → Option (List Request)
  | _, [] => some []
  | 0, _ => none
  | _, [_] => none
  | n + 1, command :: length :: rest =>
    if length.toNat ≤ rest.length then
      (recordsOf n (rest.drop length.toNat)).map (recordRequest command (rest.take length.toNat) :: ·)
    else none

/-- What a record comes to on a bank, as the Management Engine would carry out the request (R191). -/
def Bank.written (b : Bank) (r : Request) : Written :=
  match r.command with
  | some .writeSetting => b.writeSetting r
  | some .loadEnvelope => b.loadEnvelope r
  | some .loadResponse => b.loadResponse r
  | _ => .refused .malformed

/-- One record applied to a bank; none where the record is unknown (R191). Whether it is does not depend on the bank. -/
def Bank.applyRecord (b : Bank) (r : Request) : Option Bank :=
  match b.written r with
  | .stored bank _ _ => some bank
  | .refused _ => none

/-- Records applied in image order; none where any of them is unknown, and then no record is applied (R191). -/
def Bank.applyRecords (b : Bank) : List Request → Option Bank
  | [] => some b
  | r :: rest =>
    match b.applyRecord r with
    | some c => c.applyRecords rest
    | none => none

/-- The record words of an image whose signature, version, length and CRC are right (R189, R191). -/
def Memory.imageRecords (m : Memory) : Option (List Word) :=
  let n := (m.readWord 2).toNat
  if (m.readWord 0).toNat = Config.imageSignature ∧ (m.readWord 1).toNat = Config.imageVersion
      ∧ n ≤ Config.imageMaxRecordWords then
    if m.readWord (n + 3) = crc16 (m.readWords (n + 3)) then some ((m.readWords (n + 3)).drop 3) else none
  else none

/-- The bank an image makes of the shadow bank, none where the outcome is CORRUPT (R191). -/
def Memory.imageBank (m : Memory) (shadow : Bank) : Option Bank :=
  match m.imageRecords with
  | none => none
  | some words =>
    match recordsOf words.length words with
    | none => none
    | some records => shadow.applyRecords records

/-- The load fails: both banks hold the defaults, IMAGE_FAULT is latched, the loader returns to IDLE and auto-enlist is made
(R191, R193). -/
def State.failLoad (s : State) (outcome : LoadOutcome) : State :=
  State.autoEnlist
    { s with
      tables := { active := Bank.default, shadow := Bank.default }
      flags := s.flags.latch .imageFault
      loader := { s.loader with state := .idle, outcome := some outcome } }

/-- The image passed its validation: the loader enters WAITING; where the commit's condition holds and no cell is being
worked, the commit is due at once (R191, R192). -/
def State.passLoad (s : State) (bank : Bank) : State :=
  { s with
    tables := { s.tables with shadow := bank }
    loader := { s.loader with state := .waiting }
    due := if s.betweenCells && s.monitor.sag.quietState then some .imageCommit else none }

/-- The loader acts on what the memory holds (R191). -/
def State.loadImage (s : State) : State :=
  match s.memory.imageBank s.tables.shadow with
  | none => s.failLoad .corrupt
  | some bank => if bank.valid then s.passLoad bank else s.failLoad .invalid

/-- The read ends as the memory answered (R191). -/
def State.readEnds (s : State) (answer : MemoryAnswer) : State :=
  match answer with
  | .silent => s.failLoad .absent
  | .stored => s.loadImage
  | .replaced bytes => State.loadImage { s with memory := Memory.ofBytes bytes }

/-- IMAGE_READ_COMPLETE (R191). -/
def execImageReadComplete (answer : MemoryAnswer) (s : State) : Host.Outcome State Fault Refusal :=
  .next (s.ready fun s1 => if s1.loader.state = .reading then s1.readEnds answer else s1)

/-- IMAGE_COMMIT (R192): at once where that is due; otherwise at the end of the cell being worked. -/
def execImageCommit (s : State) : Host.Outcome State Fault Refusal := .next (s.ready (State.comesAbout .imageCommit))

end Sys2Proof.Machine
end

