-- ==== Sys2Proof/Machine/LinkSteps.lean ====
section
/-! DEFINITION. The commands of the links: the two timers' expiries and the last words of outbound cells (R13, R14, R20 to
R22, R57, R94, R161, R170, R182, R187). -/
namespace Sys2Proof.Machine

/-- A deferred COMMIT NOW takes effect at a QUIET entry (R182). -/
def State.quietCommit (s : State) : State :=
  match s.management.engine, s.management.inFlight with
  | .deferred, some r => if r.commitsNow then s.takeCommit r else s
  | _, _ => s

/-- The Ingress Port's and the Egress Port's part of a QUIET entry: the link is QUIET, LINK_QUIET is latched, the self-timed
cell timer starts (R13, R22). The timer reads the bank active before a deferred COMMIT NOW takes effect at this entry: R182 orders
that commit after the Sag Monitor and the Feeder Engines only (DESIGN CHOICE, assumption 36). -/
def State.loseLink (s : State) : State :=
  { s with
    ingress := { s.ingress with link := .quiet, quietTimer := none }
    flags := s.flags.latch .linkQuiet
    egress := { s.egress with cellTimer := some s.tables.active.cellPeriod }
    came := [] }

/-- The monitor's part of a QUIET entry (R57). -/
def State.quietMonitor (s : State) : State := { s with monitor := s.monitor.quietEntry }

/-- The feeders' part of a QUIET entry (R94). -/
def State.quietFeeders (s : State) : State := s.moveEnginesRaising (s.engines.map Engine.quietEntry)

/-- QUIET entry (R13, R14): the feeders act (R94), the record closes (R161), the monitor enters ACQUIRING (R57), and a deferred
COMMIT NOW takes effect (R182). The record's class is formed with the JUMP_THRESHOLD of the active bank, as R161 and R162 name no
bank (DESIGN CHOICE, assumption 34). -/
def State.quietEntry (s : State) : State :=
  ((s.loseLink.quietFeeders.closeRecord s.tables.active .linkLost).quietMonitor).quietCommit

/-- The quiet timer is running and the link is UP. -/
def State.quietDue (s : State) : Bool := s.ingress.quietTimer.isSome && decide (s.ingress.link = .up)

/-- QUIET_TIMER_EXPIRY (R13). -/
def execQuietTimerExpiry (s : State) : Host.Outcome State Fault Refusal :=
  .next (s.ready fun s1 => if s1.quietDue then s1.finishWork.quietEntry else s1)

/-- A feeder's slot in a self-timed cell: three words of 0, bypass closed, the modulator disabled (R22). -/
def State.idleSlotWords (s : State) (f : Feeder) : List Word :=
  slotWords ⟨0, 0, 0⟩ (slotControlWord true false (s.engines.get f).state)

/-- A self-timed DRIVE cell (R22). -/
def State.selfTimedDrive (s : State) (sequence : BitVec 8) : List Word :=
  driveCell s.maps.epoch sequence s.statusWord (s.maps.active.flatMap s.idleSlotWords)

/-- The self-timed cell timer restarts (R22). -/
def State.restartTimer (s : State) : State := { s with egress := { s.egress with cellTimer := some s.tables.active.cellPeriod } }

/-- The self-timed cell timer expires: it restarts, and a DRIVE cell becomes ready (R22). -/
def State.selfTimed (s : State) : State :=
  s.restartTimer.readyDrive (s.selfTimedDrive (s.egress.lastSequence + 1)) (s.egress.lastSequence + 1)

/-- SELF_TIMED_CELL (R22). -/
def execSelfTimedCell (s : State) : Host.Outcome State Fault Refusal :=
  .next (s.ready fun s1 => if s1.egress.cellTimer.isSome then s1.selfTimed else s1)

/-- The link is free. -/
def State.freeLink (s : State) : State := { s with egress := { s.egress with onLink := none } }

/-- The last word of a DRIVE cell is sent (R20). -/
def State.driveSent (s : State) : State :=
  match s.egress.onLink with
  | some (.drive _) => s.freeLink.chooseNext
  | some (.reply _) => s
  | none => s

/-- DRIVE_CELL_SENT (R20). -/
def execDriveCellSent (s : State) : Host.Outcome State Fault Refusal := .next (s.ready State.driveSent)

/-- A reply leaves the buffer, and a held reply joins it (R169, R170). -/
def Management.replyLeaves (m : Management) : Management :=
  match m.held with
  | none => { m with replies := m.replies.tail }
  | some h =>
    { m with
      replies := m.replies.tail ++ [h], held := none, engine := if h.answersReset then .executing else .idle }

/-- The oldest reply answers a DEVICE_RESET. -/
def Management.sendsReset (m : Management) : Bool := (m.replies.head?.map Reply.answersReset).getD false

/-- The last word of a reply is sent; with the DONE reply to a DEVICE_RESET the management reset is due (R170, R187). -/
def State.replySent (s : State) : State :=
  match s.egress.onLink with
  | some (.reply _) =>
    if s.management.sendsReset then
      { s.freeLink with management := s.management.replyLeaves, due := some .managementReset }
    else State.chooseNext { s.freeLink with management := s.management.replyLeaves }
  | some (.drive _) => s
  | none => s

/-- REPLY_SENT (R170). -/
def execReplySent (s : State) : Host.Outcome State Fault Refusal := .next (s.ready State.replySent)

end Sys2Proof.Machine
end

