-- ==== Sys2Proof/Machine/Dispatch.lean ====
section
/-! DEFINITION. Which meaning each command has. -/
namespace Sys2Proof.Machine

/-- A command's effect on everything but the queue. -/
def exec (i : Instr) (s : State) : Host.Outcome State Fault Refusal :=
  match i with
  | .cellArrival words upTo => Sys2Proof.Machine.execCellArrival words upTo s
  | .acquireEnd => Sys2Proof.Machine.execAcquireEnd s
  | .confirmation => Sys2Proof.Machine.execConfirmation s
  | .classificationPoint => Sys2Proof.Machine.execClassificationPoint s
  | .eventEnd => Sys2Proof.Machine.execEventEnd s
  | .burstTimerExpiry => Sys2Proof.Machine.execBurstTimerExpiry s
  | .releaseEnd f => Sys2Proof.Machine.execReleaseEnd f s
  | .pathCheckVerdict f => Sys2Proof.Machine.execPathCheckVerdict f s
  | .verifyFailure f => Sys2Proof.Machine.execVerifyFailure f s
  | .mapChangeAbandon => Sys2Proof.Machine.execMapChangeAbandon s
  | .quietTimerExpiry => Sys2Proof.Machine.execQuietTimerExpiry s
  | .selfTimedCell => Sys2Proof.Machine.execSelfTimedCell s
  | .driveCellSent => Sys2Proof.Machine.execDriveCellSent s
  | .replySent => Sys2Proof.Machine.execReplySent s
  | .malformed => Sys2Proof.Machine.execMalformed s
  | .enquire => Sys2Proof.Machine.execEnquire s
  | .readSetting => Sys2Proof.Machine.execReadSetting s
  | .writeSetting => Sys2Proof.Machine.execWriteSetting s
  | .loadEnvelope => Sys2Proof.Machine.execLoadEnvelope s
  | .loadResponse => Sys2Proof.Machine.execLoadResponse s
  | .commitNow => Sys2Proof.Machine.execCommitNow s
  | .commitSync => Sys2Proof.Machine.execCommitSync s
  | .commitTakesEffect => Sys2Proof.Machine.execCommitTakesEffect s
  | .commitExpired => Sys2Proof.Machine.execCommitExpired s
  | .discardShadow => Sys2Proof.Machine.execDiscardShadow s
  | .enlist => Sys2Proof.Machine.execEnlist s
  | .retire => Sys2Proof.Machine.execRetire s
  | .forceBypass => Sys2Proof.Machine.execForceBypass s
  | .clearFlags => Sys2Proof.Machine.execClearFlags s
  | .setReport => Sys2Proof.Machine.execSetReport s
  | .readCounters => Sys2Proof.Machine.execReadCounters s
  | .writeCounter => Sys2Proof.Machine.execWriteCounter s
  | .readEvent => Sys2Proof.Machine.execReadEvent s
  | .releaseEvent => Sys2Proof.Machine.execReleaseEvent s
  | .readLive => Sys2Proof.Machine.execReadLive s
  | .setEcho => Sys2Proof.Machine.execSetEcho s
  | .saveImage => Sys2Proof.Machine.execSaveImage s
  | .savePageAck => Sys2Proof.Machine.execSavePageAck s
  | .savePollTimeout => Sys2Proof.Machine.execSavePollTimeout s
  | .deviceReset => Sys2Proof.Machine.execDeviceReset s
  | .managementReset => Sys2Proof.Machine.execManagementReset s
  | .powerOnReset => Sys2Proof.Machine.execPowerOnReset s
  | .resetRelease straps => Sys2Proof.Machine.execResetRelease straps s
  | .imageReadComplete answer => Sys2Proof.Machine.execImageReadComplete answer s
  | .imageCommit => Sys2Proof.Machine.execImageCommit s

end Sys2Proof.Machine
end

