-- ==== Sys2Proof/Machine/Step.lean ====
section
/-! DEFINITION. One step of the block: the command at the front of the queue, or an idle step. -/
namespace Sys2Proof.Machine

/-- The block idles: no command waits, so the work in progress runs on to its end, and what is due is carried out (R11;
assumption 9). With neither, nothing changes. -/
def State.idle (s : State) : State := s.ready State.finishWork

/-- One step: the command at the front of the queue is taken and carried out with the queue's rest; on an empty queue the
block idles. -/
def step (s : State) : Host.Outcome State Fault Refusal :=
  match s.pending with
  | [] => .next s.idle
  | c :: rest => exec c { s with pending := rest }

/-- The state with the command a word spells put at the front of its queue (assumption 1: no row of the table has bits, so no
word spells one). -/
def State.withFetchWord (s : State) (nbits w : Nat) : State :=
  match decodeTableWord nbits w with
  | some c => { s with pending := c :: s.pending }
  | none => s

end Sys2Proof.Machine
end

