-- ==== Sys2Proof/Safety.lean ====
section
/-! DEFINITION. What claims about the machine speak of: what a request being answered means, when a command may act, and the
invariants that every step keeps. -/
namespace Sys2Proof.Machine

/-! ### Commands -/

/-- The part is out of reset and no step of its own is due, so a command acts on the state as it stands. -/
def State.acts (s : State) : Prop := s.inReset = false ∧ s.due = none

/-- The Management Engine's next request is r, and it is the command named (R169, R171). -/
def State.requests (s : State) (c : Command) (r : Request) : Prop := s.nextRequest = some r ∧ r.command = some c

/-- The reply a request gets (R171). -/
def Request.reply (r : Request) (result : Result) (payload : List Word) : Reply :=
  { tag := r.tag, result := result, payload := payload, answersReset := false }

/-- What the Egress Port sends next when the link is free (R20, R21). -/
def nextSent (waiting : Option (List Word)) (replies : List Reply) (epoch : BitVec 4) (attention : BitVec 8) :
    Option Sending :=
  match waiting, replies with
  | some d, _ => some (.drive d)
  | none, r :: _ => some (.reply (replyCell epoch attention r))
  | none, [] => none

/-- The Egress Port after a reply built in s has joined the buffer: where the link was free it begins what goes next, a waiting
DRIVE cell before the oldest reply; where it was not, or the reply is held, it stands (R20, R21, R170). -/
def State.egressAfter (s : State) (x : Reply) : Egress :=
  if s.egress.onLink = none ∧ s.management.replies.length < 2 then
    { s.egress with
      waiting := none
      onLink := nextSent s.egress.waiting (s.management.replies ++ [x]) s.maps.epoch s.flags.attention }
  else s.egress

/-- The request r is answered between s and t, and nothing but its answering happens: the queue loses its head where the engine
was IDLE (R15, R169); the reply joins the buffer's tail and the engine is IDLE, or, where the buffer holds two, the reply is held
in WAIT_REPLY (R169, R170); and a free link begins what goes next (R20). Every other piece of state is as in s. -/
def answered (s t : State) (r : Request) (result : Result) (payload : List Word) : Prop :=
  t = { s with
        ingress := { s.ingress with queue := if s.management.engine = .idle then s.ingress.queue.tail else s.ingress.queue }
        management :=
          { s.management with
            engine := if s.management.replies.length < 2 then .idle else .waitReply
            inFlight := none
            held := if s.management.replies.length < 2 then s.management.held else some (r.reply result payload)
            replies :=
              if s.management.replies.length < 2 then s.management.replies ++ [r.reply result payload]
              else s.management.replies
            carriedOut := false
            echoWaits := none }
        egress := s.egressAfter (r.reply result payload) }

/-! ### Arriving cells -/

/-- The cell passes the length bounds and the CRC check (R5). -/
def soundCell (words : List Word) : Prop :=
  3 ≤ words.length ∧ words.length ≤ 52 ∧ words.getLast? = some (crc16 words.dropLast)

/-- A cell is dropped: one counter advances by 1, saturating at 65,535, and one flag is latched (R5, R7, R17, R150). -/
def State.dropped (s : State) (k : LinkCounter) (flag : Nat) : State :=
  { s with
    ingress := { s.ingress with counters := s.ingress.counters.set k (min 65535 (s.ingress.counters.get k + 1)) }
    flags := { s.flags with latched := s.flags.latched ||| (1#32 <<< flag) } }

/-- A sound SENSE cell whose epoch names a map and whose length is that map's: the active map, or, where `switches`, the
pending one (R6, R7). -/
def State.senseFits (s : State) (words : List Word) (switches : Bool) : Prop :=
  soundCell words ∧ headerKind (wordAt words 0) = 1 ∧
    ((switches = false ∧ headerEpoch (wordAt words 0) = s.maps.epoch ∧ words.length = 7 + 6 * s.maps.active.length)
      ∨ (switches = true ∧ headerEpoch (wordAt words 0) ≠ s.maps.epoch
          ∧ ∃ p, s.maps.pending = some p ∧ headerEpoch (wordAt words 0) = p.epoch
              ∧ words.length = 7 + 6 * p.feeders.length))

/-- The gap of R8: the cell's sequence number minus the expected one, modulo 256. -/
def State.gap (s : State) (c : Sense) : Nat := (c.sequence - s.ingress.expected).toNat

/-- The sixth check accepts the cell, with so many missing cells before it, as a sequence break or not (R8). -/
def State.admits (s : State) (c : Sense) (missing : Nat) (breaks : Bool) : Prop :=
  (s.ingress.link ≠ .up ∧ missing = 0 ∧ breaks = false)
    ∨ (s.ingress.link = .up ∧ missing = s.gap c ∧ missing ≤ 15 ∧ breaks = false)
    ∨ (s.ingress.link = .up ∧ missing = 0 ∧ 16 ≤ s.gap c ∧ s.gap c ≤ 254 ∧ breaks = true)

/-! ### The work of a cell -/

/-- The work under way stands before the accepted cell's first stage, every missing cell before it worked. -/
def State.beginsCell (s : State) (w : Work) : Prop := s.acts ∧ s.work = some w ∧ w.stage = .accepted ∧ w.missing = 0

/-- The work under way stands at a stage. -/
def State.standsIn (s : State) (w : Work) (stage : Stage) : Prop := s.acts ∧ s.work = some w ∧ w.stage = stage

/-- The epoch switch to the pending map p, between u and t, and nothing else: the pending map and epoch are the active ones and
no change is pending (R131); ENLISTING feeders are CHECKING at their check's first cell; RETIRING feeders are OFFLINE with no
prior state, with the not-ready mark in an open event (R96); FEEDER_CHANGE is raised for both (R156); the work's switch is made. -/
def epochSwitched (u t : State) (p : PendingMap) : Prop :=
  t = { u with
        engines := t.engines
        flags := { u.flags with latched := t.flags.latched, changed := t.flags.changed }
        maps := { epoch := p.epoch, active := p.feeders, pending := none, age := 0, checks := t.maps.checks }
        work := u.work.map fun w => { w with switches := false } }
    ∧ (∀ f, (u.engines.get f).state = .enlisting →
        t.engines.get f = { u.engines.get f with state := .checking, gain := 0 }
        ∧ t.maps.checks.get f = ⟨0, ⟨0, 0, 0⟩⟩)
    ∧ (∀ f, (u.engines.get f).state = .retiring →
        t.engines.get f = { u.engines.get f with
          state := .offline, gain := 0, prior := none,
          marks := { (u.engines.get f).marks with
            notReady := (u.engines.get f).marks.notReady || u.recorder.openRecord.isSome } })
    ∧ (∀ f, (u.engines.get f).state ≠ .enlisting → (u.engines.get f).state ≠ .retiring →
        t.engines.get f = u.engines.get f)
    ∧ (∀ f, (u.engines.get f).state ≠ .enlisting → t.maps.checks.get f = u.maps.checks.get f)
    ∧ (∀ f, t.flags.changed.get f = (u.flags.changed.get f
        || decide ((u.engines.get f).state = .enlisting ∨ (u.engines.get f).state = .retiring)))
    ∧ ∀ i, i < 32 → t.flags.latched.getLsbD i = (u.flags.latched.getLsbD i
        || (decide (i = 10) && Feeder.all.any fun f =>
          decide ((u.engines.get f).state = .enlisting ∨ (u.engines.get f).state = .retiring)))

/-- The retained voltages after a window update from before to after (R43): for a phase whose window holds n samples, the root of
floor(S_p / n), rounded down, is taken per mille of floor(NOMINAL_PEAK x 46341 / 65536), at most 2000; a phase whose window holds
none keeps its value; min retained is the least of the three. -/
def measuredFrom (b : Bank) (before after : Monitor) : Prop :=
  (∀ p, after.windows.get p = [] → after.retained.get p = before.retained.get p)
    ∧ (∀ p n root, after.windows.get p ≠ [] → (after.windows.get p).length = n →
        root * root ≤ after.sums.get p / n → after.sums.get p / n < (root + 1) * (root + 1) →
        after.retained.get p = min 2000 (1000 * root / (b.nominalPeak * 46341 / 65536)))
    ∧ after.minRetained = min after.retained.a (min after.retained.b after.retained.c)

/-- The worst values after a cell whose figures join them: the lower retained voltages, the larger jump, and unbalance where the
cell shows it (R51). -/
def worsenedBy (b : Bank) (before : Worst) (m : Monitor) (jump : Int) : Worst :=
  { lowest := ⟨min before.lowest.a m.retained.a, min before.lowest.b m.retained.b, min before.lowest.c m.retained.c⟩
    lowestMin := min before.lowestMin m.minRetained
    jumpMax := max before.jumpMax jump.natAbs
    unbalance := before.unbalance
      || decide (b.unbalanceThreshold ≤ max m.retained.a (max m.retained.b m.retained.c) - m.minRetained) }

/-- The newest entries of a list, at most n (R118). -/
def keepNewest (n : Nat) (readings : List Nat) : List Nat := readings.drop (readings.length - n)

/-! ### Banks -/

/-- The feeder items of a bank lie in the ranges of the settings catalogue (R176, R61, R64). -/
def FeederBank.inCatalogue (fb : FeederBank) : Prop :=
  (∀ i, i.low ≤ fb.read i ∧ fb.read i ≤ i.high)
    ∧ (fb.provisionalMode = .full ∨ fb.provisionalMode = .inPhase ∨ fb.provisionalMode = .none)
    ∧ 1 ≤ fb.envelope.length ∧ fb.envelope.length ≤ 8
    ∧ (∀ x ∈ fb.envelope, x.duration ≤ 65535 ∧ x.floor ≤ 1000)
    ∧ fb.response.length = 16 ∧ (∀ m ∈ fb.response, m ≠ .none)

/-- Every item of a bank lies in its range (R176). -/
def Bank.inCatalogue (b : Bank) : Prop :=
  (∀ d, d.low ≤ b.read d ∧ b.read d ≤ d.high)
    ∧ (b.housekeepingAverage = 1 ∨ b.housekeepingAverage = 2 ∨ b.housekeepingAverage = 4 ∨ b.housekeepingAverage = 8)
    ∧ ∀ f, (b.feeder f).inCatalogue

/-- The memory after page writes, each acknowledged (R194). -/
def writePages (m : Memory) (writes : List PageWrite) : Memory :=
  writes.foldl (fun m x => m.writeFrom x.address x.bytes) m

/-- The page writes of a save of a bank (R194). -/
def Bank.saveWrites (b : Bank) : List PageWrite := Machine.saveWrites (imagePages (wordBytes (imageWords b.records)))

/-- A record of an image, its command word and its payload, is known: its request is one of the three, with a target and a
length that R16 allows and contents that pass R171's checks (R191). -/
def recordKnown (command : Word) (payload : List Word) : Prop :=
  commandTableAllows (command.extractLsb' 8 8) (command.extractLsb' 0 4) payload = true
    ∧ ((command.extractLsb' 8 8 = 3
          ∧ (((payload.getD 0 0).toNat ∈ List.range' 1 25 ∧ command.extractLsb' 0 4 = 15)
            ∨ ((payload.getD 0 0).toNat ∈ List.range' 32 14 ∧ (command.extractLsb' 0 4).toNat ≤ 3)))
      ∨ command.extractLsb' 8 8 = 4
      ∨ (command.extractLsb' 8 8 = 5
          ∧ ∀ i, i < payload.length → (payload.getD i 0).toNat ≤ if i % 2 = 0 then 15 else 3))

/-! ### Invariants -/

/-- R88: g is at most 4096, and it is 0 outside INJECTING and RELEASING. -/
def gainsSound (s : State) : Prop :=
  ∀ f, (s.engines.get f).gain ≤ 4096 ∧ ((s.engines.get f).state.driving = false → (s.engines.get f).gain = 0)

/-- R42: each S_p is exactly the sum of the squares of its window's samples. -/
def windowSumsExact (s : State) : Prop := ∀ p, s.monitor.sums.get p = squares (s.monitor.windows.get p)

/-- R175: the active bank passes validation. What keeps it so: a bank about to be made active passes too. -/
def banksSound (s : State) : Prop :=
  s.tables.active.valid = true
    ∧ ((s.management.engine = .deferred ∨ s.loader.state = .waiting ∨ s.due = some .imageCommit) →
        s.tables.shadow.valid = true)

/-- A request that passed the command table has a target and a length that R16 allows. -/
def Request.tabled (r : Request) : Prop := r.malformed = false → commandTableAllows r.code r.target r.payload = true

/-- R176: every item of both banks lies in its range, and so do their envelopes and Response Tables (R61, R64). What keeps it so:
every request queued or in flight passed the command table or is tagged MALFORMED (R16), so no write stores a table out of shape. -/
def tablesInCatalogue (s : State) : Prop :=
  s.tables.active.inCatalogue ∧ s.tables.shadow.inCatalogue
    ∧ (∀ r ∈ s.ingress.queue, r.tabled) ∧ ∀ r, s.management.inFlight = some r → r.tabled

/-- R37: A_ref lies within the active bank's band. What keeps it so: a cell being worked reads the active bank unless a commit
took effect after its acceptance, and until a load has ended the active bank is the default bank and no commit is deferred
(R190, R191, R193). -/
def amplitudeInBand (s : State) : Prop :=
  s.tables.active.amplitudeLow ≤ s.tracker.amplitudeRef ∧ s.tracker.amplitudeRef ≤ s.tables.active.amplitudeHigh
    ∧ (∀ w, s.work = some w → w.commitDuring = false → w.bank = s.tables.active)
    ∧ (s.inReset = true ∨ s.loader.state.loading = true →
        s.tables.active = Bank.default ∧ s.management.engine ≠ .deferred)

/-- R125, R126: the active map holds exactly the feeders whose states hold a slot, in ascending order; while a change is pending
the pending map holds exactly those its states place in it; with none pending no feeder is ENLISTING or RETIRING; a RETIRING
feeder's prior state is STANDBY, SHED or LOCKOUT (R128). Until the Image Loader has finished, every feeder is OFFLINE and no
change is pending (R192, R193). -/
def mapsSound (s : State) : Prop :=
  s.maps.active = Feeder.all.filter (fun f => (s.engines.get f).state.holdsSlot)
    ∧ (∀ p, s.maps.pending = some p →
        p.feeders = Feeder.all.filter (fun f => (s.engines.get f).state.inPendingMap))
    ∧ (s.maps.pending = none → ∀ f, (s.engines.get f).state ≠ .enlisting ∧ (s.engines.get f).state ≠ .retiring)
    ∧ (∀ f, (s.engines.get f).state = .retiring →
        (s.engines.get f).prior = some .standby ∨ (s.engines.get f).prior = some .shed
          ∨ (s.engines.get f).prior = some .lockout)
    ∧ (s.inReset = true ∨ s.loader.state.loading = true ∨ s.due = some .imageCommit →
        s.maps.pending = none ∧ ∀ f, (s.engines.get f).state = .offline)

/-- R15, R170, R163: what the queues hold at most; R17: what the counters hold at most. -/
def queuesBounded (s : State) : Prop :=
  s.ingress.queue.length ≤ 8 ∧ s.management.replies.length ≤ 2 ∧ s.recorder.queue.length ≤ 16
    ∧ ∀ k, s.ingress.counters.get k ≤ 65535

/-- R150: index 31 names no flag, so it is never latched and never reported. -/
def flagsSound (s : State) : Prop := s.flags.latched.getLsbD 31 = false ∧ s.flags.reported.getLsbD 31 = false

/-- The serial memory is in its canonical form. -/
def memoryCanonical (s : State) : Prop := s.memory.wf = true

/-- R158: between cells a record is open exactly while the sag state is SAG or RECOVERING. While a cell is being worked, from
the monitor's work to the close, the cell that ends the event still has its record open (R160). -/
def recordSound (s : State) : Prop :=
  match s.work with
  | none => s.recorder.openRecord.isSome = s.monitor.sag.inEvent
  | some w =>
    if w.stage = .accepted then s.recorder.openRecord.isSome = s.monitor.sag.inEvent
    else
      s.recorder.openRecord.isSome = (s.monitor.sag.inEvent || w.marks.eventEnd)
        ∧ (w.marks.eventEnd = true → s.monitor.sag.inEvent = false)

end Sys2Proof.Machine
end

