-- ==== Sys2Proof/Certificates/Slice0/Obligations.lean ====
section
/-! DEFINITION. The statements about this model, each named for what it says. They speak of the machine alone: no program is
assumed. -/
open Sys2Proof Sys2Proof.Machine

/-- For every state whose queue of waiting commands is c followed by rest, one step is exec of c on the state whose
queue is rest. On an empty queue, with no cell being worked and nothing due, a step answers the state unchanged (the
model's choice for idling, log entry 9). (00_scope.md, How the blocks work together, R11 (log entry 9).) -/
def Obligations.StepTakesTheFrontCommand : Prop :=
  (∀ (s : State) (c : Instr) (rest : List Instr),
      s.pending = c :: rest → step s = exec c { s with pending := rest })
    ∧ ∀ s : State, s.pending = [] → s.work = none → s.due = none → step s = .next s

/-- For every command and every state, exec answers a next state whose queue of waiting commands is the one it was
given. That no command stops the part is the model's reading (log entry 26); a command that cannot fall on the part as
it stands answers with nothing changed by it, the model's choice (log entries 2, 3 and 4). (00_scope.md, Block
overview (log entries 2, 3, 4 and 26), R171 (log entry 3).) -/
def Obligations.EveryCommandAnswersAndKeepsTheQueue : Prop :=
  ∀ (c : Instr) (s : State), ∃ t, exec c s = .next t ∧ t.pending = s.pending

/-- From every state POWER_ON_RESET answers the state with the power-on values the rules give, the effective shed and
rearm levels aside (log entry 6): link DOWN, counters 0, queue empty, tracker angles and offsets 0 with A_ref 23,170,
monitor ACQUIRING with empty windows, E 0 with nothing HOT, every feeder OFFLINE with g 0, modes NONE, references 0
and clear marks, epoch 0 with an empty map, no change pending and check records at cell 0, verifier histories and
counters empty with the pointer at F0A and no overcurrent condition, every flag unlatched and reported, no record and
next event number 1, both banks the defaults, engine IDLE, echo off and last sequence 255, loader IDLE, held in reset
with nothing due. The serial memory, the strap levels and the waiting commands lie outside the part and stand (the
model's choice, log entry 7). (R190 and R186 (log entry 7), R188, R59, R98 and R113, R126, R148 and R149, R157, R168,
R169, R123 (log entry 6), R40, R22.) -/
def Obligations.PowerOnResetGivesPowerOnValues : Prop :=
  ∀ s : State, ∃ t, exec .powerOnReset s = .next t
    ∧ t.ingress = { link := .down, expected := 0, cellTime := 0, quietTimer := none,
                    counters := ⟨0, 0, 0, 0, 0, 0, 0, 0⟩, queue := [] }
    ∧ t.tracker = { live := 0, offset := 0, hold := 0, holdOffset := 0, amplitudeRef := 23170, amplitude := 0,
                    quadrature := 0, lock := false, jump := 0 }
    ∧ t.monitor = { sag := .acquiring, acquireCount := 0, deviationCount := 0, windows := ⟨[], [], []⟩,
                    sums := ⟨0, 0, 0⟩, retained := ⟨0, 0, 0⟩, minRetained := 0, elapsed := 0, recoveryCount := 0,
                    worst := { lowest := ⟨2000, 2000, 2000⟩, lowestMin := 2000, jumpMax := 0, unbalance := false },
                    classified := false, published := none, burstTimer := 0, lastBurst := 0 }
    ∧ t.store.energy = 0 ∧ t.store.storeReadings = [] ∧ t.store.storeMean = none ∧ t.store.storeHot = false
    ∧ (∀ f, t.store.sinkReadings.get f = [] ∧ t.store.sinkMeans.get f = none ∧ t.store.sinkHot.get f = false)
    ∧ (∀ f, (t.engines.get f).state = .offline ∧ (t.engines.get f).gain = 0 ∧ (t.engines.get f).mode = .none
        ∧ (t.engines.get f).drive = .none ∧ (t.engines.get f).references = ⟨0, 0, 0⟩
        ∧ (t.engines.get f).cause = none ∧ (t.engines.get f).prior = none
        ∧ (t.engines.get f).marks = ⟨false, false, false, false, false, false, false⟩
        ∧ (t.engines.get f).peak = 0 ∧ (t.engines.get f).limitedCount = 0 ∧ (t.engines.get f).energyDraw = 0)
    ∧ t.maps.epoch = 0 ∧ t.maps.active = [] ∧ t.maps.pending = none ∧ t.maps.age = 0
    ∧ (∀ f, t.maps.checks.get f = ⟨0, ⟨0, 0, 0⟩⟩)
    ∧ (∀ f p, (t.verifier.histories.get f).get p = [] ∧ (t.verifier.mismatches.get f).get p = 0)
    ∧ (∀ f, t.verifier.overcurrent.get f = false) ∧ t.verifier.pointer = ⟨.f0, .a⟩
    ∧ t.flags = { latched := 0, reported := 0x7FFFFFFF, changed := ⟨false, false, false, false⟩ }
    ∧ t.recorder = { openRecord := none, queue := [], nextNumber := 1 }
    ∧ t.tables = { active := Bank.default, shadow := Bank.default }
    ∧ t.management.engine = .idle ∧ t.management.inFlight = none ∧ t.management.held = none
    ∧ t.management.replies = [] ∧ t.management.deferralAge = 0
    ∧ t.egress = { waiting := none, onLink := none, cellTimer := some 7812, lastSequence := 255, echo := false }
    ∧ t.loader.state = .idle ∧ t.work = none ∧ t.inReset = true ∧ t.due = none
    ∧ t.memory = s.memory ∧ t.straps = s.straps ∧ t.pending = s.pending

/-- In a state held in reset, RESET_RELEASE with strap levels x ends the reset, keeps x as the straps, takes the Image
Loader to READING and changes nothing else, and the bus address is 0x50 plus x. Out of reset it changes nothing (the
model's choice, log entry 3), but that what is due comes first, as before any command (log entry 4). While the part is
held in reset every other command but POWER_ON_RESET changes nothing (the model's reading, log entry 5). (R190 (log
entries 3, 4 and 5), 12_start_up_and_configuration_image.md, 12.4 Pins (log entry 5).) -/
def Obligations.ResetReleaseStartsTheImageRead : Prop :=
  (∀ (s : State) (x : BitVec 2), s.inReset = true →
      exec (.resetRelease x) s
        = .next { s with inReset := false, straps := x, loader := { s.loader with state := .reading } })
    ∧ (∀ (s : State) (x : BitVec 2), s.inReset = false →
        (s.due = none → exec (.resetRelease x) s = .next s)
        ∧ (s.due = some .managementReset → exec (.resetRelease x) s = exec .managementReset s)
        ∧ (s.due = some .imageCommit → s.work = none → exec (.resetRelease x) s = exec .imageCommit s))
    ∧ (∀ (s t : State) (x : BitVec 2), s.inReset = true → exec (.resetRelease x) s = .next t →
        t.busAddress = 0x50 + x.toNat)
    ∧ ∀ (c : Instr) (s : State), s.inReset = true → c ≠ .powerOnReset → (∀ x, c ≠ .resetRelease x) →
        exec c s = .next s

/-- For every sequence of words and every state that acts with no cell being worked: fewer than 3 or more than 52
words is a shape error, whatever the check word; otherwise a wrong check word is a CRC error; otherwise a kind other
than 1 and 2 is a shape error. A shape error adds 1 to the shape-error counter, saturating, and latches SHAPE_SEEN; a
CRC error does so with its counter and CRC_SEEN; nothing else changes. (R5.) -/
def Obligations.FirstThreeChecksDropACell : Prop :=
  ∀ (s : State) (words : List Word) (upTo : WorkPoint), s.acts → s.work = none →
    (words.length < 3 ∨ 52 < words.length →
        exec (.cellArrival words upTo) s = .next (s.dropped .shapeErrors 2))
    ∧ (3 ≤ words.length → words.length ≤ 52 → words.getLast? ≠ some (crc16 words.dropLast) →
        exec (.cellArrival words upTo) s = .next (s.dropped .crcErrors 1))
    ∧ (soundCell words → headerKind (wordAt words 0) ≠ 1 → headerKind (wordAt words 0) ≠ 2 →
        exec (.cellArrival words upTo) s = .next (s.dropped .shapeErrors 2))

/-- For every sound cell and every state that acts with no cell being worked: a MANAGE cell whose length is not 4 plus
its length word, and a SENSE cell whose epoch names the active or the pending map but whose length is not 7 + 6n for
that map's n slots, are shape errors; a SENSE cell whose epoch names neither map is an epoch error (counter and
EPOCH_SEEN), whatever its length; a SENSE cell that fits its map and arrives in UP with gap 255 adds 1 to the
duplicate counter and changes nothing else. (R6, R7, R8.) -/
def Obligations.LaterChecksDropACell : Prop :=
  ∀ (s : State) (words : List Word) (upTo : WorkPoint), s.acts → s.work = none → soundCell words →
    (headerKind (wordAt words 0) = 2 → words.length ≠ 4 + (wordAt words 2).toNat →
        exec (.cellArrival words upTo) s = .next (s.dropped .shapeErrors 2))
    ∧ (headerKind (wordAt words 0) = 1 → headerEpoch (wordAt words 0) = s.maps.epoch →
        words.length ≠ 7 + 6 * s.maps.active.length →
        exec (.cellArrival words upTo) s = .next (s.dropped .shapeErrors 2))
    ∧ (∀ p, headerKind (wordAt words 0) = 1 → headerEpoch (wordAt words 0) ≠ s.maps.epoch →
        s.maps.pending = some p → headerEpoch (wordAt words 0) = p.epoch →
        words.length ≠ 7 + 6 * p.feeders.length →
        exec (.cellArrival words upTo) s = .next (s.dropped .shapeErrors 2))
    ∧ (headerKind (wordAt words 0) = 1 → headerEpoch (wordAt words 0) ≠ s.maps.epoch →
        (∀ p, s.maps.pending = some p → headerEpoch (wordAt words 0) ≠ p.epoch) →
        exec (.cellArrival words upTo) s = .next (s.dropped .epochErrors 3))
    ∧ (∀ switches, s.senseFits words switches → s.ingress.link = .up → s.gap (senseOf words) = 255 →
        exec (.cellArrival words upTo) s
          = .next { s with ingress := { s.ingress with counters :=
              { s.ingress.counters with duplicates := min 65535 (s.ingress.counters.duplicates + 1) } } })

/-- For every state that acts with no cell being worked and every SENSE cell that the sixth check accepts with m
missing cells, or as a break: CELL_ARRIVAL up to the point gap 15 (the model's operand for the acceptance, log entry
2) takes the link UP, expects the next number, restarts the quiet timer, advances the counters and the pending age,
latches SEQ_BREAK at a break, stops the cell timer, empties the histories and restarts the running checks at a break
or link return, and begins the work with the bank active now; with no missing cell an epoch switch is made as well;
nothing else changes. Up to gap k it has worked m - k missing cells besides. Each missing cell, where no commit, image
or SET_ECHO waits, advances the cell time by 1 (as it is worked: the model's reading, log entry 41), turns the live
phase by NOMINAL_STEP + F with no correction, lets the hold follow or coast, repeats each window's last sample, S_p
staying the sum of its window's squares and the retained voltages taken from the windows, advances elapsed in an event
and counts the burst timer down, enters no command in each history and restarts the running checks; no DRIVE cell
comes of it and nothing else changes, but that after the last one the switch is made. The switch makes the pending map
and epoch the active ones with no change pending and age 0, ENLISTING feeders CHECKING at cell 0 and RETIRING feeders
OFFLINE with no prior state (not-ready in an open event), and raises FEEDER_CHANGE for them. (R8 and R9, R10, R11 (log
entry 2), R12 (log entry 41), R13 and R14, R18 and R22, R32, R34 and R35, R42, R43, R50 and R56, R131, R7 and R96,
R132, R138 and R143, R156.) -/
def Obligations.AcceptanceAndTheGapComeBeforeTheCellsWork : Prop :=
  (∀ (s : State) (words : List Word) (missing : Nat) (breaks switches : Bool), s.acts → s.work = none →
      s.senseFits words switches → s.admits (senseOf words) missing breaks →
      ∃ t u w, exec (.cellArrival words (.gap 15)) s = .next t
        ∧ u = { s with
            ingress := { link := .up, expected := (senseOf words).sequence + 1, cellTime := s.ingress.cellTime,
                         quietTimer := some (4 * s.tables.active.cellPeriod), counters := u.ingress.counters,
                         queue := s.ingress.queue }
            flags := { s.flags with latched := s.flags.latched ||| (if breaks then 16#32 else 0#32) }
            maps := { s.maps with
              age := if s.maps.pending.isSome ∧ switches = false then s.maps.age + 1 else s.maps.age
              checks := PerFeeder.build fun f =>
                if (breaks = true ∨ s.ingress.link ≠ .up) ∧ (s.engines.get f).state = .checking then ⟨0, ⟨0, 0, 0⟩⟩
                else s.maps.checks.get f }
            verifier := { s.verifier with histories :=
              if breaks = true ∨ s.ingress.link ≠ .up then PerFeeder.fill ⟨[], [], []⟩ else s.verifier.histories }
            egress := { s.egress with cellTimer := none }
            work := some w
            came := [] }
        ∧ (∀ k, u.ingress.counters.get k
            = match k with
              | .missingCells => min 65535 (s.ingress.counters.missingCells + missing)
              | .sequenceBreaks =>
                if breaks then min 65535 (s.ingress.counters.sequenceBreaks + 1) else s.ingress.counters.sequenceBreaks
              | .housekeepingErrors =>
                if housekeepingReading (senseOf words).housekeeping = none then
                  min 65535 (s.ingress.counters.housekeepingErrors + 1)
                else s.ingress.counters.housekeepingErrors
              | k => s.ingress.counters.get k)
        ∧ w.sense = senseOf words ∧ w.bank = s.tables.active ∧ w.missing = missing ∧ w.stage = .accepted
        ∧ w.linkReturn = decide (s.ingress.link ≠ .up) ∧ w.switches = switches ∧ w.commitDuring = false
        ∧ w.syncBarred = false
        ∧ (switches = true → missing = 0 → ∀ p, s.maps.pending = some p → epochSwitched u t p)
        ∧ (switches = false ∨ missing ≠ 0 → t = u)
        ∧ ∀ k, k ≤ missing → exec (.cellArrival words (.gap k)) s = .next (State.advance^[missing - k] t))
    ∧ ∀ (s : State) (w : Work) (m : Nat), s.work = some w → w.stage = .accepted → w.missing = m + 1 →
      w.commitDuring = false → s.management.engine ≠ .deferred → s.management.echoWaits = none →
      s.loader.state ≠ .waiting →
      ∃ u, u = { s with
            ingress := { s.ingress with cellTime := s.ingress.cellTime + 1 }
            tracker :=
              { s.tracker with
                live := s.tracker.live + BitVec.ofInt 32 (w.bank.nominalStep + s.tracker.offset)
                hold := u.tracker.hold
                holdOffset := u.tracker.holdOffset }
            monitor :=
              { s.monitor with
                windows := u.monitor.windows
                sums := u.monitor.sums
                retained := u.monitor.retained
                minRetained := u.monitor.minRetained
                elapsed := if s.monitor.sag = .sag ∨ s.monitor.sag = .recovering then min 65535 (s.monitor.elapsed + 1)
                  else s.monitor.elapsed
                burstTimer := s.monitor.burstTimer - 1 }
            verifier := { s.verifier with histories := u.verifier.histories }
            maps := { s.maps with checks := u.maps.checks }
            work := some { w with missing := m }
            came := if s.monitor.burstTimer = 1 then s.came ++ [.burstTimerExpiry] else s.came }
        ∧ ((s.monitor.sag = .acquiring ∨ s.monitor.sag = .normal) →
            (∀ f, (s.engines.get f).state ≠ .injecting ∧ (s.engines.get f).state ≠ .releasing) →
            u.tracker.hold = u.tracker.live ∧ u.tracker.holdOffset = s.tracker.offset)
        ∧ (((s.monitor.sag ≠ .acquiring ∧ s.monitor.sag ≠ .normal)
            ∨ ∃ f, (s.engines.get f).state = .injecting ∨ (s.engines.get f).state = .releasing) →
            u.tracker.hold = s.tracker.hold + BitVec.ofInt 32 (w.bank.nominalStep + s.tracker.holdOffset)
            ∧ u.tracker.holdOffset = s.tracker.holdOffset)
        ∧ (∀ p, s.monitor.windows.get p = [] → u.monitor.windows.get p = [])
        ∧ (∀ p x, (s.monitor.windows.get p).getLast? = some x → u.monitor.windows.get p
            = (s.monitor.windows.get p ++ [x]).drop ((s.monitor.windows.get p).length + 1 - w.bank.halfWindow))
        ∧ (∀ p, s.monitor.sums.get p = squares (s.monitor.windows.get p) →
            u.monitor.sums.get p = squares (u.monitor.windows.get p))
        ∧ measuredFrom w.bank s.monitor u.monitor
        ∧ (∀ f p, (u.verifier.histories.get f).get p
            = ((s.verifier.histories.get f).get p ++ [none]).drop
                (((s.verifier.histories.get f).get p).length + 1 - 8))
        ∧ (∀ f, u.maps.checks.get f
            = if (s.engines.get f).state = .checking then ⟨0, ⟨0, 0, 0⟩⟩ else s.maps.checks.get f)
        ∧ (w.switches = true → m = 0 → ∀ p, s.maps.pending = some p → epochSwitched u s.advance p)
        ∧ (w.switches = false ∨ m ≠ 0 → s.advance = u)

/-- For every state that acts with no cell being worked and every accepted SENSE cell with m missing cells before it,
CELL_ARRIVAL carried to the end of its work leaves no cell being worked and the cell-time count advanced by m + 1; its
DRIVE cell is the last assembled. Where the egress link is busy, that DRIVE cell waits in place of any earlier one, of
3 + 4n words for the n slots of the active map. Where the maps are sound, no image waits and no SET_ECHO waits, its
words are: the header of kind 9 with the active epoch and the SENSE cell's number; the device status word of the sag
state, the link UP, the echo setting and the attention code then standing; for each slot in order, outside echo mode,
the feeder's references and a control word of its bypass (open in INJECTING and RELEASING), its modulator (enabled
there and in CHECKING with the sag state ACQUIRING or NORMAL) and its state code, and in echo mode the slot's load
voltages with bypass closed and the modulator disabled; the check word. Where the link is free and no commit is
deferred, that cell is the one being sent and none waits. (R9, R11, R12, R19, R20, R4, R23, R24, R79, R2.) -/
def Obligations.AcceptedSenseCellIsWorkedToItsEnd : Prop :=
  ∀ (s : State) (words : List Word) (missing : Nat) (breaks switches : Bool), s.acts → s.work = none →
    s.senseFits words switches → s.admits (senseOf words) missing breaks →
    ∃ t, exec (.cellArrival words .ended) s = .next t ∧ t.work = none
      ∧ t.ingress.link = .up ∧ t.ingress.expected = (senseOf words).sequence + 1
      ∧ t.ingress.cellTime = s.ingress.cellTime + BitVec.ofNat 32 (missing + 1)
      ∧ t.egress.lastSequence = (senseOf words).sequence
      ∧ (s.egress.onLink ≠ none → t.egress.onLink = s.egress.onLink
          ∧ ∃ d, t.egress.waiting = some d ∧ headerKind (wordAt d 0) = 9 ∧ headerEpoch (wordAt d 0) = t.maps.epoch
              ∧ headerTag (wordAt d 0) = (senseOf words).sequence ∧ d.length = 3 + 4 * t.maps.active.length)
      ∧ (mapsSound s → s.loader.state ≠ .waiting → s.management.echoWaits = none →
          ∃ d, d = withCrc (headerWord 9 t.maps.epoch (senseOf words).sequence
              :: deviceStatusWord t.monitor.sag .up t.egress.echo t.flags.attention
              :: t.maps.active.flatMap fun f =>
                if t.egress.echo then
                  [BitVec.ofInt 16 (slotOf t.maps.active (senseOf words).slots f).load.a,
                   BitVec.ofInt 16 (slotOf t.maps.active (senseOf words).slots f).load.b,
                   BitVec.ofInt 16 (slotOf t.maps.active (senseOf words).slots f).load.c,
                   BitVec.ofNat 16 (32768 + (t.engines.get f).state.code)]
                else
                  [BitVec.ofInt 16 (t.engines.get f).references.a, BitVec.ofInt 16 (t.engines.get f).references.b,
                   BitVec.ofInt 16 (t.engines.get f).references.c,
                   BitVec.ofNat 16
                    ((if (t.engines.get f).state ∈ [FeederState.injecting, .releasing] then 16384
                      else if (t.engines.get f).state = .checking
                          ∧ (t.monitor.sag = .acquiring ∨ t.monitor.sag = .normal) then 32768 + 16384
                      else 32768) + (t.engines.get f).state.code)])
            ∧ (s.egress.onLink ≠ none → t.egress.waiting = some d)
            ∧ (s.egress.onLink = none → s.management.engine ≠ .deferred →
                t.egress.onLink = some (.drive d) ∧ t.egress.waiting = none))

/-- For every state that acts with no cell being worked and every sound MANAGE cell of the right length: with the
engine IDLE, the queue empty and no load running, its entry is taken at once; otherwise with fewer than 8 entries
present it joins the tail; otherwise it is dropped, the overrun counter advances and MANAGE_OVERRUN is latched.
Nothing else changes. The entry is tagged MALFORMED exactly when its code, target and payload are not one of the 21
rows of the command table. (R11, R15, R16, R169, R193.) -/
def Obligations.ManageCellJoinsTheQueue : Prop :=
  (∀ (s : State) (words : List Word) (upTo : WorkPoint), s.acts → s.work = none → soundCell words →
      headerKind (wordAt words 0) = 2 → words.length = 4 + (wordAt words 2).toNat →
      exec (.cellArrival words upTo) s
        = .next
          (if s.management.engine = .idle ∧ s.ingress.queue = [] ∧ s.loader.state.loading = false then
            { s with management :=
                { s.management with engine := .executing, inFlight := some (requestOf words), carriedOut := false } }
          else if s.ingress.queue.length < 8 then
            { s with ingress := { s.ingress with queue := s.ingress.queue ++ [requestOf words] } }
          else s.dropped .managementOverruns 5))
    ∧ (∀ words : List Word, (requestOf words).tag = headerTag (wordAt words 0)
        ∧ (requestOf words).code = (wordAt words 1).extractLsb' 8 8
        ∧ (requestOf words).target = (wordAt words 1).extractLsb' 0 4
        ∧ (requestOf words).payload = (words.dropLast).drop 3
        ∧ (requestOf words).malformed
            = !commandTableAllows (requestOf words).code (requestOf words).target (requestOf words).payload)
    ∧ ∀ (code : BitVec 8) (target : BitVec 4) (payload : List Word),
        commandTableAllows code target payload = true ↔
          (code ∈ [0x01#8, 0x06, 0x07, 0x08, 0x0E, 0x12, 0x14, 0x15] ∧ target = 15 ∧ payload.length = 0)
          ∨ (code = 0x02 ∧ (target.toNat ≤ 3 ∨ target = 15) ∧ payload.length = 2)
          ∨ (code = 0x03 ∧ (target.toNat ≤ 3 ∨ target = 15) ∧ payload.length = 3)
          ∨ (code = 0x04 ∧ target.toNat ≤ 3 ∧ ∃ r rest, payload = r :: rest ∧ 1 ≤ r.toNat ∧ r.toNat ≤ 8
              ∧ payload.length = 1 + 2 * r.toNat)
          ∨ (code = 0x05 ∧ target.toNat ≤ 3 ∧ payload.length % 2 = 0 ∧ 2 ≤ payload.length ∧ payload.length ≤ 32)
          ∨ (code ∈ [0x09#8, 0x0A, 0x0B] ∧ target.toNat ≤ 3 ∧ payload.length = 0)
          ∨ (code ∈ [0x0C#8, 0x0D, 0x0F] ∧ target = 15 ∧ payload.length = 2)
          ∨ (code ∈ [0x10#8, 0x11, 0x13] ∧ target = 15 ∧ payload.length = 1)

/-- For every cell amplitude up to 36,862, gain up to 4,096, SCALE up to 16,383 and signed 16-bit supply sample: the
target sample lies in -36,861 to +36,860, the missing voltage in -69,628 to +69,628, the blended voltage between 0 and
the missing voltage, the scaled reference in -278,496 to +278,495, and the reference's magnitude is at most L_eff,
which is LIMIT, halved while the heat sink is HOT. For every engine's work on a cell that ends it INJECTING or
RELEASING, the limited count (from 0 at a confirmation) gains 1 for each phase whose scaled reference lies outside
L_eff, at most 65,535, and the limited mark is set where there is one; otherwise both stand. For every slot-holding
feeder at the verifier step of a cell: where its slot shows the bypass open and it does not end in LOCKOUT, the peak
reference takes the largest of the three references' magnitudes if that is larger and the energy draw gains the sum
over the phases of floor(m x i / 65536), held at either end of its range; otherwise both stand; the limited count
stands, and the references held are those shown, 0 in LOCKOUT. (R104, R105, R106, R107, R108, R109, R110, R111, R112,
R95.) -/
def Obligations.ReferenceChainStaysInItsRanges : Prop :=
  (∀ (v : CellView) (drive : Mode) (gain : Nat) (p : Phase),
    v.amplitudeRef ≤ 36862 → gain ≤ 4096 → v.settings.scale ≤ 16383 →
    -32768 ≤ v.supply.get p → v.supply.get p ≤ 32767 →
    (-36861 ≤ targetSample (v.targetAmplitude drive) (v.aim drive) p
      ∧ targetSample (v.targetAmplitude drive) (v.aim drive) p ≤ 36860)
    ∧ (-69628 ≤ v.missingVoltage drive p ∧ v.missingVoltage drive p ≤ 69628)
    ∧ (min 0 (v.missingVoltage drive p) ≤ blended (v.missingVoltage drive p) gain
      ∧ blended (v.missingVoltage drive p) gain ≤ max 0 (v.missingVoltage drive p))
    ∧ (-278496 ≤ v.scaledReference drive gain p ∧ v.scaledReference drive gain p ≤ 278495)
    ∧ ((v.references drive gain).get p).natAbs ≤ (if v.sinkHot then v.settings.limit / 2 else v.settings.limit))
    ∧ (∀ (v : CellView) (e : Engine) (x : Check) (n : Nat),
        n = [Phase.a, .b, .c].countP (fun p => decide
          ((if v.sinkHot then v.settings.limit / 2 else v.settings.limit)
            < (v.scaledReference (e.work v x).engine.drive (e.work v x).engine.gain p).natAbs)) →
        ((e.work v x).engine.state = .injecting ∨ (e.work v x).engine.state = .releasing →
          (e.work v x).engine.limitedCount
              = min 65535 ((if v.marks.confirmation then 0 else e.limitedCount) + n)
          ∧ (e.work v x).engine.marks.limited
              = ((!v.marks.confirmation && e.marks.limited) || decide (1 ≤ n)))
        ∧ ((e.work v x).engine.state ≠ .injecting → (e.work v x).engine.state ≠ .releasing →
          (e.work v x).engine.limitedCount = (if v.marks.confirmation then 0 else e.limitedCount)
          ∧ (e.work v x).engine.marks.limited = (!v.marks.confirmation && e.marks.limited)))
    ∧ ∀ (s : State) (w : Work) (f : Feeder) (e t : Engine) (o : SlotOutput) (slot : Slot), f ∈ s.maps.active →
        e = s.engines.get f → t = (s.verifyCell w).engines.get f → o = w.outputs.get f →
        slot = slotOf s.maps.active w.sense.slots f →
        t.limitedCount = e.limitedCount ∧ t.references = (if t.state = .lockout then ⟨0, 0, 0⟩ else o.references)
        ∧ (o.bypassClosed = false → t.state ≠ .lockout →
            t.peak = max e.peak (max o.references.a.natAbs (max o.references.b.natAbs o.references.c.natAbs))
            ∧ t.energyDraw = max (-2147483648) (min 2147483647 (e.energyDraw
                + ((slot.load.a - w.sense.supply.a) * slot.current.a / 65536
                  + (slot.load.b - w.sense.supply.b) * slot.current.b / 65536
                  + (slot.load.c - w.sense.supply.c) * slot.current.c / 65536))))
        ∧ (o.bypassClosed = true ∨ t.state = .lockout → t.peak = e.peak ∧ t.energyDraw = e.energyDraw)

/-- For every engine, every cell it works on and every check record, the slot outputs of its work carry the feeder's
state; they show the bypass open exactly in INJECTING and RELEASING, the modulator enabled only in CHECKING, INJECTING
and RELEASING, a nonzero reference only there too, and every reference's magnitude is at most L_eff. For a CHECKING
feeder before cell 31: in a cell in ACQUIRING or NORMAL with echo off they show the bypass closed, the modulator
enabled and the pattern, +P on phases A and C and -P on phase B at an even cell index and the opposite signs at an odd
one, P being CHECK_LEVEL or L_eff, whichever is smaller; in any other cell the bypass closed, the modulator disabled
and references 0. (R79, R108, R87, R135, R134, R90 and R24.) -/
def Obligations.SlotOutputsFollowTheFeederState : Prop :=
    ∀ (v : CellView) (e : Engine) (x : Check) (p : Phase),
    (e.work v x).output.state = (e.work v x).engine.state
    ∧ ((e.work v x).output.bypassClosed = false ↔
        (e.work v x).engine.state = .injecting ∨ (e.work v x).engine.state = .releasing)
    ∧ ((e.work v x).output.modulator = true ∨ (e.work v x).output.references.get p ≠ 0 →
        (e.work v x).engine.state = .injecting ∨ (e.work v x).engine.state = .releasing
          ∨ ((e.work v x).engine.state = .checking ∧ v.echo = false))
    ∧ ((e.work v x).output.references.get p).natAbs
        ≤ (if v.sinkHot then v.settings.limit / 2 else v.settings.limit)
    ∧ (e.state = .checking → x.cell ≠ 31 → (v.sag = .acquiring ∨ v.sag = .normal) → v.echo = false →
        (e.work v x).output.bypassClosed = true ∧ (e.work v x).output.modulator = true
        ∧ (e.work v x).output.references.get p
          = (if x.cell % 2 = 0 then 1 else -1) * (if p = .b then -1 else 1)
            * ((min v.settings.checkLevel (if v.sinkHot then v.settings.limit / 2 else v.settings.limit) : Nat) : Int))
    ∧ (e.state = .checking → ((v.sag ≠ .acquiring ∧ v.sag ≠ .normal) ∨ v.echo = true) →
        (e.work v x).output = { bypassClosed := true, modulator := false, references := ⟨0, 0, 0⟩, state := .checking })

/-- For every bank with STORE_FULL above STORE_FLOOR and every store voltage V: E is 0 where V is at most STORE_FLOOR,
1000 where V is at least STORE_FULL, and otherwise the greatest integer not above 1000 x (V^2 - Vfl^2) / (Vfull^2 -
Vfl^2), which is below 1000. For every Store Account and every accepted cell: its E is that of the cell's voltage; a
valid reading joins the tail of its channel's list, channel 0 the store and 1 to 4 the feeders, and every list keeps
its newest HOUSEKEEPING_AVERAGE readings; an invalid word adds none; a mean is floor(sum / count) and an empty list
has none; a store or heat sink that is not HOT becomes HOT exactly when its new mean is at least its limit; one that
is HOT leaves exactly when its mean is at most the limit minus the hysteresis, or it has no mean; each feeder's shed
level is its SHED_LEVEL, raised by 200 up to 999 while the store is HOT, and its rearm level is the greater of
REARM_LEVEL and one above that shed level. In every state's work on a cell, STORE_HOT is latched at the store's entry
to HOT and HEAT of a feeder at its heat sink's entry, and no other flag changes there. (R115, R116, R117, R118, R119,
R120, R121, R114, R150.) -/
def Obligations.StoreAccountLevelsAndHeatStates : Prop :=
  ((∀ (b : Bank) (v : Nat), b.storeFloor < b.storeFull →
    (v ≤ b.storeFloor → energyLevel b v = 0)
    ∧ (b.storeFull ≤ v → energyLevel b v = 1000)
    ∧ (b.storeFloor < v → v < b.storeFull →
        energyLevel b v < 1000
        ∧ energyLevel b v * (b.storeFull ^ 2 - b.storeFloor ^ 2) ≤ 1000 * (v ^ 2 - b.storeFloor ^ 2)
        ∧ 1000 * (v ^ 2 - b.storeFloor ^ 2) < (energyLevel b v + 1) * (b.storeFull ^ 2 - b.storeFloor ^ 2)))
  ∧ (∀ (b : Bank) (voltage : Nat) (word : Word) (a : StoreAccount),
    (∀ f, ((a.work b voltage word).sinkHot.get f = true ↔
        ∃ m, (a.work b voltage word).sinkMeans.get f = some m
          ∧ ((a.sinkHot.get f = false ∧ b.heatLimit ≤ m)
            ∨ (a.sinkHot.get f = true ∧ (b.heatLimit : Int) - b.heatHysteresis < m))))
    ∧ ((a.work b voltage word).storeHot = true ↔
        ∃ m, (a.work b voltage word).storeMean = some m
          ∧ ((a.storeHot = false ∧ b.storeHeatLimit ≤ m)
            ∨ (a.storeHot = true ∧ (b.storeHeatLimit : Int) - b.heatHysteresis < m)))
    ∧ (∀ f, (a.work b voltage word).shedLevels.get f
        = if (a.work b voltage word).storeHot then min 999 ((b.feeder f).shedLevel + 200) else (b.feeder f).shedLevel)
    ∧ ∀ f, (a.work b voltage word).rearmLevels.get f
        = max (b.feeder f).rearmLevel ((a.work b voltage word).shedLevels.get f + 1)))
  ∧ (∀ (b : Bank) (voltage : Nat) (word : Word) (a : StoreAccount),
    (a.work b voltage word).energy = energyLevel b voltage
    ∧ (∀ k v : Nat, k ≤ 4 → v < 4096 → word = BitVec.ofNat 16 (4096 * k + v) →
        (a.work b voltage word).storeReadings = keepNewest b.housekeepingAverage
          (if k = 0 then a.storeReadings ++ [v] else a.storeReadings)
        ∧ ∀ f, (a.work b voltage word).sinkReadings.get f = keepNewest b.housekeepingAverage
          (if k = f.number + 1 then a.sinkReadings.get f ++ [v] else a.sinkReadings.get f))
    ∧ (5 * 4096 ≤ word.toNat →
        (a.work b voltage word).storeReadings = keepNewest b.housekeepingAverage a.storeReadings
        ∧ ∀ f, (a.work b voltage word).sinkReadings.get f = keepNewest b.housekeepingAverage (a.sinkReadings.get f))
    ∧ (a.work b voltage word).storeMean
        = (if (a.work b voltage word).storeReadings = [] then none
          else some ((a.work b voltage word).storeReadings.sum / (a.work b voltage word).storeReadings.length))
    ∧ ∀ f, (a.work b voltage word).sinkMeans.get f
        = if (a.work b voltage word).sinkReadings.get f = [] then none
          else some (((a.work b voltage word).sinkReadings.get f).sum
            / ((a.work b voltage word).sinkReadings.get f).length))
  ∧ ∀ (s : State) (w : Work),
    (s.trackCell w).store = s.store.work w.bank w.sense.store w.sense.housekeeping
    ∧ (s.trackCell w).flags = { s.flags with latched := (s.trackCell w).flags.latched }
    ∧ ∀ i, i < 32 → (s.trackCell w).flags.latched.getLsbD i
        = (s.flags.latched.getLsbD i
          || (decide (i = 8) && ((s.trackCell w).store.storeHot && !s.store.storeHot))
          || Feeder.all.any fun f => decide (i = 15 + 5 * f.number)
              && ((s.trackCell w).store.sinkHot.get f && !s.store.sinkHot.get f))

/-- For every state and every cell's work, in a cell with no commit since its acceptance: q and the amplitude estimate
are the sums of R27 over the cell's samples and the live phase as it stood; the lock is valid exactly when the
estimate reaches the lock floor; with a valid lock the jump reading is floor(D / 65536) of the signed difference D of
the live and the held phase as they stood, and without one it stands; the live phase turns by NOMINAL_STEP, F and
TRACK_KP times the admitted error, and a quarter cycle more in ACQUIRING without a lock; F gains floor(TRACK_KI x
admitted error / 256), clamped to F_max either way; the cell is a zero crossing exactly when the live phase, read
unsigned, falls, and the cell angles and amplitude handed on are those that stood. Where the sag state settled for the
cell is ACQUIRING or NORMAL and no feeder stood INJECTING or RELEASING, the held phase and offset take the live ones
and A_ref takes the estimate clamped to 875 and 1125 per mille of NOMINAL_PEAK; otherwise the held phase advances by
NOMINAL_STEP plus the held offset, and the held offset and A_ref stand. (R25, R26, R27, R28, R29, R30, R31, R34, R35,
R37, R38, R39.) -/
def Obligations.HeldReferenceFollowsOrCoasts : Prop :=
  ∀ (s : State) (w : Work), w.commitDuring = false →
    (((s.settled w).monitor.sag = .acquiring ∨ (s.settled w).monitor.sag = .normal) →
      (∀ f, (s.engines.get f).state ≠ .injecting ∧ (s.engines.get f).state ≠ .releasing) →
        (s.trackCell w).tracker.hold = (s.trackCell w).tracker.live
        ∧ (s.trackCell w).tracker.holdOffset = (s.trackCell w).tracker.offset
        ∧ ((s.trackCell w).tracker.amplitudeRef : Int)
            = max ((w.bank.nominalPeak * 875 / 1000 : Nat) : Int)
                (min ((w.bank.nominalPeak * 1125 / 1000 : Nat) : Int) (s.trackCell w).tracker.amplitude))
    ∧ ((((s.settled w).monitor.sag ≠ .acquiring ∧ (s.settled w).monitor.sag ≠ .normal)
        ∨ ∃ f, (s.engines.get f).state = .injecting ∨ (s.engines.get f).state = .releasing) →
        (s.trackCell w).tracker.hold
            = s.tracker.hold + BitVec.ofInt 32 (w.bank.nominalStep + s.tracker.holdOffset)
        ∧ (s.trackCell w).tracker.holdOffset = s.tracker.holdOffset
        ∧ (s.trackCell w).tracker.amplitudeRef = s.tracker.amplitudeRef)
    ∧ ((s.trackCell w).tracker.lock = true ↔
        ((w.bank.nominalPeak * w.bank.lockFloor / 1000 : Nat) : Int) ≤ (s.trackCell w).tracker.amplitude)
    ∧ (s.trackCell w).tracker.live
        = s.tracker.live
          + BitVec.ofInt 32 (w.bank.nominalStep + s.tracker.offset
              + w.bank.trackKp * (if (s.trackCell w).tracker.lock then (s.trackCell w).tracker.quadrature else 0))
          + (if s.monitor.sag = .acquiring ∧ (s.trackCell w).tracker.lock = false then 1073741824#32 else 0#32)
    ∧ (s.trackCell w).tracker.offset
        = max (-((w.bank.nominalStep / 16 : Nat) : Int)) (min ((w.bank.nominalStep / 16 : Nat) : Int)
            (s.tracker.offset + w.bank.trackKi
              * (if (s.trackCell w).tracker.lock then (s.trackCell w).tracker.quadrature else 0) / 256))
    ∧ (s.trackCell w).tracker.jump
        = (if (s.trackCell w).tracker.lock then (s.tracker.live - s.tracker.hold).toInt / 65536 else s.tracker.jump)
    ∧ (∀ sum : Angle → Int,
        (∀ turn, sum turn = w.sense.supply.a * sineAt (s.tracker.live + turn)
          + w.sense.supply.b * sineAt (s.tracker.live + 1431655765#32 + turn)
          + w.sense.supply.c * sineAt (s.tracker.live + 2863311530#32 + turn)) →
        (s.trackCell w).tracker.quadrature = sum 1073741824#32 / 32768
        ∧ (s.trackCell w).tracker.amplitude = 2 * sum 0#32 / 98304)
    ∧ ∃ x, (s.trackCell w).work = some x ∧ x.live = s.tracker.live ∧ x.hold = s.tracker.hold
        ∧ x.amplitudeRef = s.tracker.amplitudeRef
        ∧ (x.zeroCrossing = true ↔ (s.trackCell w).tracker.live.toNat < s.tracker.live.toNat)

/-- For every state with an accepted cell's work about to begin, in ACQUIRING, whose acquire count plus 1 (from 0 at a
link return) reaches ACQUIRE_CELLS of the bank the cell reads: ACQUIRE_END carries the cell's work to its end (the
model's choice, log entry 2) in sag state NORMAL with that acquire count, the cell-time count advanced by 1, and no
record opened, closed or numbered. For every state with m missing cells and an accepted cell still to be worked and
the burst timer at 1 to m + 1, in ACQUIRING, NORMAL or SUSPECT, or in SAG or RECOVERING where the accepted cell cannot
reach RECOVERY_HOLD, or with BURST_WINDOW 0: BURST_TIMER_EXPIRY carries the work to its end with the burst timer at 0,
and a confirmation in that cell has burst index 0. (R46 (log entry 2), R12, R56 (log entry 2), R49, R158.) -/
def Obligations.AcquireEndAndBurstTimerExpiry : Prop :=
  (∀ (s : State) (w : Work), s.beginsCell w → s.monitor.sag = .acquiring →
    w.bank.acquireCells ≤ (if w.linkReturn then 0 else s.monitor.acquireCount) + 1 →
    ∃ t, exec .acquireEnd s = .next t ∧ t.work = none ∧ t.monitor.sag = .normal
      ∧ t.monitor.acquireCount = (if w.linkReturn then 0 else s.monitor.acquireCount) + 1
      ∧ t.ingress.cellTime = s.ingress.cellTime + 1
      ∧ t.recorder.queue = s.recorder.queue ∧ t.recorder.nextNumber = s.recorder.nextNumber
      ∧ t.recorder.openRecord.isSome = s.recorder.openRecord.isSome
      ∧ (s.recorder.openRecord = none → t.recorder.openRecord = none))
  ∧ (∀ (s : State) (w : Work), s.standsIn w .accepted → 1 ≤ s.monitor.burstTimer →
    s.monitor.burstTimer ≤ w.missing + 1 →
    ((s.monitor.sag = .acquiring ∨ s.monitor.sag = .normal ∨ s.monitor.sag = .suspect)
      ∨ (s.monitor.sag = .sag ∧ 2 ≤ w.bank.recoveryHold)
      ∨ (s.monitor.sag = .recovering ∧ s.monitor.recoveryCount + 1 < w.bank.recoveryHold)
      ∨ w.bank.burstWindow = 0) →
    ∃ t, exec .burstTimerExpiry s = .next t ∧ t.work = none ∧ t.monitor.burstTimer = 0
      ∧ (t.monitor.sag = .sag → s.monitor.sag ≠ .sag → s.monitor.sag ≠ .recovering → t.monitor.lastBurst = 0))

/-- For every state with an accepted cell's work about to begin whose cell deviates and brings the deviation count to
CONFIRM_COUNT (from NORMAL or SUSPECT): CONFIRMATION ends the cell's work (the model's choice, log entry 2) in SAG
with elapsed and recovery count 0, not classified and no published class, worst values started from this cell, the
burst index one above the last (at most 255) while the burst timer still runs after this cell's countdown and 0
otherwise, and an open record with the next event number, the burst index, the cell's cell-time, the cell's energy
level twice and the feeders of the cell's map; the next event number advances, 65,535 to 1, and the closed records
stand. A cell deviates exactly when the largest difference between floor(A_ref x T(held angle + p x K120) / 32768) and
its phase's sample exceeds TRIP_DEVIATION. In every accepted cell each sample joins its window, emptied first at a
link return, which keeps its newest HALF_WINDOW samples; S_p stays the sum of the window's squares; and the retained
voltages are taken from the windows. ACQUIRING counts the cell and becomes NORMAL at ACQUIRE_CELLS; in NORMAL a cell
that does not deviate leaves NORMAL with deviation count 0, and one that does, with CONFIRM_COUNT 2 or more, enters
SUSPECT with count 1; in SUSPECT a cell that does not deviate returns to NORMAL with count 0, and one that does adds 1
below CONFIRM_COUNT; each such cell hands on no mark and leaves the class, the worst values and the records as they
were. (R47 (log entry 2), R48, R49, R56, R158 (log entry 20), R164, R45, R42, R43, R58, R46.) -/
def Obligations.ConfirmationOpensAnEvent : Prop :=
  (∀ (s : State) (w : Work), s.beginsCell w →
    ((s.monitor.sag = .normal ∧ w.bank.confirmCount ≤ 1)
      ∨ (s.monitor.sag = .suspect ∧ w.bank.confirmCount ≤ s.monitor.deviationCount + 1)) →
    deviating w.bank s.tracker.amplitudeRef s.tracker.hold w.sense.supply = true →
    ∃ t, exec .confirmation s = .next t ∧ t.work = none ∧ t.monitor.sag = .sag
      ∧ t.monitor.elapsed = 0 ∧ t.monitor.recoveryCount = 0 ∧ t.monitor.classified = false
      ∧ t.monitor.published = none
      ∧ t.monitor.worst = { lowest := t.monitor.retained, lowestMin := t.monitor.minRetained,
                            jumpMax := t.tracker.jump.natAbs,
                            unbalance := decide (w.bank.unbalanceThreshold
                              ≤ phaseMost t.monitor.retained - t.monitor.minRetained) }
      ∧ t.monitor.lastBurst = (if 1 < s.monitor.burstTimer then min 255 (s.monitor.lastBurst + 1) else 0)
      ∧ t.recorder.openRecord = some
          { number := s.recorder.nextNumber, burstIndex := t.monitor.lastBurst, start := s.ingress.cellTime + 1,
            energyAtConfirmation := energyLevel w.bank w.sense.store,
            lowestEnergy := energyLevel w.bank w.sense.store, feeders := t.maps.active }
      ∧ t.recorder.nextNumber = (if s.recorder.nextNumber = 65535 then 1 else s.recorder.nextNumber + 1)
      ∧ t.recorder.queue = s.recorder.queue)
  ∧ (∀ (b : Bank) (amplitudeRef : Nat) (hold : Angle) (supply r : PerPhase Int),
      r = ⟨amplitudeRef * sineAt hold / 32768, amplitudeRef * sineAt (hold + 1431655765#32) / 32768,
        amplitudeRef * sineAt (hold + 2863311530#32) / 32768⟩ →
      (deviating b amplitudeRef hold supply = true
        ↔ b.tripDeviation < max (r.a - supply.a).natAbs (max (r.b - supply.b).natAbs (r.c - supply.c).natAbs)))
  ∧ (∀ (s : State) (w : Work) (p : Phase) (before : List Int) (m : Monitor), m = (s.trackCell w).monitor →
      before = (if w.linkReturn then [] else s.monitor.windows.get p) →
      m.windows.get p = (before ++ [w.sense.supply.get p]).drop (before.length + 1 - w.bank.halfWindow)
      ∧ (w.linkReturn = true ∨ s.monitor.sums.get p = squares (s.monitor.windows.get p) →
          m.sums.get p = squares (m.windows.get p))
      ∧ measuredFrom w.bank s.monitor m)
  ∧ ∀ (s : State) (w : Work) (m : Monitor) (deviates : Bool) (n : Nat), m = (s.trackCell w).monitor →
      deviates = deviating w.bank s.tracker.amplitudeRef s.tracker.hold w.sense.supply →
      n = (if w.linkReturn then 0 else s.monitor.acquireCount) →
      (∀ (x : SagState) (acquired count : Nat),
        ((s.monitor.sag = .acquiring ∧ x = (if w.bank.acquireCells ≤ n + 1 then .normal else .acquiring)
            ∧ acquired = n + 1 ∧ count = s.monitor.deviationCount)
          ∨ (s.monitor.sag = .normal ∧ deviates = false ∧ x = .normal ∧ acquired = n ∧ count = 0)
          ∨ (s.monitor.sag = .normal ∧ deviates = true ∧ 2 ≤ w.bank.confirmCount ∧ x = .suspect ∧ acquired = n ∧ count = 1)
          ∨ (s.monitor.sag = .suspect ∧ deviates = false ∧ x = .normal ∧ acquired = n ∧ count = 0)
          ∨ (s.monitor.sag = .suspect ∧ deviates = true ∧ s.monitor.deviationCount + 1 < w.bank.confirmCount ∧ x = .suspect
            ∧ acquired = n ∧ count = s.monitor.deviationCount + 1)) →
        m.sag = x ∧ m.acquireCount = acquired ∧ m.deviationCount = count ∧ m.published = s.monitor.published
        ∧ m.classified = s.monitor.classified ∧ m.worst = s.monitor.worst
        ∧ (s.trackCell w).work.map Work.marks = some ⟨false, false, false, false, false, false⟩
        ∧ (s.trackCell w).recorder = s.recorder)

/-- For every engine in STANDBY and every cell with the confirmation mark: with PROVISIONAL_MODE NONE it stays
STANDBY; otherwise it enters SHED with the shed mark where E is below its effective shed level, stays STANDBY with the
declined mark in echo mode, and else enters INJECTING in the provisional mode with gain min(4096, g + ATTACK) and the
injected mark; every other mark but limited is clear, and peak and energy draw restart at 0. The confirmation step
restarts mode, marks and accumulators of every engine and marks SHED and RELEASING for cause SHED shed, LOCKOUT
locked, CHECKING and RETIRING not-ready; of a feeder with no slot it sets none. For every decision step: a STANDBY
feeder, outside a confirmation cell, in a classified SAG cell that needs support (min retained below min(1000, floor +
MARGIN)) records its class's response m, and is declined for DECLINE, shed below its shed level, declined in echo
mode, else injects in m; an INJECTING one records m at the classification point and a class rise, drives in it unless
it is DECLINE, and is released by the first of: E low (SHED), declined, tolerated (LOOKUP), recovery entry (RECOVERY);
a RELEASING one at the return to SAG goes back to INJECTING, or to cause SHED with E low, where its cause was
RECOVERY, and in a classified SAG cell that needs support is declined, kept with cause SHED, turned to cause SHED with
E low, or injects in m; SHED becomes STANDBY in NORMAL with the burst timer expired and E at its rearm level; LOCKOUT,
RETIRING, OFFLINE and ENLISTING stand. Where no lookup reads it, no class need be published. The gain step then raises
or lowers g, ends a release whose gain reached 0 in SHED or STANDBY with no cause, and leaves the modes. The envelope
floor is that of the row with the longest duration not above elapsed. (R62, R63 and R67, R68, R70 and R71, R72, R82
and R83, R84, R85 and R86, R87 and R88, R89, R95, R129, R66.) -/
def Obligations.ConfirmationStartsOrShedsAStandbyFeeder : Prop :=
  (∀ (v : CellView) (e : Engine) (x : Check), e.state = .standby → v.marks.confirmation = true →
    (e.work v x).engine.peak = 0 ∧ (e.work v x).engine.energyDraw = 0
    ∧ (v.settings.provisionalMode = .none →
        (e.work v x).engine.state = .standby ∧ (e.work v x).engine.mode = .none
        ∧ (e.work v x).engine.marks = EventMarks.clear ∧ (e.work v x).engine.gain = 0)
    ∧ (v.settings.provisionalMode ≠ .none → v.energy < v.shedLevel →
        (e.work v x).engine.state = .shed ∧ (e.work v x).engine.gain = 0
        ∧ (e.work v x).engine.mode = v.settings.provisionalMode
        ∧ (e.work v x).engine.marks = { EventMarks.clear with shed := true })
    ∧ (v.settings.provisionalMode ≠ .none → v.shedLevel ≤ v.energy → v.echo = true →
        (e.work v x).engine.state = .standby ∧ (e.work v x).engine.gain = 0
        ∧ (e.work v x).engine.marks = { EventMarks.clear with declined := true })
    ∧ (v.settings.provisionalMode ≠ .none → v.shedLevel ≤ v.energy → v.echo = false →
        (e.work v x).engine.state = .injecting
        ∧ (e.work v x).engine.gain = min 4096 (e.gain + v.settings.attack)
        ∧ (e.work v x).engine.mode = v.settings.provisionalMode
        ∧ (e.work v x).engine.drive = v.settings.provisionalMode
        ∧ (e.work v x).engine.marks
            = { EventMarks.clear with injected := true, limited := (e.work v x).engine.marks.limited }))
    ∧ (∀ (v : CellView) (e d : Engine) (x : Check) (low need standing cp rise : Bool) (c : Nat) (m : Mode),
        (low = true ↔ v.energy < v.shedLevel) →
        (need = true ↔ v.minRetained < min 1000 (envelopeFloor v.settings.envelope v.elapsed + v.settings.margin)) →
        (standing = true ↔ v.sag = .sag ∧ v.classified = true ∧ v.marks.returnToSag = false) →
        cp = v.marks.classificationPoint → rise = v.marks.classRise →
        (((e.state = .standby ∨ e.state = .releasing) ∧ (standing && need) = true)
            ∨ (e.state = .injecting ∧ (cp || rise) = true) →
          v.published = some c ∧ v.settings.response[c]? = some m) →
        (e.state = .standby → v.marks.confirmation = false) →
        d = (e.decision v x).engine →
        (e.state = .standby → (standing && need) = false → d = e)
        ∧ (e.state = .standby → (standing && need) = true →
            d = if m = .decline then
                { e with mode := m, marks := { e.marks with declined := true } }
              else if low then
                { e with mode := m, state := .shed, gain := 0, marks := { e.marks with shed := true } }
              else if v.echo then { e with mode := m, marks := { e.marks with declined := true } }
              else { e with mode := m, drive := m, state := .injecting, cause := none,
                            marks := { e.marks with injected := true } })
        ∧ (e.state = .injecting → ∀ declined tolerated : Bool,
            declined = ((cp || rise) && decide (m = .decline)) → tolerated = (cp && !decide (m = .decline) && !need) →
            d = { e with
              mode := if cp || rise then m else e.mode
              drive := if (cp || rise) && !decide (m = .decline) then m else e.drive
              state := if low || declined || tolerated || v.marks.recoveryEntry then .releasing else .injecting
              cause := if low then some .shed else if declined || tolerated then some .lookup
                else if v.marks.recoveryEntry then some .recovery else e.cause
              marks := { e.marks with shed := e.marks.shed || low, declined := e.marks.declined || declined } })
        ∧ (e.state = .releasing → v.marks.returnToSag = true →
            d = if e.cause ≠ some .recovery then e
              else if low then { e with cause := some .shed, marks := { e.marks with shed := true } }
              else { e with state := .injecting, cause := none, marks := { e.marks with injected := true } })
        ∧ (e.state = .releasing → v.marks.returnToSag = false → (standing && need) = false → d = e)
        ∧ (e.state = .releasing → (standing && need) = true →
            d = if m = .decline then { e with mode := m, marks := { e.marks with declined := true } }
              else if e.cause = some .shed then { e with mode := m }
              else if low then { e with mode := m, cause := some .shed, marks := { e.marks with shed := true } }
              else { e with mode := m, drive := m, state := .injecting, cause := none,
                            marks := { e.marks with injected := true } })
        ∧ (e.state = .shed →
            d = if v.sag = .normal ∧ v.burstExpired = true ∧ v.rearmLevel ≤ v.energy then
                { e with state := .standby, gain := 0 } else e)
        ∧ (e.state ∈ [FeederState.lockout, .retiring, .offline, .enlisting] → d = e))
    ∧ (∀ (v : CellView) (e : Engine), v.marks.confirmation = true →
        e.confirmationStep v = { e with
          mode := .none, peak := 0, limitedCount := 0, energyDraw := 0
          marks := { injected := false, declined := false, linkLost := false, limited := false
                     shed := decide (e.state = .shed ∨ (e.state = .releasing ∧ e.cause = some .shed))
                     locked := decide (e.state = .lockout)
                     notReady := decide (e.state = .checking ∨ e.state = .retiring) } })
    ∧ (∀ (s : State) (w : Work) (f : Feeder), f ∉ s.maps.active →
        (s.engageCell w).engines.get f
          = if w.marks.confirmation then
              { s.engines.get f with
                mode := .none, peak := 0, limitedCount := 0, energyDraw := 0,
                marks := ⟨false, false, false, false, false, false, false⟩ }
            else s.engines.get f)
    ∧ (∀ (v : CellView) (e d t : Engine) (x : Check), t = (e.work v x).engine →
        d = ((e.confirmationStep v).decision v x).engine →
        (v.marks.confirmation = false → e.confirmationStep v = e)
        ∧ t.gain = (if d.state = .injecting then min 4096 (d.gain + v.settings.attack)
            else if d.state = .releasing then
              d.gain - (if d.cause = some .shed then v.settings.shedDecay else v.settings.decay)
            else 0)
        ∧ t.mode = d.mode ∧ t.drive = d.drive ∧ t.marks = { d.marks with limited := t.marks.limited }
        ∧ (d.state = .releasing → t.gain = 0 →
            t.state = (if d.cause = some .shed then .shed else .standby) ∧ t.cause = none)
        ∧ (d.state ≠ .releasing ∨ t.gain ≠ 0 → t.state = d.state ∧ t.cause = d.cause))
    ∧ ∀ (rows : List EnvelopeRow) (r : EnvelopeRow) (elapsed : Nat),
        (rows.map EnvelopeRow.duration).Pairwise (· < ·) → r ∈ rows → r.duration ≤ elapsed →
        (∀ q ∈ rows, q.duration ≤ elapsed → q.duration ≤ r.duration) → envelopeFloor rows elapsed = r.floor

/-- For every state with an accepted cell's work about to begin, in SAG, not classified, whose elapsed count reaches
HALF_WINDOW in this cell: CLASSIFICATION_POINT ends the cell's work (the model's choice, log entry 2) classified, with
the worst values worsened by the cell; min retained at RECOVERY_LEVEL or above takes the monitor to RECOVERING, or
with RECOVERY_HOLD 1 to NORMAL, and below it the monitor stays in SAG; the published class is the one formed from the
worst values unless the event ended. For the work on every accepted cell of an event that is no classification point
and ends no event, with the retained voltages of that cell: in SAG before the classification point the monitor stays
in SAG with the worst values worsened, no class formed and no mark; in SAG after it, min retained at RECOVERY_LEVEL or
above takes it to RECOVERING with recovery count 1 and the recovery entry mark, the worst values standing (log entry
19), and below it stays in SAG with the worst values worsened; in RECOVERING, min retained at RECOVERY_LEVEL or above
adds 1 to the recovery count, and below it the monitor returns to SAG with recovery count 0, the worst values worsened
and the return to SAG mark; after the classification point the class is formed again and published, with the class
rise mark exactly where it is above the one published before; the elapsed count advances by 1 and the open record
stands. (R50, R51 (log entry 19), R52 (log entry 2), R53, R54.) -/
def Obligations.ClassificationPointPublishesTheClass : Prop :=
  (∀ (s : State) (w : Work), s.beginsCell w → s.monitor.sag = .sag → s.monitor.classified = false →
    w.bank.halfWindow ≤ min 65535 (s.monitor.elapsed + 1) →
    ∃ t, exec .classificationPoint s = .next t ∧ t.work = none ∧ t.monitor.classified = true
      ∧ t.monitor.elapsed = min 65535 (s.monitor.elapsed + 1)
      ∧ (∀ p, t.monitor.worst.lowest.get p = min (s.monitor.worst.lowest.get p) (t.monitor.retained.get p))
      ∧ t.monitor.worst.lowestMin = min s.monitor.worst.lowestMin t.monitor.minRetained
      ∧ t.monitor.worst.jumpMax = max s.monitor.worst.jumpMax t.tracker.jump.natAbs
      ∧ t.monitor.worst.unbalance = (s.monitor.worst.unbalance
          || decide (w.bank.unbalanceThreshold ≤ phaseMost t.monitor.retained - t.monitor.minRetained))
      ∧ t.monitor.sag
          = (if w.bank.recoveryLevel ≤ t.monitor.minRetained then
              (if w.bank.recoveryHold ≤ 1 then .normal else .recovering)
            else .sag)
      ∧ (t.monitor.sag ≠ .normal → t.monitor.published = some
          ((if 800 ≤ t.monitor.worst.lowestMin then 0 else if 500 ≤ t.monitor.worst.lowestMin then 1
            else if 200 ≤ t.monitor.worst.lowestMin then 2 else 3) * 4
          + (if w.bank.jumpThreshold ≤ t.monitor.worst.jumpMax then 2 else 0)
          + (if t.monitor.worst.unbalance then 1 else 0)))
      ∧ (t.monitor.sag = .normal → t.monitor.published = none))
  ∧ ∀ (s : State) (w : Work) (m : Monitor) (worse : Worst) (cls : Worst → Nat) (rises : Bool),
      m = (s.trackCell w).monitor → worse = worsenedBy w.bank s.monitor.worst m (s.trackCell w).tracker.jump →
      (∀ x, cls x = (if 800 ≤ x.lowestMin then 0 else if 500 ≤ x.lowestMin then 1 else if 200 ≤ x.lowestMin then 2 else 3) * 4
        + (if w.bank.jumpThreshold ≤ x.jumpMax then 2 else 0) + (if x.unbalance then 1 else 0)) →
      (rises = true ↔ ∃ c, s.monitor.published = some c ∧ c < cls m.worst) →
      (s.monitor.sag = .sag → s.monitor.classified = false → min 65535 (s.monitor.elapsed + 1) < w.bank.halfWindow →
        m.sag = .sag ∧ m.worst = worse ∧ m.classified = false ∧ m.published = s.monitor.published
        ∧ m.recoveryCount = s.monitor.recoveryCount ∧ m.elapsed = min 65535 (s.monitor.elapsed + 1)
        ∧ (s.trackCell w).work.map Work.marks = some Marks.clear ∧ (s.trackCell w).recorder = s.recorder)
      ∧ ∀ (x : SagState) (count : Nat) (kept : Worst) (marks : Marks), s.monitor.classified = true →
        ((s.monitor.sag = .sag ∧ w.bank.recoveryLevel ≤ m.minRetained ∧ 2 ≤ w.bank.recoveryHold ∧ x = .recovering ∧ count = 1
            ∧ kept = s.monitor.worst ∧ marks = { Marks.clear with recoveryEntry := true, classRise := rises })
          ∨ (s.monitor.sag = .sag ∧ m.minRetained < w.bank.recoveryLevel ∧ x = .sag ∧ count = s.monitor.recoveryCount
            ∧ kept = worse ∧ marks = { Marks.clear with classRise := rises })
          ∨ (s.monitor.sag = .recovering ∧ w.bank.recoveryLevel ≤ m.minRetained
            ∧ s.monitor.recoveryCount + 1 < w.bank.recoveryHold ∧ x = .recovering ∧ count = s.monitor.recoveryCount + 1
            ∧ kept = s.monitor.worst ∧ marks = { Marks.clear with classRise := rises })
          ∨ (s.monitor.sag = .recovering ∧ m.minRetained < w.bank.recoveryLevel ∧ x = .sag ∧ count = 0 ∧ kept = worse
            ∧ marks = { Marks.clear with returnToSag := true, classRise := rises })) →
        m.sag = x ∧ m.recoveryCount = count ∧ m.worst = kept ∧ m.classified = true ∧ m.published = some (cls kept)
        ∧ m.elapsed = min 65535 (s.monitor.elapsed + 1) ∧ (s.trackCell w).work.map Work.marks = some marks
        ∧ (s.trackCell w).recorder = s.recorder

/-- For every state with an accepted cell's work about to begin and an open record, whose cell keeps min retained at
RECOVERY_LEVEL or above and brings the recovery count to RECOVERY_HOLD, in RECOVERING or, with RECOVERY_HOLD 1, in SAG
at or after the classification point: EVENT_END ends the cell's work (the model's choice, log entry 2) in NORMAL with
deviation count 0, no published class and the burst timer at BURST_WINDOW; the record is closed with cause RECOVERED,
its duration the cell's cell-time minus its start, the class and figures of the worst values, the lowest energy level
including this cell's, and each listed feeder's entry as its engine stands; it joins the queue's tail, and a queue of
16 loses its oldest and latches EVENT_DISCARD. A feeder's entry holds its mode, marks, peak reference, limited count
and energy draw, and the first outcome of R97's list whose mark it holds. (R53, R54, R55 (log entry 2), R97, R159,
R160 (log entry 14), R162, R163.) -/
def Obligations.EventEndClosesTheRecord : Prop :=
  (∀ (s : State) (w : Work) (o : OpenRecord), s.beginsCell w → s.recorder.openRecord = some o →
      w.bank.recoveryLevel ≤ (s.monitor.measure w.bank w.linkReturn w.sense.supply).minRetained →
      ((s.monitor.sag = .recovering ∧ w.bank.recoveryHold ≤ s.monitor.recoveryCount + 1)
        ∨ (s.monitor.sag = .sag ∧ w.bank.recoveryHold ≤ 1
          ∧ (s.monitor.classified = true ∨ w.bank.halfWindow ≤ min 65535 (s.monitor.elapsed + 1)))) →
      ∃ t, exec .eventEnd s = .next t ∧ t.work = none ∧ t.monitor.sag = .normal ∧ t.monitor.deviationCount = 0
        ∧ t.monitor.published = none ∧ t.monitor.burstTimer = w.bank.burstWindow
        ∧ (s.monitor.sag = .recovering ∨ s.monitor.classified = true → t.monitor.worst = s.monitor.worst)
        ∧ t.recorder.openRecord = none ∧ t.recorder.nextNumber = s.recorder.nextNumber
        ∧ t.recorder.queue = s.recorder.queue.drop (s.recorder.queue.length + 1 - 16)
            ++ [{ number := o.number, burstIndex := o.burstIndex, start := o.start,
                  duration := s.ingress.cellTime + 1 - o.start, cause := .recovered,
                  eventClass := classOf w.bank t.monitor.worst, lowest := t.monitor.worst.lowest,
                  jumpMax := t.monitor.worst.jumpMax, energyAtConfirmation := o.energyAtConfirmation,
                  lowestEnergy := min o.lowestEnergy (energyLevel w.bank w.sense.store),
                  entries := o.feeders.map fun f => (t.engines.get f).entry f }]
        ∧ (16 ≤ s.recorder.queue.length → t.flags.latched.getLsbD 7 = true))
    ∧ ∀ (e : Engine) (f : Feeder), e.entry f
        = { feeder := f, mode := e.mode, marks := e.marks, peak := e.peak, limitedCount := e.limitedCount,
            energyDraw := e.energyDraw
            outcome := if e.marks.locked then .lockedOut else if e.marks.linkLost then .linkLost
              else if e.marks.shed then .shed else if e.marks.injected then .rodeThrough
              else if e.marks.declined then .declined else if e.marks.notReady then .notReady else .tolerated }

/-- For every state whose cell stands before its engines' work, and every slot-holding RELEASING feeder whose gain is
at most its decay step (SHED_DECAY for cause SHED, else DECAY), in a cell without confirmation or return to SAG mark,
with no overcurrent on the feeder and no image waiting, and outside SAG, or in SAG with cause SHED or no need for
support: RELEASE_END ends the cell's work (the model's choice, log entry 2) with the feeder in SHED or STANDBY, gain
0, cause none, drive mode as it was, its three mismatch counters 0, and FEEDER_CHANGE latched with the feeder in its
set. Its mode and marks are as they were, but that a standing lookup that finds a need for support leaves the response
as its mode, and the declined mark where that is DECLINE. (R87 (log entry 2), R85, R72, R88, R149, R156.) -/
def Obligations.ReleaseEndLeavesStandbyOrShed : Prop :=
  ∀ (s : State) (w : Work) (f : Feeder), s.standsIn w .tracked → f ∈ s.maps.active →
    (s.engines.get f).state = .releasing → w.marks.confirmation = false → w.marks.returnToSag = false →
    s.loader.state ≠ .waiting → (s.tripped w).get f = false →
    (s.monitor.sag ≠ .sag ∨ (s.engines.get f).cause = some .shed ∨ (s.view w f).needsSupport = false) →
    (s.engines.get f).gain
      ≤ (if (s.engines.get f).cause = some .shed then (w.bank.feeder f).shedDecay else (w.bank.feeder f).decay) →
    ∃ t, exec (.releaseEnd f) s = .next t ∧ t.work = none
      ∧ (t.engines.get f).state = (if (s.engines.get f).cause = some .shed then .shed else .standby)
      ∧ (t.engines.get f).gain = 0 ∧ (t.engines.get f).cause = none
      ∧ (t.engines.get f).drive = (s.engines.get f).drive
      ∧ (s.monitor.sag ≠ .sag ∨ (s.view w f).needsSupport = false →
          (t.engines.get f).mode = (s.engines.get f).mode ∧ (t.engines.get f).marks = (s.engines.get f).marks)
      ∧ (∀ c m, s.monitor.sag = .sag → s.monitor.classified = true → (s.view w f).needsSupport = true →
          w.published = some c → (w.bank.feeder f).response[c]? = some m →
          (t.engines.get f).mode = m
          ∧ (t.engines.get f).marks = { (s.engines.get f).marks with
              declined := (s.engines.get f).marks.declined || decide (m = .decline) })
      ∧ t.verifier.mismatches.get f = ⟨0, 0, 0⟩
      ∧ t.flags.latched.getLsbD 10 = true ∧ t.flags.changed.get f = true

/-- For every state whose cell stands before its engines' work, in ACQUIRING or NORMAL with echo off, and every slot-
holding CHECKING feeder at cell 31 of its check with no overcurrent and no image waiting: PATH_CHECK_VERDICT ends the
cell's work (the model's choice, log entry 2) with the feeder in STANDBY where every phase's mismatch count after this
cell's comparison is 2 or less, and otherwise in LOCKOUT with CHECK_FAIL latched (and the locked mark where an event
is open); either way its gain is 0, its check record is back at cell 0 with counts 0, and FEEDER_CHANGE is latched
with the feeder in its set. A comparison at cell index k below VERIFY_DELAY D counts nothing; at any other it adds 1
to each phase whose winding current is 0 or has not the sign the pattern had D cells before, + at an even index and -
at an odd one on phases A and C, the opposite on phase B, and leaves the cell index. A CHECKING feeder's cell in
ACQUIRING or NORMAL with echo off, before cell 31, makes that comparison and advances the index by 1; any other cell
returns the record to index 0 with counts 0; both leave it CHECKING. No other feeder's record changes in its work.
(R134, R136, R137 (log entry 2), R150, R156, R135, R90 and R24.) -/
def Obligations.PathCheckVerdictPassesOrLocksOut : Prop :=
  (∀ (s : State) (w : Work) (f : Feeder), s.standsIn w .tracked → f ∈ s.maps.active →
    (s.engines.get f).state = .checking → (s.monitor.sag = .acquiring ∨ s.monitor.sag = .normal) →
    s.egress.echo = false → s.loader.state ≠ .waiting → (s.tripped w).get f = false →
    (s.maps.checks.get f).cell = 31 →
    ∃ t, exec (.pathCheckVerdict f) s = .next t ∧ t.work = none
      ∧ ((∀ p, ((s.view w f).compareCheck (s.maps.checks.get f)).mismatches.get p ≤ 2) →
          (t.engines.get f).state = .standby)
      ∧ ((∃ p, 3 ≤ ((s.view w f).compareCheck (s.maps.checks.get f)).mismatches.get p) →
          (t.engines.get f).state = .lockout ∧ t.flags.latched.getLsbD (13 + 5 * f.number) = true
          ∧ (s.recorder.openRecord.isSome = true → (t.engines.get f).marks.locked = true))
      ∧ (t.engines.get f).gain = 0 ∧ t.maps.checks.get f = ⟨0, ⟨0, 0, 0⟩⟩
      ∧ t.flags.latched.getLsbD 10 = true ∧ t.flags.changed.get f = true)
  ∧ ∀ (v : CellView) (e : Engine) (x : Check) (sign : Nat → Phase → Int),
      (∀ k p, sign k p = (if k % 2 = 0 then 1 else -1) * (if p = .b then -1 else 1)) →
      (x.cell < v.settings.verifyDelay → v.compareCheck x = x)
      ∧ (v.settings.verifyDelay ≤ x.cell → (v.compareCheck x).cell = x.cell
          ∧ ∀ p, (v.compareCheck x).mismatches.get p = x.mismatches.get p
            + if 0 < v.slot.current.get p * sign (x.cell - v.settings.verifyDelay) p then 0 else 1)
      ∧ (e.state = .checking → (v.sag = .acquiring ∨ v.sag = .normal) → v.echo = false → x.cell ≠ 31 →
          (e.work v x).engine.state = .checking
          ∧ (e.work v x).check = { v.compareCheck x with cell := x.cell + 1 })
      ∧ (e.state = .checking → ((v.sag ≠ .acquiring ∧ v.sag ≠ .normal) ∨ v.echo = true) →
          (e.work v x).engine.state = .checking ∧ (e.work v x).check = ⟨0, ⟨0, 0, 0⟩⟩)
      ∧ (e.state ≠ .checking → (e.work v x).check = x)

/-- For every state whose cell stands before its engines' work and whose comparison brings a pair of feeder f to its
VERIFY_COUNT, with no image waiting: VERIFY_FAILURE ends the cell's work (the model's choice, log entry 2) with f in
LOCKOUT, gain 0, cause none, the locked mark where an event is open, its three mismatch counters 0, its history
entries of this cell without a command, and VERIFY and FEEDER_CHANGE latched for f. A pair is eligible exactly when
its feeder's slot shows the bypass open and the D-th newest entry of its history holds a command, D its VERIFY_DELAY;
in ROTATE the pair chosen is the first eligible one after the pointer's in the pair order, the pointer's own last, and
in FIXED the one named, if eligible; with none chosen nothing is compared; the chosen pair mismatches exactly when the
measured injection differs from floor(c x 4096 / SCALE) by more than VERIFY_TOLERANCE; its counter then gains 1, at
most 15, or returns to 0, every other counter stands, the pointer moves to it in ROTATE only, and the feeder fails
when a mismatch brings the counter to VERIFY_COUNT. A slot-holding feeder trips exactly when a phase's winding current
exceeds TRIP_CURRENT; every feeder's condition is settled so; a tripped feeder has OVERCURRENT latched, in CHECKING,
STANDBY, INJECTING, RELEASING, SHED or LOCKOUT ends the cell in LOCKOUT with gain 0 (locked where it entered it in an
open event), and in RETIRING with no abandon due stays so with prior state LOCKOUT. (R91, R142 and R143, R144, R145,
R146, R147, R148, R149 (log entry 2), R156.) -/
def Obligations.VerifyFailureLocksTheFeederOut : Prop :=
  (∀ (s : State) (w : Work) (f : Feeder), s.standsIn w .tracked → (s.compared w).failed = some f →
    s.loader.state ≠ .waiting →
    ∃ t, exec (.verifyFailure f) s = .next t ∧ t.work = none
      ∧ (t.engines.get f).state = .lockout ∧ (t.engines.get f).gain = 0 ∧ (t.engines.get f).cause = none
      ∧ (s.recorder.openRecord.isSome = true → (t.engines.get f).marks.locked = true)
      ∧ t.verifier.mismatches.get f = ⟨0, 0, 0⟩
      ∧ (∀ p, ((t.verifier.histories.get f).get p) = []
          ∨ ((t.verifier.histories.get f).get p).getLast? = some none)
      ∧ t.flags.latched.getLsbD (12 + 5 * f.number) = true
      ∧ t.flags.latched.getLsbD 10 = true ∧ t.flags.changed.get f = true)
    ∧ (∀ (b : Bank) (outputs : PerFeeder SlotOutput) (u : Verifier) (x : Pair),
        u.eligible b outputs x = true ↔
          (outputs.get x.feeder).bypassClosed = false ∧ 1 ≤ (b.feeder x.feeder).verifyDelay
          ∧ (b.feeder x.feeder).verifyDelay ≤ ((u.histories.get x.feeder).get x.phase).length
          ∧ ∃ c, ((u.histories.get x.feeder).get x.phase)[((u.histories.get x.feeder).get x.phase).length
              - (b.feeder x.feeder).verifyDelay]? = some (some c))
    ∧ (∀ (b : Bank) (outputs : PerFeeder SlotOutput) (u : Verifier) (x : Pair) (place : Pair → Nat),
        (∀ y, place y = 3 * y.feeder.number + y.phase.number) →
        (b.verifyMode = 0 → (u.chosen b outputs = some x ↔ u.eligible b outputs x = true
            ∧ ∀ y, u.eligible b outputs y = true →
              (place x + 11 - place u.pointer) % 12 ≤ (place y + 11 - place u.pointer) % 12))
        ∧ (1 ≤ b.verifyMode → b.verifyMode ≤ 12 →
            (u.chosen b outputs = some x ↔ place x = b.verifyMode - 1 ∧ u.eligible b outputs x = true)))
    ∧ (∀ (b : Bank) (supply : PerPhase Int) (slots : Feeder → Slot) (outputs : PerFeeder SlotOutput) (u : Verifier),
        (u.chosen b outputs = none → u.compare b supply slots outputs = ⟨u, none⟩)
        ∧ ∀ (f : Feeder) (p : Phase) (c : Int) (bad : Bool) (n : Nat), u.chosen b outputs = some ⟨f, p⟩ →
          ((u.histories.get f).get p)[((u.histories.get f).get p).length - (b.feeder f).verifyDelay]?
            = some (some c) →
          (bad = true ↔ (b.feeder f).verifyTolerance
            < (((slots f).load.get p - supply.get p) - c * 4096 / ((b.feeder f).scale : Int)).natAbs) →
          n = (if bad then min 15 ((u.mismatches.get f).get p + 1) else 0) →
          u.compare b supply slots outputs
            = { verifier := { u with
                  mismatches := u.mismatches.set f ((u.mismatches.get f).set p n)
                  pointer := if b.verifyMode = 0 then ⟨f, p⟩ else u.pointer }
                failed := if bad = true ∧ (b.feeder f).verifyCount ≤ n then some f else none })
    ∧ (∀ (s : State) (w : Work), s.compared w
        = (s.verifier.left s.engines (s.enginesStepped w)).compare w.bank w.sense.supply
            (slotOf s.maps.active w.sense.slots) (s.outputsFormed w))
    ∧ ∀ (s : State) (w : Work) (f : Feeder), s.standsIn w .tracked → s.loader.state ≠ .waiting →
        ((s.tripped w).get f = true ↔ f ∈ s.maps.active ∧ ∃ p, (w.bank.feeder f).tripCurrent
          < ((slotOf s.maps.active w.sense.slots f).current.get p).natAbs)
        ∧ s.finishWork.verifier.overcurrent.get f = (s.tripped w).get f
        ∧ ((s.tripped w).get f = true →
            s.finishWork.flags.latched.getLsbD (11 + 5 * f.number) = true
            ∧ ((s.engines.get f).state
                  ∈ [FeederState.checking, .standby, .injecting, .releasing, .shed, .lockout] →
                (s.finishWork.engines.get f).state = .lockout ∧ (s.finishWork.engines.get f).gain = 0)
            ∧ ((s.engines.get f).state ∈ [FeederState.checking, .standby, .injecting, .releasing, .shed] →
                s.recorder.openRecord.isSome = true → (s.finishWork.engines.get f).marks.locked = true)
            ∧ ((s.engines.get f).state = .retiring →
                (s.maps.pending = none ∨ s.maps.age < w.bank.mapChangeLimit) →
                (s.finishWork.engines.get f).state = .retiring
                ∧ (s.finishWork.engines.get f).prior = some .lockout))

/-- For every state whose cell stands at the end of its engines' work with a change pending whose age is at least
MAP_CHANGE_LIMIT of the bank the cell reads, and no image waiting: MAP_CHANGE_ABANDON ends the cell's work (the
model's choice, log entry 2) with no change pending and age 0, the active epoch and map as they were, every ENLISTING
feeder OFFLINE, every RETIRING feeder in its prior state with none recorded, every other feeder's state unchanged, and
MAP_ABANDONED latched; FEEDER_CHANGE is latched, with their feeders in its set, for each ENLISTING and each RETIRING
feeder so moved. (R132 (log entry 2), R156.) -/
def Obligations.MapChangeAbandonRestoresTheFeeders : Prop :=
  ∀ (s : State) (w : Work) (p : PendingMap), s.standsIn w .engined → s.maps.pending = some p →
    w.bank.mapChangeLimit ≤ s.maps.age → s.loader.state ≠ .waiting →
    ∃ t, exec .mapChangeAbandon s = .next t ∧ t.work = none
      ∧ t.maps.pending = none ∧ t.maps.age = 0 ∧ t.maps.epoch = s.maps.epoch ∧ t.maps.active = s.maps.active
      ∧ t.flags.latched.getLsbD 6 = true
      ∧ (∀ f, (s.engines.get f).state = .enlisting →
          (t.engines.get f).state = .offline ∧ t.flags.latched.getLsbD 10 = true ∧ t.flags.changed.get f = true)
      ∧ (∀ f x, (s.engines.get f).state = .retiring → (s.engines.get f).prior = some x →
          (t.engines.get f).state = x ∧ (t.engines.get f).prior = none
          ∧ (x ≠ .retiring → t.flags.latched.getLsbD 10 = true ∧ t.flags.changed.get f = true))
      ∧ (∀ f, (s.engines.get f).state ≠ .enlisting → (s.engines.get f).state ≠ .retiring →
          (t.engines.get f).state = (s.engines.get f).state)

/-- For every state whose cell stands at the end of its engines' work with the engine DEFERRED on request r, no
abandon due and no image waiting, in ACQUIRING or NORMAL with no feeder INJECTING or RELEASING, where r is a COMMIT
NOW or the cell is a zero crossing worked after the COMMIT SYNC was taken (the model's reading of a cell under way,
log entry 8): COMMIT_TAKES_EFFECT ends the cell's work (the model's choice, log entry 2) with the active bank a copy
of the shadow bank, A_ref and the offsets clamped into the new bands, no window above HALF_WINDOW, every history
empty, every running check at cell 0, and r answered DONE. Where instead the condition fails and the deferral age plus
1 (at most 65,535) is at least COMMIT_DEFER_LIMIT of the active bank: COMMIT_EXPIRED ends the cell's work with both
banks as they were and r answered EXPIRED with an empty payload. For every state with a missing cell to be worked, the
engine DEFERRED on r, the quiescent condition and no image waiting, where r is a COMMIT NOW or the missing cell is a
zero crossing: the commit takes effect at the end of that missing cell, the cells after it still to be worked with the
bank of the acceptance, and COMMIT_TAKES_EFFECT carries the whole work to its end with that. (R182 (log entry 2), R183
(log entry 8), R185, R37, R44, R138, R143, R184 (log entry 2), R11.) -/
def Obligations.DeferredCommitsTakeEffectOrExpire : Prop :=
  (∀ (s : State) (w : Work) (r : Request), s.standsIn w .engined → s.management.engine = .deferred →
    s.management.inFlight = some r → (s.maps.pending = none ∨ s.maps.age < w.bank.mapChangeLimit) →
    s.loader.state ≠ .waiting → (s.monitor.sag = .acquiring ∨ s.monitor.sag = .normal) →
    (∀ f, (s.engines.get f).state ≠ .injecting ∧ (s.engines.get f).state ≠ .releasing) →
    (r.command = some .commitNow ∨ (w.zeroCrossing = true ∧ w.syncBarred = false)) →
    ∃ t, exec .commitTakesEffect s = .next t ∧ t.work = none
      ∧ t.tables = { active := s.tables.shadow, shadow := s.tables.shadow }
      ∧ t.tracker = { s.tracker with
          amplitudeRef := s.tables.shadow.clampAmplitude s.tracker.amplitudeRef
          offset := s.tables.shadow.clampOffset s.tracker.offset
          holdOffset := s.tables.shadow.clampOffset s.tracker.holdOffset }
      ∧ (∀ p, t.monitor.windows.get p
          = (s.monitor.windows.get p).drop ((s.monitor.windows.get p).length - s.tables.shadow.halfWindow))
      ∧ (∀ f p, (t.verifier.histories.get f).get p = [])
      ∧ (∀ f, (s.engines.get f).state = .checking → t.maps.checks.get f = ⟨0, ⟨0, 0, 0⟩⟩)
      ∧ t.management.inFlight = none
      ∧ (s.management.replies.length < 2 →
          t.management.engine = .idle ∧ t.management.replies = s.management.replies ++ [r.reply .done []])
      ∧ (2 ≤ s.management.replies.length →
          t.management.engine = .waitReply ∧ t.management.held = some (r.reply .done [])))
  ∧ (∀ (s : State) (w : Work) (r : Request), s.standsIn w .engined → s.management.engine = .deferred →
    s.management.inFlight = some r → (s.maps.pending = none ∨ s.maps.age < w.bank.mapChangeLimit) →
    s.loader.state ≠ .waiting →
    (((s.monitor.sag ≠ .acquiring ∧ s.monitor.sag ≠ .normal)
        ∨ ∃ f, (s.engines.get f).state = .injecting ∨ (s.engines.get f).state = .releasing)
      ∨ (r.command ≠ some .commitNow ∧ (w.zeroCrossing = false ∨ w.syncBarred = true))) →
    s.tables.active.commitDeferLimit ≤ min 65535 (s.management.deferralAge + 1) →
    ∃ t, exec .commitExpired s = .next t ∧ t.work = none ∧ t.tables = s.tables
      ∧ t.management.inFlight = none ∧ t.management.deferralAge = min 65535 (s.management.deferralAge + 1)
      ∧ (s.management.replies.length < 2 →
          t.management.engine = .idle ∧ t.management.replies = s.management.replies ++ [r.reply .expired []])
      ∧ (2 ≤ s.management.replies.length →
          t.management.engine = .waitReply ∧ t.management.held = some (r.reply .expired [])))
  ∧ (∀ (s : State) (w : Work) (r : Request), s.standsIn w .accepted → 1 ≤ w.missing →
    s.management.engine = .deferred → s.management.inFlight = some r → s.loader.state ≠ .waiting →
    (s.monitor.sag = .acquiring ∨ s.monitor.sag = .normal) →
    (∀ f, (s.engines.get f).state ≠ .injecting ∧ (s.engines.get f).state ≠ .releasing) →
    (r.command = some .commitNow
      ∨ (w.syncBarred = false
        ∧ (s.tracker.live + BitVec.ofInt 32 (w.bank.nominalStep + s.tracker.offset)).toNat < s.tracker.live.toNat)) →
    (∃ x, s.advance.work = some x ∧ x.bank = w.bank ∧ x.missing = w.missing - 1 ∧ x.stage = .accepted
      ∧ x.commitDuring = true)
    ∧ s.advance.tables = { active := s.tables.shadow, shadow := s.tables.shadow }
    ∧ s.advance.management.inFlight = none
    ∧ ∃ t, exec .commitTakesEffect s = .next t ∧ t.work = none
        ∧ t.tables = { active := s.tables.shadow, shadow := s.tables.shadow })

/-- For every state that acts, link UP with the quiet timer running and no cell being worked: QUIET_TIMER_EXPIRY takes
the link to QUIET with the timer stopped and LINK_QUIET latched, starts the self-timed cell timer at CELL_PERIOD of
the bank active before any commit made at this entry (the model's choice, log entry 36), takes every INJECTING or
RELEASING feeder to STANDBY with gain 0, cause none, the link-lost mark, mismatch counters 0 and FEEDER_CHANGE raised
for it, leaves every other feeder as it was, closes an open record with cause LINK_LOST, its class formed with the
active bank (the model's choice, log entry 34), and the feeders as they then stand, the oldest of a full queue
discarded with EVENT_DISCARD latched, and takes the monitor to ACQUIRING with its counts 0, not classified, no
published class and the burst timer 0, its last burst index, worst values, elapsed and retained values kept; a
deferred COMMIT NOW takes effect; with no deferred commit, a deferred COMMIT SYNC, or an image waiting (the model's
reading, log entry 18) the banks, tracker and monitor windows stand. (R13, R14, R22 (log entry 36), R57, R94, R149,
R156, R161 and R162 (log entry 34), R163, R182 and R183, R192 (log entry 18).) -/
def Obligations.QuietEntryActsOnEveryBlock : Prop :=
  ∀ s : State, s.acts → s.work = none → s.ingress.link = .up → s.ingress.quietTimer ≠ none →
    ∃ t, exec .quietTimerExpiry s = .next t
      ∧ t.ingress = { s.ingress with link := .quiet, quietTimer := none }
      ∧ t.egress.cellTimer = some s.tables.active.cellPeriod ∧ t.flags.latched.getLsbD 0 = true
      ∧ (∀ f, (s.engines.get f).state = .injecting ∨ (s.engines.get f).state = .releasing →
          t.engines.get f = { s.engines.get f with
            state := .standby, gain := 0, cause := none, marks := { (s.engines.get f).marks with linkLost := true } }
          ∧ t.verifier.mismatches.get f = ⟨0, 0, 0⟩
          ∧ t.flags.latched.getLsbD 10 = true ∧ t.flags.changed.get f = true)
      ∧ (∀ f, (s.engines.get f).state ≠ .injecting → (s.engines.get f).state ≠ .releasing →
          t.engines.get f = s.engines.get f)
      ∧ t.monitor = { s.monitor with
          sag := .acquiring, deviationCount := 0, recoveryCount := 0, acquireCount := 0, classified := false,
          published := none, burstTimer := 0, windows := t.monitor.windows, sums := t.monitor.sums }
      ∧ (∀ o, s.recorder.openRecord = some o →
          t.recorder.openRecord = none ∧ t.recorder.queue
            = s.recorder.queue.drop (s.recorder.queue.length + 1 - 16)
              ++ [{ number := o.number, burstIndex := o.burstIndex, start := o.start,
                    duration := s.ingress.cellTime - o.start, cause := .linkLost,
                    eventClass := classOf s.tables.active s.monitor.worst, lowest := s.monitor.worst.lowest,
                    jumpMax := s.monitor.worst.jumpMax, energyAtConfirmation := o.energyAtConfirmation,
                    lowestEnergy := o.lowestEnergy, entries := o.feeders.map fun f => (t.engines.get f).entry f }])
      ∧ (s.recorder.openRecord ≠ none → 16 ≤ s.recorder.queue.length → t.flags.latched.getLsbD 7 = true)
      ∧ (s.recorder.openRecord = none → t.recorder = s.recorder)
      ∧ (∀ r, s.management.engine = .deferred → s.management.inFlight = some r → r.command = some .commitNow →
          t.tables = { active := s.tables.shadow, shadow := s.tables.shadow } ∧ t.management.inFlight = none
          ∧ (s.management.replies.length < 2 →
              t.management.engine = .idle ∧ t.management.replies = s.management.replies ++ [r.reply .done []]))
      ∧ (s.management.engine ≠ .deferred
          ∨ (∃ r, s.management.inFlight = some r ∧ r.command ≠ some .commitNow) →
          t.tables = s.tables ∧ t.tracker = s.tracker ∧ t.management = s.management
          ∧ t.monitor.windows = s.monitor.windows ∧ t.monitor.sums = s.monitor.sums)

/-- For every state that acts with the self-timed cell timer running: SELF_TIMED_CELL restarts the timer at
CELL_PERIOD of the active bank and makes one DRIVE cell ready, numbered one above the last assembled, under the active
epoch, with the device status word and for each slot of the active map three words of 0 and a control word of bypass
closed, modulator disabled and the feeder's state code. The cell is the one being sent where the link was free, and
waits, in place of any earlier one, where it was not. Nothing else changes. (R20, R22, R4.) -/
def Obligations.SelfTimedCellIsMadeReady : Prop :=
  ∀ s : State, s.acts → s.egress.cellTimer ≠ none →
    ∃ d, d = withCrc (headerWord 9 s.maps.epoch (s.egress.lastSequence + 1)
        :: deviceStatusWord s.monitor.sag s.ingress.link s.egress.echo s.flags.attention
        :: s.maps.active.flatMap fun f => [0, 0, 0, BitVec.ofNat 16 (32768 + (s.engines.get f).state.code)])
      ∧ d.length = 3 + 4 * s.maps.active.length
      ∧ exec .selfTimedCell s = .next
          { s with egress :=
            { s.egress with
              cellTimer := some s.tables.active.cellPeriod
              lastSequence := s.egress.lastSequence + 1
              waiting := if s.egress.onLink = none then none else some d
              onLink := if s.egress.onLink = none then some (.drive d) else s.egress.onLink } }

/-- For every state that acts: DRIVE_CELL_SENT with a DRIVE cell on the link frees it; a waiting DRIVE cell goes
before the oldest reply, which is completed from the state at that moment. REPLY_SENT with a reply on the link takes
the oldest reply from the buffer, puts a held reply at its tail and returns the engine to IDLE, or to EXECUTING where
the held reply answers a DEVICE_RESET, then sends what is next; where the reply sent answers a DEVICE_RESET the
management reset is due, and nothing else changes. A management reset that is due comes before any other command's
effect (the model's choice, log entry 4): every command but POWER_ON_RESET, given a state out of reset in which it is
due, answers as it does given the state that the reset leaves, in which nothing is due. (R20, R21 (log entry 29),
R169, R170, R187 (log entry 4).) -/
def Obligations.SentCellsFreeTheLinkAndLeaveTheBuffer : Prop :=
  ((∀ (s : State) (d : List Word), s.acts → s.egress.onLink = some (.drive d) →
      exec .driveCellSent s = .next
        { s with egress :=
          { s.egress with
            waiting := none
            onLink := nextSent s.egress.waiting s.management.replies s.maps.epoch s.flags.attention } })
    ∧ (∀ (s : State) (x : List Word) (r : Reply) (rest : List Reply), s.acts →
        s.egress.onLink = some (.reply x) → s.management.replies = r :: rest → r.answersReset = false →
        exec .replySent s = .next
          { s with
            management :=
              { s.management with
                replies := rest ++ s.management.held.toList
                held := none
                engine :=
                  match s.management.held with
                  | some h => if h.answersReset then .executing else .idle
                  | none => s.management.engine }
            egress :=
              { s.egress with
                waiting := none
                onLink :=
                  nextSent s.egress.waiting (rest ++ s.management.held.toList) s.maps.epoch s.flags.attention } })
    ∧ (∀ (s : State) (x : List Word) (r : Reply) (rest : List Reply), s.acts →
        s.egress.onLink = some (.reply x) → s.management.replies = r :: rest → r.answersReset = true →
        s.management.held = none →
        exec .replySent s = .next
          { s with
            management := { s.management with replies := rest }
            egress := { s.egress with onLink := none }
            due := some .managementReset }))
    ∧ ∀ s : State, s.inReset = false → s.due = some .managementReset →
        ∃ u, exec .managementReset s = .next u ∧ u.due = none ∧ u.inReset = false
          ∧ ∀ c : Instr, c ≠ .powerOnReset → exec c s = exec c u

/-- For every state that acts whose engine's next request r is tagged MALFORMED: MALFORMED answers r with that result
and an empty payload, and nothing else changes. (R16, R171.) -/
def Obligations.MalformedEntriesAreAnsweredMalformed : Prop :=
  ∀ (s : State) (r : Request), s.acts → s.nextRequest = some r → r.malformed = true →
    ∃ t, exec .malformed s = .next t ∧ answered s t r .malformed []

/-- For every state that acts whose next request is an ENQUIRE: it is answered DONE with part code 0x04F4, revision 1,
the link, sag and four feeder state codes, the active epoch and the pending epoch or 16; FEEDER_CHANGE is unlatched
with its set emptied, and nothing else changes. For every state that acts whose next request is a READ_LIVE: it is
answered DONE with the fifteen words of R173 as the state stands, and nothing else changes. Inside a cell's own work
both report what the stages done so far have left (the model's choice, log entry 37). (R172, R156, R173, R99, R80 and
R171 (log entry 37).) -/
def Obligations.EnquireAndReadLiveReportTheState : Prop :=
  (∀ (s : State) (r : Request), s.acts → s.requests .enquire r →
    ∃ t, exec .enquire s = .next t
      ∧ answered
          { s with flags :=
            { s.flags with
              latched := s.flags.latched &&& ~~~(1#32 <<< 10), changed := ⟨false, false, false, false⟩ } }
          t r .done
          [0x04F4, 1, BitVec.ofNat 16 s.ingress.link.code, BitVec.ofNat 16 s.monitor.sag.code,
           BitVec.ofNat 16 s.engines.f0.state.code, BitVec.ofNat 16 s.engines.f1.state.code,
           BitVec.ofNat 16 s.engines.f2.state.code, BitVec.ofNat 16 s.engines.f3.state.code,
           BitVec.ofNat 16 s.maps.epoch.toNat,
           match s.maps.pending with
           | some p => BitVec.ofNat 16 p.epoch.toNat
           | none => 16])
  ∧ (∀ (s : State) (r : Request), s.acts → s.requests .readLive r →
    ∃ t, exec .readLive s = .next t
      ∧ answered s t r .done
          [BitVec.ofNat 16 s.monitor.retained.a, BitVec.ofNat 16 s.monitor.retained.b,
           BitVec.ofNat 16 s.monitor.retained.c, BitVec.ofNat 16 s.store.energy, BitVec.ofInt 16 s.tracker.jump,
           BitVec.ofNat 16 s.monitor.sag.code, BitVec.ofNat 16 s.monitor.elapsed,
           BitVec.ofNat 16 s.engines.f0.gain, BitVec.ofNat 16 s.engines.f0.mode.code,
           BitVec.ofNat 16 s.engines.f1.gain, BitVec.ofNat 16 s.engines.f1.mode.code,
           BitVec.ofNat 16 s.engines.f2.gain, BitVec.ofNat 16 s.engines.f2.mode.code,
           BitVec.ofNat 16 s.engines.f3.gain, BitVec.ofNat 16 s.engines.f3.mode.code])

/-- For every state that acts: a READ_COUNTERS is answered DONE with the eight counters in index order; a
WRITE_COUNTER with index 0 to 7 sets that counter to the value and is answered DONE, and with an index above 7 is
answered MALFORMED and sets none. Nothing else changes. (R174.) -/
def Obligations.CountersAreReadAndWritten : Prop :=
  (∀ (s : State) (r : Request), s.acts → s.requests .readCounters r →
      ∃ t, exec .readCounters s = .next t
        ∧ answered s t r .done
            [BitVec.ofNat 16 s.ingress.counters.crcErrors, BitVec.ofNat 16 s.ingress.counters.shapeErrors,
             BitVec.ofNat 16 s.ingress.counters.epochErrors, BitVec.ofNat 16 s.ingress.counters.missingCells,
             BitVec.ofNat 16 s.ingress.counters.duplicates, BitVec.ofNat 16 s.ingress.counters.sequenceBreaks,
             BitVec.ofNat 16 s.ingress.counters.managementOverruns,
             BitVec.ofNat 16 s.ingress.counters.housekeepingErrors])
    ∧ ∀ (s : State) (r : Request), s.acts → s.requests .writeCounter r →
        (∀ k : Nat, (r.payload.getD 0 0).toNat = k → k ≤ 7 →
          ∃ (c : LinkCounter) (t : State),
            [LinkCounter.crcErrors, .shapeErrors, .epochErrors, .missingCells, .duplicates, .sequenceBreaks,
              .managementOverruns, .housekeepingErrors][k]? = some c
            ∧ exec .writeCounter s = .next t
            ∧ answered
                { s with ingress :=
                  { s.ingress with counters := s.ingress.counters.set c (r.payload.getD 1 0).toNat } }
                t r .done [])
        ∧ (7 < (r.payload.getD 0 0).toNat → ∃ t, exec .writeCounter s = .next t ∧ answered s t r .malformed [])

/-- For every state that acts whose next request is a READ_SETTING: an item the catalogue does not list is answered
UNKNOWN_ITEM; a device item with a feeder target, a feeder item with target 15 and a bank selector above 1 are
answered MALFORMED; otherwise DONE with the item's value in the named bank as two words, or for item 48 the row count
and each row's duration and floor, or for item 49 the mode codes. No register changes besides the answer. (R171, R176,
R177, R77.) -/
def Obligations.ReadSettingReadsTheNamedBank : Prop :=
  ∀ (s : State) (r : Request), s.acts → s.requests .readSetting r →
    ∃ t, exec .readSetting s = .next t
      ∧ ((r.payload.getD 0 0).toNat ∉ (List.range' 1 25 ++ List.range' 32 14 ++ [48, 49]) →
          answered s t r .unknownItem [])
      ∧ (∀ d : DeviceItem, (r.payload.getD 0 0).toNat = d.number → r.target ≠ 15 → answered s t r .malformed [])
      ∧ ((r.payload.getD 0 0).toNat ∈ (List.range' 32 14 ++ [48, 49]) → 4 ≤ r.target.toNat →
          answered s t r .malformed [])
      ∧ ((r.payload.getD 0 0).toNat ∈ (List.range' 1 25 ++ List.range' 32 14 ++ [48, 49]) →
          2 ≤ (r.payload.getD 1 0).toNat → answered s t r .malformed [])
      ∧ ∀ b, (((r.payload.getD 1 0).toNat = 0 ∧ b = s.tables.active)
              ∨ ((r.payload.getD 1 0).toNat = 1 ∧ b = s.tables.shadow)) →
          (∀ d : DeviceItem, (r.payload.getD 0 0).toNat = d.number → r.target = 15 →
            answered s t r .done (twoWords (BitVec.ofNat 32 (b.read d))))
          ∧ (∀ (i : FeederItem) (f : Feeder), (r.payload.getD 0 0).toNat = i.number → r.target.toNat = f.number →
            answered s t r .done (twoWords (BitVec.ofNat 32 ((b.feeder f).read i))))
          ∧ (∀ f : Feeder, (r.payload.getD 0 0).toNat = 48 → r.target.toNat = f.number →
            answered s t r .done
              (BitVec.ofNat 16 (b.feeder f).envelope.length
                :: (b.feeder f).envelope.flatMap fun x => [BitVec.ofNat 16 x.duration, BitVec.ofNat 16 x.floor]))
          ∧ (∀ f : Feeder, (r.payload.getD 0 0).toNat = 49 → r.target.toNat = f.number →
            answered s t r .done ((b.feeder f).response.map fun m => BitVec.ofNat 16 m.code))

/-- For every state that acts whose next request is a WRITE_SETTING: items 48 and 49 and unlisted items are answered
UNKNOWN_ITEM; a device item with a target other than 15 and a feeder item with a target above 3 are answered
MALFORMED; otherwise the value the item's rule stores goes into the shadow bank for the target, the reply is DONE
where that is the value given and CLAMPED where it is not, and its payload is the value stored as two words. Nothing
else changes. (R178, R171, R175.) -/
def Obligations.WriteSettingStoresInTheShadowBank : Prop :=
  ∀ (s : State) (r : Request) (v : Nat), s.acts → s.requests .writeSetting r →
    v = (r.payload.getD 1 0).toNat * 65536 + (r.payload.getD 2 0).toNat →
    ∃ t, exec .writeSetting s = .next t
      ∧ ((r.payload.getD 0 0).toNat ∉ (List.range' 1 25 ++ List.range' 32 14) → answered s t r .unknownItem [])
      ∧ (∀ d : DeviceItem, (r.payload.getD 0 0).toNat = d.number → r.target ≠ 15 → answered s t r .malformed [])
      ∧ (∀ i : FeederItem, (r.payload.getD 0 0).toNat = i.number → 4 ≤ r.target.toNat →
          answered s t r .malformed [])
      ∧ (∀ d : DeviceItem, (r.payload.getD 0 0).toNat = d.number → r.target = 15 →
          answered
            { s with tables := { s.tables with shadow := s.tables.shadow.write d (d.stored v) } } t r
            (if d.stored v = v then .done else .clamped) (twoWords (BitVec.ofNat 32 (d.stored v))))
      ∧ (∀ (i : FeederItem) (f : Feeder), (r.payload.getD 0 0).toNat = i.number → r.target.toNat = f.number →
          answered
            { s with
              tables :=
                { active := s.tables.active
                  shadow := s.tables.shadow.setFeeder f ((s.tables.shadow.feeder f).write i (i.stored v)) } } t r
            (if i.stored v = v then .done else .clamped) (twoWords (BitVec.ofNat 32 (i.stored v))))

/-- For every item and every value: the value a write stores lies in the item's range; a value below the range stores
the lower end and one above it the upper end, but for HOUSEKEEPING_AVERAGE (the power of two not above the value, 1
for 0 and 8 at most), AUTO_ENLIST (the value's bits 0 to 3) and PROVISIONAL_MODE (4 for any value but 0, 1 and 4); a
bank written at an item reads that value there and every other device item as before. (R176, R178, R76.) -/
def Obligations.StoredValuesLieInTheCatalogue : Prop :=
  (∀ (d : DeviceItem) (v : Nat), d.low ≤ d.stored v ∧ d.stored v ≤ d.high)
    ∧ (∀ (i : FeederItem) (v : Nat), i.low ≤ i.stored v ∧ i.stored v ≤ i.high)
    ∧ (∀ (d : DeviceItem) (v : Nat), d ≠ .housekeepingAverage → d ≠ .autoEnlist →
        d.stored v = max d.low (min d.high v))
    ∧ (∀ (i : FeederItem) (v : Nat), i ≠ .provisionalMode → i.stored v = max i.low (min i.high v))
    ∧ (∀ v : Nat, DeviceItem.stored .autoEnlist v = v % 16)
    ∧ (∀ v : Nat, DeviceItem.stored .housekeepingAverage v ≤ max 1 v
        ∧ (DeviceItem.stored .housekeepingAverage v = 8 ∨ v < 2 * DeviceItem.stored .housekeepingAverage v)
        ∧ DeviceItem.stored .housekeepingAverage v ∈ [1, 2, 4, 8])
    ∧ (∀ v : Nat, FeederItem.stored .provisionalMode v = if v = 0 ∨ v = 1 then v else 4)
    ∧ (∀ (b : Bank) (d e : DeviceItem) (v : Nat),
        (b.write d (d.stored v)).read e = if e = d then d.stored v else b.read e)
    ∧ ∀ (b : FeederBank) (i j : FeederItem) (v : Nat),
        (b.write i (i.stored v)).read j = if j = i then i.stored v else b.read j

/-- For every state that acts and every feeder f the request's target names: a LOAD_ENVELOPE of row pairs replaces f's
envelope in the shadow bank by those rows, a floor above 1000 stored as 1000 and then answered CLAMPED, else DONE. A
LOAD_RESPONSE whose every pair names a class 0 to 15 and a mode code 0 to 3 writes the pairs in order into f's
Response Table in the shadow bank and is answered DONE; one with any other pair is answered MALFORMED and writes
nothing. Nothing else changes. (R75, R76.) -/
def Obligations.LoadedTablesReplaceTheShadowTables : Prop :=
  (∀ (s : State) (r : Request) (f : Feeder) (count : Word) (rows : List EnvelopeRow), s.acts →
      s.requests .loadEnvelope r → r.target.toNat = f.number →
      (∀ x ∈ rows, x.duration < 65536 ∧ x.floor < 65536) →
      r.payload = count :: rows.flatMap (fun x => [BitVec.ofNat 16 x.duration, BitVec.ofNat 16 x.floor]) →
      ∃ t, exec .loadEnvelope s = .next t
        ∧ answered
            { s with
              tables :=
                { active := s.tables.active
                  shadow := s.tables.shadow.setFeeder f
                    { s.tables.shadow.feeder f with
                      envelope := rows.map fun x => { duration := x.duration, floor := min 1000 x.floor } } } }
            t r (if rows.any (fun x => decide (1000 < x.floor)) then .clamped else .done) [])
    ∧ (∀ (s : State) (r : Request) (f : Feeder) (entries : List ResponseEntry), s.acts →
        s.requests .loadResponse r → r.target.toNat = f.number →
        (∀ x ∈ entries, x.eventClass ≤ 15 ∧ x.mode ≠ .none) →
        r.payload = entries.flatMap (fun x => [BitVec.ofNat 16 x.eventClass, BitVec.ofNat 16 x.mode.code]) →
        ∃ t, exec .loadResponse s = .next t
          ∧ answered
              { s with
                tables :=
                  { active := s.tables.active
                    shadow := s.tables.shadow.setFeeder f
                      { s.tables.shadow.feeder f with
                        response := entries.foldl (fun table x => table.set x.eventClass x.mode)
                          (s.tables.shadow.feeder f).response } } }
              t r .done [])
    ∧ (∀ (s : State) (r : Request) (before after : List Word) (c m : Word), s.acts → s.requests .loadResponse r →
        r.payload = before ++ c :: m :: after → before.length % 2 = 0 → (15 < c.toNat ∨ 3 < m.toNat) →
        ∃ t, exec .loadResponse s = .next t ∧ answered s t r .malformed [])

/-- For every state that acts whose next request is a DISCARD_SHADOW, whatever the sag state, the feeder states and
the work under way: the shadow bank becomes the active bank, the request is answered DONE, and nothing else changes.
(R179.) -/
def Obligations.DiscardShadowCopiesTheActiveBank : Prop :=
  ∀ (s : State) (r : Request), s.acts → s.requests .discardShadow r →
    ∃ t, exec .discardShadow s = .next t
      ∧ answered { s with tables := { active := s.tables.active, shadow := s.tables.active } } t r .done []

/-- For every state that acts: a commit whose shadow bank fails a check is answered INVALID_TABLE with the failing
item and target, and changes nothing else. A valid COMMIT NOW between two cells' work (no cell accepted, or none of
the accepted cell's own work begun: log entry 22), in ACQUIRING or NORMAL with no feeder INJECTING or RELEASING, takes
effect at once: the active bank is a copy of the shadow bank, the histories are empty, and it is answered DONE. Any
other valid COMMIT NOW, and every valid COMMIT SYNC, is in flight DEFERRED with age 0 and changes no bank; no reply is
built. (R180, R181 (log entry 22), R183, R185.) -/
def Obligations.CommitsAreValidatedThenTakenOrDeferred : Prop :=
  (∀ (s : State) (r : Request) (c : Command) (i : Instr) (x : TableFault),
      (c = .commitNow ∧ i = .commitNow ∨ c = .commitSync ∧ i = .commitSync) → s.acts → s.requests c r →
      s.tables.shadow.fault = some x →
      ∃ t, exec i s = .next t ∧ answered s t r .invalidTable [BitVec.ofNat 16 x.item, BitVec.ofNat 16 x.target])
    ∧ (∀ (s : State) (r : Request), s.acts → s.requests .commitNow r → s.tables.shadow.fault = none →
        (∀ w, s.work = some w → w.stage = .accepted) → (s.monitor.sag = .acquiring ∨ s.monitor.sag = .normal) →
        (∀ f, (s.engines.get f).state ≠ .injecting ∧ (s.engines.get f).state ≠ .releasing) →
        ∃ t u, exec .commitNow s = .next t ∧ answered u t r .done []
          ∧ u.tables = { active := s.tables.shadow, shadow := s.tables.shadow }
          ∧ (∀ f p, (u.verifier.histories.get f).get p = [])
          ∧ u = { s with
              tables := u.tables
              verifier := { s.verifier with histories := u.verifier.histories }
              maps := { s.maps with checks := u.maps.checks }
              tracker := s.tracker.commit s.tables.shadow
              monitor := s.monitor.commit s.tables.shadow
              management := { s.management with deferralAge := 0 }
              work := s.work.map fun w => { w with commitDuring := true }
              came := s.came ++ [.commitTakesEffect] })
    ∧ ∀ (s : State) (r : Request) (c : Command) (i : Instr),
        (c = .commitNow ∧ i = .commitNow
            ∧ ((∃ w, s.work = some w ∧ w.stage ≠ .accepted) ∨ (s.monitor.sag ≠ .acquiring ∧ s.monitor.sag ≠ .normal)
                ∨ ∃ f, (s.engines.get f).state = .injecting ∨ (s.engines.get f).state = .releasing)
          ∨ c = .commitSync ∧ i = .commitSync) →
        s.acts → s.requests c r → s.tables.shadow.fault = none →
        ∃ t, exec i s = .next t ∧ t.management.engine = .deferred ∧ t.management.inFlight = some r
          ∧ t.management.deferralAge = 0 ∧ t.management.replies = s.management.replies
          ∧ t = { s with ingress := t.ingress, management := t.management, work := t.work }
          ∧ (s.work = none → t.work = none)

/-- For every bank: STORE_FULL not above STORE_FLOOR fails with item 17 and target 15; otherwise a feeder's check
fails with item 48 where its envelope does not start at duration 0 or does not strictly ascend, else with item 39
where REARM_LEVEL is not above SHED_LEVEL, and the bank's fault is that of the lowest-numbered feeder that fails, none
where none does. (R180, R78.) -/
def Obligations.ValidationNamesTheFirstFailingCheck : Prop :=
  ∀ b : Bank,
    (b.storeFull ≤ b.storeFloor → b.fault = some { item := 17, target := 15 })
    ∧ (∀ f : Feeder, b.storeFloor < b.storeFull →
        (∀ g : Feeder, g.number < f.number →
          (∃ rest, (b.feeder g).envelope = rest ∧ (rest.map EnvelopeRow.duration).Pairwise (· < ·)
            ∧ (rest.head?.map EnvelopeRow.duration) = some 0)
          ∧ (b.feeder g).shedLevel < (b.feeder g).rearmLevel) →
        (¬ ((((b.feeder f).envelope.map EnvelopeRow.duration).Pairwise (· < ·))
            ∧ ((b.feeder f).envelope.head?.map EnvelopeRow.duration) = some 0) →
          b.fault = some { item := 48, target := f.number })
        ∧ ((((b.feeder f).envelope.map EnvelopeRow.duration).Pairwise (· < ·)) →
            ((b.feeder f).envelope.head?.map EnvelopeRow.duration) = some 0 →
            (b.feeder f).rearmLevel ≤ (b.feeder f).shedLevel →
            b.fault = some { item := 39, target := f.number }))
    ∧ (b.storeFloor < b.storeFull →
        (∀ g : Feeder, (((b.feeder g).envelope.map EnvelopeRow.duration).Pairwise (· < ·))
          ∧ ((b.feeder g).envelope.head?.map EnvelopeRow.duration) = some 0
          ∧ (b.feeder g).shedLevel < (b.feeder g).rearmLevel) → b.fault = none)

/-- For every state that acts whose next request is an ENLIST of feeder f: it is carried out between cells, on the
state as it stands where no cell's own work has begun (log entry 22), and otherwise on the state that the rest of the
cell's work leaves (the model's reading, log entry 35), in which: REFUSED_STATE where f is not OFFLINE or echo is on;
else REFUSED_BUSY_MAP where a change is pending; else REFUSED_EVENT in SUSPECT, SAG or RECOVERING; and a refused
ENLIST changes nothing. Otherwise f enters ENLISTING with gain 0, the pending map is the active map with f in its
ascending place under the active epoch plus 1, the age is 0, and the reply is ACCEPTED with that epoch, the map's
length and its feeders; nothing else changes. (R127, R24, R130 and R81 (log entries 22 and 35).) -/
def Obligations.EnlistAnnouncesAMapWithTheFeeder : Prop :=
  ∀ (s u : State) (r : Request) (f : Feeder), s.acts → s.requests .enlist r → r.target.toNat = f.number →
    ((∀ w, s.work = some w → w.stage = .accepted) → u = s) →
    ((∃ w, s.work = some w ∧ w.stage ≠ .accepted) → u = s.finishWork) →
    ∃ t, exec .enlist s = .next t
      ∧ (((u.engines.get f).state ≠ .offline ∨ u.egress.echo = true) → answered u t r .refusedState [])
      ∧ ((u.engines.get f).state = .offline → u.egress.echo = false → u.maps.pending ≠ none →
          answered u t r .refusedBusyMap [])
      ∧ ((u.engines.get f).state = .offline → u.egress.echo = false → u.maps.pending = none →
          u.monitor.sag ≠ .acquiring → u.monitor.sag ≠ .normal → answered u t r .refusedEvent [])
      ∧ ((u.engines.get f).state = .offline → u.egress.echo = false → u.maps.pending = none →
          (u.monitor.sag = .acquiring ∨ u.monitor.sag = .normal) →
          ∃ map, map = Feeder.all.filter (fun g => decide (g ∈ u.maps.active ∨ g = f))
            ∧ answered
                { u with
                  engines := u.engines.set f { u.engines.get f with state := .enlisting, gain := 0 }
                  maps := { u.maps with pending := some { epoch := u.maps.epoch + 1, feeders := map }, age := 0 } }
                t r .accepted
                (BitVec.ofNat 16 (u.maps.epoch + 1).toNat :: BitVec.ofNat 16 map.length
                  :: map.map fun g => BitVec.ofNat 16 g.number))

/-- For every state that acts whose next request is a RETIRE of feeder f: it is carried out between cells, on the
state as it stands where no cell's own work has begun (log entry 22), and otherwise on the state that the rest of the
cell's work leaves, whose slot outputs stand as that work produced them (the model's reading, log entry 35), in which:
REFUSED_EVENT where f is INJECTING or RELEASING; else REFUSED_STATE where it is not STANDBY, SHED or LOCKOUT; else
REFUSED_BUSY_MAP where a change is pending; and a refused RETIRE changes nothing. Otherwise f enters RETIRING with
gain 0 and its state recorded as prior, the pending map is the active map without f under the active epoch plus 1, the
age is 0, and the reply is ACCEPTED with that epoch, the map's length and its feeders; nothing else changes. (R128,
R130 and R81 (log entries 22 and 35).) -/
def Obligations.RetireAnnouncesAMapWithoutTheFeeder : Prop :=
  ∀ (s u : State) (r : Request) (f : Feeder), s.acts → s.requests .retire r → r.target.toNat = f.number →
    ((∀ w, s.work = some w → w.stage = .accepted) → u = s) →
    ((∃ w, s.work = some w ∧ w.stage ≠ .accepted) → u = s.finishWork) →
    ∃ t, exec .retire s = .next t
      ∧ (((u.engines.get f).state = .injecting ∨ (u.engines.get f).state = .releasing) →
          answered u t r .refusedEvent [])
      ∧ (((u.engines.get f).state ∈ [FeederState.offline, .enlisting, .checking, .retiring]) →
          answered u t r .refusedState [])
      ∧ (((u.engines.get f).state ∈ [FeederState.standby, .shed, .lockout]) → u.maps.pending ≠ none →
          answered u t r .refusedBusyMap [])
      ∧ (((u.engines.get f).state ∈ [FeederState.standby, .shed, .lockout]) → u.maps.pending = none →
          ∃ map, map = u.maps.active.filter (fun g => decide (g ≠ f))
            ∧ answered
                { u with
                  engines := u.engines.set f
                    { u.engines.get f with state := .retiring, gain := 0, prior := some (u.engines.get f).state }
                  maps := { u.maps with pending := some { epoch := u.maps.epoch + 1, feeders := map }, age := 0 } }
                t r .accepted
                (BitVec.ofNat 16 (u.maps.epoch + 1).toNat :: BitVec.ofNat 16 map.length
                  :: map.map fun g => BitVec.ofNat 16 g.number))

/-- For every state that acts whose next request is a FORCE_BYPASS of feeder f: in OFFLINE, ENLISTING and RETIRING it
is answered REFUSED_STATE and changes nothing; in LOCKOUT OPERATOR is latched for f and it is answered DONE; in
CHECKING, STANDBY, INJECTING, RELEASING and SHED f enters LOCKOUT with gain 0, cause none and, where a record is open,
the locked mark, OPERATOR is latched, a check of f returns to cell 0, a driving f's mismatch counters return to 0, a
cell between f's reference step and its verifier step has f's outputs replaced by those of LOCKOUT (at once, the
model's reading of where R92 has the verifier step replace them, log entry 21), and it is answered DONE. Nothing else
changes. (R92 (log entry 21), R138, R149.) -/
def Obligations.ForceBypassLocksTheFeederOut : Prop :=
  ∀ (s : State) (r : Request) (f : Feeder), s.acts → s.requests .forceBypass r → r.target.toNat = f.number →
    ∃ t, exec .forceBypass s = .next t
      ∧ (((s.engines.get f).state ∈ [FeederState.offline, .enlisting, .retiring]) →
          answered s t r .refusedState [])
      ∧ ((s.engines.get f).state = .lockout →
          answered
            { s with flags := { s.flags with latched := s.flags.latched ||| (1#32 <<< (14 + 5 * f.number)) } }
            t r .done [])
      ∧ (((s.engines.get f).state ∈ [FeederState.checking, .standby, .injecting, .releasing, .shed]) →
          answered
            { s with
              engines := s.engines.set f
                { s.engines.get f with
                  state := .lockout, gain := 0, cause := none,
                  marks := { (s.engines.get f).marks with
                    locked := (s.engines.get f).marks.locked || s.recorder.openRecord.isSome } }
              flags := { s.flags with latched := s.flags.latched ||| (1#32 <<< (14 + 5 * f.number)) }
              maps := { s.maps with
                checks := if (s.engines.get f).state = .checking then s.maps.checks.set f ⟨0, ⟨0, 0, 0⟩⟩
                  else s.maps.checks }
              verifier := { s.verifier with
                mismatches := if (s.engines.get f).state = .injecting ∨ (s.engines.get f).state = .releasing then
                    s.verifier.mismatches.set f ⟨0, 0, 0⟩
                  else s.verifier.mismatches }
              work := s.work.map fun w =>
                if w.stage = .referenced then
                  { w with outputs := w.outputs.set f ⟨true, false, ⟨0, 0, 0⟩, .lockout⟩ }
                else w }
            t r .done [])

/-- For every state that acts whose next request is a CLEAR_FLAGS with words x and y: flag i stays latched unless the
set names it (bit i of y then x, index 31 never) and its condition does not hold; naming index 10 empties
FEEDER_CHANGE's set; every LOCKOUT feeder with none of its five flags latched afterwards enters CHECKING with gain 0
and its check at cell 0; every other feeder stands; and the reply is DONE with the two words of the flags latched
afterwards. (R93, R150, R151, R152.) -/
def Obligations.ClearFlagsKeepsHeldConditions : Prop :=
  ∀ (s : State) (r : Request) (held : Nat → Bool), s.acts → s.requests .clearFlags r →
    (∀ i, held i = true ↔ (i = 0 ∧ s.ingress.link = .quiet) ∨ (i = 8 ∧ s.store.storeHot = true)
      ∨ (∃ f : Feeder, i = 11 + 5 * f.number ∧ s.verifier.overcurrent.get f = true)
      ∨ ∃ f : Feeder, i = 15 + 5 * f.number ∧ s.store.sinkHot.get f = true) →
    ∃ t u, exec .clearFlags s = .next t
      ∧ answered u t r .done [u.flags.latched.extractLsb' 0 16, u.flags.latched.extractLsb' 16 16]
      ∧ u = { s with engines := u.engines, flags := u.flags, maps := { s.maps with checks := u.maps.checks } }
      ∧ u.flags.reported = s.flags.reported
      ∧ (∀ i, i < 32 → u.flags.latched.getLsbD i
          = (s.flags.latched.getLsbD i
              && !((r.payload.getD 1 0 ++ r.payload.getD 0 0).getLsbD i && decide (i < 31) && !held i)))
      ∧ u.flags.changed
          = (if (r.payload.getD 0 0).getLsbD 10 then ⟨false, false, false, false⟩ else s.flags.changed)
      ∧ (∀ f : Feeder, (s.engines.get f).state = .lockout →
          (∀ k, k < 5 → u.flags.latched.getLsbD (11 + 5 * f.number + k) = false) →
          u.engines.get f = { s.engines.get f with state := .checking, gain := 0 }
          ∧ u.maps.checks.get f = ⟨0, ⟨0, 0, 0⟩⟩)
      ∧ (∀ f : Feeder, ((s.engines.get f).state ≠ .lockout
            ∨ ∃ k, k < 5 ∧ u.flags.latched.getLsbD (11 + 5 * f.number + k) = true) →
          u.engines.get f = s.engines.get f ∧ u.maps.checks.get f = s.maps.checks.get f)

/-- For every state that acts whose next request is a SET_REPORT: every flag whose index the set names becomes
reported and every other flag masked, index 31 naming none; the request is answered DONE, ALERT is active exactly when
some flag is latched and reported, and nothing else changes. (R153, R154.) -/
def Obligations.SetReportSetsTheMasks : Prop :=
  ∀ (s : State) (r : Request), s.acts → s.requests .setReport r →
    ∃ t u, exec .setReport s = .next t ∧ answered u t r .done []
      ∧ u = { s with flags := { s.flags with reported := u.flags.reported } }
      ∧ (∀ i, i < 32 → u.flags.reported.getLsbD i
          = ((r.payload.getD 1 0 ++ r.payload.getD 0 0).getLsbD i && decide (i < 31)))
      ∧ (u.alert = true ↔ ∃ i, i < 31 ∧ u.flags.latched.getLsbD i = true ∧ u.flags.reported.getLsbD i = true)
      ∧ t.alert = u.alert

/-- For every state of the Flag Unit in which index 31 is not latched, with the causes in the order of R155 each given
by its flag indices: where no reported flag is latched the code is 0x07; otherwise its cause field is the number of
the first cause with a reported latched flag; its feeder field is, for a feeder cause, the lowest-numbered feeder
whose flag is reported and latched, for FEEDER_CHANGE the lowest-numbered feeder of its set, and for any other cause
7. (R155, R150.) -/
def Obligations.AttentionNamesTheHighestPriority : Prop :=
  ∀ (u : FlagUnit) (on : Nat → Bool) (causes : List (List Nat)),
    (∀ i, on i = (u.latched.getLsbD i && u.reported.getLsbD i)) → u.latched.getLsbD 31 = false →
    causes = [[11, 16, 21, 26], [12, 17, 22, 27], [13, 18, 23, 28], [0], [8], [15, 20, 25, 30], [14, 19, 24, 29],
      [6], [7], [5], [4], [1], [2], [3], [9], [10]] →
    ((∀ i, on i = false) → u.attention = 0x07)
    ∧ ∀ (n : Nat) (indices : List Nat), causes[n]? = some indices → indices.any on = true →
        (∀ m others, m < n → causes[m]? = some others → others.any on = false) →
        u.attention.toNat / 8 = n + 1
        ∧ (indices.length = 4 → ∀ k, k < 4 → indices.findIdx on = k → u.attention.toNat % 8 = k)
        ∧ (indices.length = 1 → n ≠ 15 → u.attention.toNat % 8 = 7)
        ∧ (n = 15 → ∀ f : Feeder, u.changed.get f = true → (∀ g : Feeder, g.number < f.number → u.changed.get g = false) →
            u.attention.toNat % 8 = f.number)

/-- For every state that acts whose next request is a READ_EVENT of index k: for a record of the queue at position k
it is answered DONE with the record's fields and eight words for each feeder entry; for k = 255 with a record open,
DONE with the open record gathered as its owners stand, end cause 2, the duration so far and the class formed with the
active bank (the model's choice, log entry 34), inside a cell's own work with what the stages done so far have left,
the lowest energy of the cells before (the model's choices, log entries 38 and 39); otherwise EMPTY with an empty
payload. Nothing else changes. (R165, R166 (log entries 34, 38 and 39), R162.) -/
def Obligations.ReadEventReturnsTheNamedRecord : Prop :=
  ∀ (s : State) (r : Request) (k : Nat) (words : EventRecord → Nat → List Word), s.acts →
    s.requests .readEvent r → (r.payload.getD 0 0).toNat = k →
    (∀ x cause, words x cause
      = [BitVec.ofNat 16 x.number, BitVec.ofNat 16 x.burstIndex, x.start.extractLsb' 16 16, x.start.extractLsb' 0 16,
         x.duration.extractLsb' 16 16, x.duration.extractLsb' 0 16, BitVec.ofNat 16 cause,
         BitVec.ofNat 16 x.eventClass, BitVec.ofNat 16 x.lowest.a, BitVec.ofNat 16 x.lowest.b,
         BitVec.ofNat 16 x.lowest.c, BitVec.ofNat 16 x.jumpMax, BitVec.ofNat 16 x.energyAtConfirmation,
         BitVec.ofNat 16 x.lowestEnergy, BitVec.ofNat 16 x.entries.length]
        ++ x.entries.flatMap fun y =>
          [BitVec.ofNat 16 y.feeder.number, BitVec.ofNat 16 y.mode.code, BitVec.ofNat 16 y.outcome.code,
           BitVec.ofNat 16 ((if y.marks.injected then 1 else 0) + (if y.marks.shed then 2 else 0)
             + (if y.marks.declined then 4 else 0) + (if y.marks.locked then 8 else 0)
             + (if y.marks.linkLost then 16 else 0) + (if y.marks.limited then 32 else 0)
             + (if y.marks.notReady then 64 else 0)),
           BitVec.ofNat 16 y.peak, BitVec.ofNat 16 y.limitedCount,
           (BitVec.ofInt 32 y.energyDraw).extractLsb' 16 16, (BitVec.ofInt 32 y.energyDraw).extractLsb' 0 16]) →
    ∃ t, exec .readEvent s = .next t
      ∧ (∀ x, k ≤ 15 → s.recorder.queue[k]? = some x →
          answered s t r .done (words x (if x.cause = .recovered then 0 else 1)))
      ∧ (∀ o, k = 255 → s.recorder.openRecord = some o →
          answered s t r .done (words
            { number := o.number, burstIndex := o.burstIndex, start := o.start,
              duration := s.ingress.cellTime - o.start, cause := .recovered,
              eventClass := classOf s.tables.active s.monitor.worst, lowest := s.monitor.worst.lowest,
              jumpMax := s.monitor.worst.jumpMax, energyAtConfirmation := o.energyAtConfirmation,
              lowestEnergy := o.lowestEnergy, entries := o.feeders.map fun f => (s.engines.get f).entry f } 2))
      ∧ ((k ≤ 15 ∧ s.recorder.queue.length ≤ k) ∨ (16 ≤ k ∧ k ≠ 255) ∨ (k = 255 ∧ s.recorder.openRecord = none) →
          answered s t r .empty [])

/-- For every state that acts whose next request is a RELEASE_EVENT of number n: where the queue's oldest record
carries n it is removed and the reply is DONE; otherwise no record is removed and the reply is STALE; either way the
payload is the number of records left and the oldest one's number, or 0. Nothing else changes. (R167.) -/
def Obligations.ReleaseEventRemovesOnlyTheOldest : Prop :=
  ∀ (s : State) (r : Request) (n : Nat), s.acts → s.requests .releaseEvent r → (r.payload.getD 0 0).toNat = n →
    ∃ t, exec .releaseEvent s = .next t
      ∧ (∀ x rest, s.recorder.queue = x :: rest → x.number = n →
          answered { s with recorder := { s.recorder with queue := rest } } t r .done
            [BitVec.ofNat 16 rest.length, BitVec.ofNat 16 ((rest.head?.map EventRecord.number).getD 0)])
      ∧ ((s.recorder.queue = [] ∨ ∃ x rest, s.recorder.queue = x :: rest ∧ x.number ≠ n) →
          answered s t r .stale
            [BitVec.ofNat 16 s.recorder.queue.length,
             BitVec.ofNat 16 ((s.recorder.queue.head?.map EventRecord.number).getD 0)])

/-- For every state that acts whose next request is a SET_ECHO: a payload word above 1 is answered MALFORMED. Between
two cells' work (no cell accepted, or none of the accepted cell's own work begun: log entry 22), 1 is answered
REFUSED_STATE while a feeder is CHECKING, INJECTING or RELEASING and else turns echo on with DONE, and 0 turns it off
with DONE; nothing else changes. While a cell is being worked the request stays in flight, its setting kept until that
cell's end, and nothing else changes; there, the tests and the change are made against the states the work left. (R23
(log entry 22), R171.) -/
def Obligations.SetEchoWaitsForTheCell : Prop :=
  (∀ (s : State) (r : Request), s.acts → s.requests .setEcho r →
      ∃ t, exec .setEcho s = .next t
        ∧ (1 < (r.payload.getD 0 0).toNat → answered s t r .malformed [])
        ∧ ((∀ w, s.work = some w → w.stage = .accepted) → (r.payload.getD 0 0).toNat = 0 →
            answered { s with egress := { s.egress with echo := false } } t r .done [])
        ∧ ((∀ w, s.work = some w → w.stage = .accepted) → (r.payload.getD 0 0).toNat = 1 →
            (∀ f, (s.engines.get f).state ∉ [FeederState.checking, .injecting, .releasing]) →
            answered { s with egress := { s.egress with echo := true } } t r .done [])
        ∧ ((∀ w, s.work = some w → w.stage = .accepted) → (r.payload.getD 0 0).toNat = 1 →
            (∃ f, (s.engines.get f).state ∈ [FeederState.checking, .injecting, .releasing]) →
            answered s t r .refusedState [])
        ∧ ((∃ w, s.work = some w ∧ w.stage ≠ .accepted) → (r.payload.getD 0 0).toNat ≤ 1 →
            t = { s with
              ingress := t.ingress
              management :=
                { s.management with
                  engine := .executing, inFlight := some r, carriedOut := true
                  echoWaits := some (decide ((r.payload.getD 0 0).toNat = 1)) } }
            ∧ t.ingress = { s.ingress with
                queue := if s.management.engine = .idle then s.ingress.queue.tail else s.ingress.queue }))
    ∧ ∀ (s : State) (w : Work) (r : Request) (on : Bool), s.standsIn w .engined → s.management.engine = .executing →
        s.management.echoWaits = some on → s.management.inFlight = some r → s.maps.pending = none →
        s.loader.state ≠ .waiting →
        (on = true → (∃ f, (s.engines.get f).state ∈ [FeederState.checking, .injecting, .releasing]) →
            s.finishWork.egress.echo = s.egress.echo)
        ∧ ((on = false ∨ ∀ f, (s.engines.get f).state ∉ [FeederState.checking, .injecting, .releasing]) →
            s.finishWork.egress.echo = on)

/-- For every state that acts: a SAVE_IMAGE takes the engine to SAVING and the loader to WRITING with the page writes
of the active bank's image, and changes nothing else; an acknowledged page stands in the memory and the next write
begins, and with the last one the loader is IDLE and the request is answered DONE; an unacknowledged page ends the
save with WRITE_FAILED, the memory as the pages acknowledged before left it (the model's reading, log entry 13). (R186
(log entry 13), R194.) -/
def Obligations.SaveImageWritesPageByPage : Prop :=
  (∀ (s : State) (r : Request), s.acts → s.requests .saveImage r →
      ∃ t, exec .saveImage s = .next t
        ∧ t = { s with
            ingress := { s.ingress with
              queue := if s.management.engine = .idle then s.ingress.queue.tail else s.ingress.queue }
            management := { s.management with engine := .saving, inFlight := some r, carriedOut := true }
            loader := { s.loader with state := .writing, writes := s.tables.active.saveWrites } })
    ∧ (∀ (s : State) (x : PageWrite) (rest : List PageWrite), s.acts → s.loader.state = .writing →
        s.loader.writes = x :: rest → rest ≠ [] →
        exec .savePageAck s = .next
          { s with memory := s.memory.writeFrom x.address x.bytes, loader := { s.loader with writes := rest } })
    ∧ (∀ (s : State) (x : PageWrite) (r : Request), s.acts → s.loader.state = .writing → s.loader.writes = [x] →
        s.management.engine = .saving → s.management.inFlight = some r →
        ∃ t, exec .savePageAck s = .next t
          ∧ answered
              { s with
                memory := s.memory.writeFrom x.address x.bytes
                loader := { s.loader with state := .idle, writes := [] } }
              t r .done [])
    ∧ ∀ (s : State) (r : Request), s.acts → s.loader.state = .writing → s.management.engine = .saving →
        s.management.inFlight = some r →
        ∃ t, exec .savePollTimeout s = .next t
          ∧ answered { s with loader := { s.loader with state := .idle, writes := [] } } t r .writeFailed []

/-- For every state that acts whose next request r is a DEVICE_RESET: it is carried out. With fewer than two buffered
replies its DONE reply with an empty payload joins the buffer and the engine is EXECUTING with r still in flight; with
two it is held in WAIT_REPLY, r in flight; the engine takes no further entry; the queue loses its head where the
engine was IDLE; where the reply joined and the link was free, the link begins what goes next, a waiting DRIVE cell
before the oldest reply. Nothing else changes. (R187, R169, R170, R20, R171.) -/
def Obligations.DeviceResetStaysInFlight : Prop :=
  ∀ (s : State) (r : Request), s.acts → s.requests .deviceReset r →
    ∃ (t : State) (x : Reply), exec .deviceReset s = .next t ∧ t.nextRequest = none
      ∧ x = { tag := r.tag, result := .done, payload := [], answersReset := true }
      ∧ t = { s with
          ingress := { s.ingress with
            queue := if s.management.engine = .idle then s.ingress.queue.tail else s.ingress.queue }
          management :=
            { s.management with
              engine := if s.management.replies.length < 2 then .executing else .waitReply
              inFlight := some r
              held := if s.management.replies.length < 2 then s.management.held else some x
              replies :=
                if s.management.replies.length < 2 then s.management.replies ++ [x] else s.management.replies
              carriedOut := true
              echoWaits := none }
          egress :=
            if s.egress.onLink = none ∧ s.management.replies.length < 2 then
              { s.egress with
                waiting := none
                onLink := nextSent s.egress.waiting (s.management.replies ++ [x]) s.maps.epoch s.flags.attention }
            else s.egress }

/-- For every state out of reset in which the management reset is due (the field due is the model's, log entry 4):
MANAGEMENT_RESET leaves link DOWN with counters 0 and an empty queue, A_ref at the active NOMINAL_PEAK, the monitor,
verifier and engine at their reset values, E at 0 with no reading and nothing HOT (the effective levels aside, log
entry 6), the egress timer at CELL_PERIOD with last sequence 255 and echo off, epoch 0 with an empty map and every
check record at cell 0, the active bank kept and the shadow bank a copy of it, the closed records and next number kept
with no record open, the report masks kept, nothing due and no cell being worked, and then auto-enlist made from the
kept bank: the named feeders ENLISTING under pending epoch 1 with FEEDER_CHANGE raised, every other feeder OFFLINE and
no other flag latched. (R188, R187 (log entry 4), R140, R59, R98 and R113, R123 (log entry 6), R126, R148 and R149,
R157, R168, R169, R20 and R22.) -/
def Obligations.ManagementResetKeepsConfigurationAndRecords : Prop :=
  ∀ s : State, s.inReset = false → s.due = some .managementReset →
    ∃ t, exec .managementReset s = .next t
      ∧ t.ingress = State.reset.ingress ∧ t.monitor = State.reset.monitor
      ∧ t.store.energy = 0 ∧ t.store.storeReadings = [] ∧ t.store.storeMean = none ∧ t.store.storeHot = false
      ∧ (∀ f, t.store.sinkReadings.get f = [] ∧ t.store.sinkMeans.get f = none ∧ t.store.sinkHot.get f = false)
      ∧ t.verifier = State.reset.verifier ∧ t.management = State.reset.management
      ∧ t.tracker = { State.reset.tracker with amplitudeRef := s.tables.active.nominalPeak }
      ∧ t.egress = { State.reset.egress with cellTimer := some s.tables.active.cellPeriod }
      ∧ t.recorder = { s.recorder with openRecord := none }
      ∧ t.tables = { active := s.tables.active, shadow := s.tables.active }
      ∧ t.maps.epoch = 0 ∧ t.maps.active = [] ∧ t.maps.age = 0 ∧ t.loader.state = .idle
      ∧ (∀ f, t.maps.checks.get f = ⟨0, ⟨0, 0, 0⟩⟩)
      ∧ t.flags.reported = s.flags.reported ∧ t.memory = s.memory ∧ t.straps = s.straps ∧ t.pending = s.pending
      ∧ t.inReset = false ∧ t.due = none ∧ t.work = none
      ∧ (∀ f : Feeder, t.engines.get f
          = if s.tables.active.autoEnlist.testBit f.number then { Engine.reset with state := .enlisting }
            else Engine.reset)
      ∧ (s.tables.active.autoEnlist % 16 = 0 →
          t.maps.pending = none ∧ t.flags.latched = 0 ∧ t.flags.changed = ⟨false, false, false, false⟩)
      ∧ (s.tables.active.autoEnlist % 16 ≠ 0 →
          t.maps.pending = some
            { epoch := 1, feeders := Feeder.all.filter fun f => s.tables.active.autoEnlist.testBit f.number }
          ∧ t.flags.latched = 1#32 <<< 10
          ∧ ∀ f : Feeder, t.flags.changed.get f = s.tables.active.autoEnlist.testBit f.number)

/-- For every state that acts with the loader READING: a memory that does not answer gives ABSENT, one whose image
does not read or apply gives CORRUPT, one whose bank fails validation gives INVALID, and each leaves both banks at the
defaults, IMAGE_FAULT latched, the loader IDLE with that outcome and nothing else changed (the defaults name no feeder
to enlist); an image that passes leaves the bank it makes in the shadow bank and the loader WAITING, its commit due
(the model's field, log entry 4) where no cell is being worked (log entry 22) in ACQUIRING or NORMAL. A memory
programmed from outside (the model's operand, log entry 7) answers with those bytes. An image does not read or apply
exactly when word 0 is not 0x5A3C, word 1 is not 1, the count n of word 2 exceeds 2,048, word n + 3 is not the CRC of
the words before it, or words 3 to n + 2 are not a sequence of whole records each known: a WRITE_SETTING of a device
item 1 to 25 with target 15 or of a feeder item 32 to 45 with target 0 to 3 and L 3, a LOAD_ENVELOPE or LOAD_RESPONSE
whose target and L the command table allows, the latter with classes 0 to 15 and mode codes 0 to 3. (R191 (log entries
4, 7 and 22), R192 (log entry 4), R193, R189, R16, R171.) -/
def Obligations.ImageReadDecidesTheLoad : Prop :=
  (∀ s : State, s.acts → s.loader.state = .reading →
      exec (.imageReadComplete .silent) s = .next
        { s with
          tables := { active := Bank.default, shadow := Bank.default }
          flags := { s.flags with latched := s.flags.latched ||| (1#32 <<< 9) }
          loader := { s.loader with state := .idle, outcome := some .absent } })
    ∧ (∀ s : State, s.acts → s.loader.state = .reading → s.memory.imageBank s.tables.shadow = none →
        exec (.imageReadComplete .stored) s = .next
          { s with
            tables := { active := Bank.default, shadow := Bank.default }
            flags := { s.flags with latched := s.flags.latched ||| (1#32 <<< 9) }
            loader := { s.loader with state := .idle, outcome := some .corrupt } })
    ∧ (∀ (s : State) (b : Bank), s.acts → s.loader.state = .reading →
        s.memory.imageBank s.tables.shadow = some b → b.fault ≠ none →
        exec (.imageReadComplete .stored) s = .next
          { s with
            tables := { active := Bank.default, shadow := Bank.default }
            flags := { s.flags with latched := s.flags.latched ||| (1#32 <<< 9) }
            loader := { s.loader with state := .idle, outcome := some .invalid } })
    ∧ (∀ (s : State) (b : Bank), s.acts → s.loader.state = .reading →
        s.memory.imageBank s.tables.shadow = some b → b.fault = none →
        exec (.imageReadComplete .stored) s = .next
          { s with
            tables := { s.tables with shadow := b }
            loader := { s.loader with state := .waiting }
            due := if (s.work.all fun w => decide (w.stage = .accepted)) = true
                  ∧ (s.monitor.sag = .acquiring ∨ s.monitor.sag = .normal) then some .imageCommit
              else none })
    ∧ ∀ (s : State) (bytes : List Byte), s.acts → s.loader.state = .reading →
        exec (.imageReadComplete (.replaced bytes)) s
          = exec (.imageReadComplete .stored) { s with memory := Memory.ofBytes bytes }
    ∧ ∀ (m : Memory) (base : Bank) (n : Nat), n = (m.readWord 2).toNat →
        (m.imageBank base = none ↔
          m.readWord 0 ≠ 0x5A3C ∨ m.readWord 1 ≠ 1 ∨ 2048 < n
          ∨ m.readWord (n + 3) ≠ crc16 ((List.range (n + 3)).map m.readWord)
          ∨ ¬ ∃ records : List (Word × List Word),
              ((List.range n).map fun i => m.readWord (i + 3))
                  = records.flatMap (fun x => x.1 :: BitVec.ofNat 16 x.2.length :: x.2)
              ∧ ∀ x ∈ records, x.2.length < 65536 ∧ recordKnown x.1 x.2)

/-- For every state out of reset: where the image's commit is due with no cell being worked, and where the loader is
WAITING with a cell standing at the end of its engines' work in ACQUIRING or NORMAL, no change pending and no commit
deferred: IMAGE_COMMIT leaves no cell being worked (it carries out what is due, log entry 4, or carries the cell's
work to its end, log entry 2: the model's choices), the active bank a copy of the shadow bank, the loader IDLE with
outcome LOADED, every history empty and A_ref clamped into the new band; the feeders AUTO_ENLIST names are ENLISTING
under pending epoch 1, FEEDER_CHANGE raised for each that was OFFLINE, and every other feeder stands. (R192 (log
entries 2 and 4), R193, R185, R140.) -/
def Obligations.ImageCommitFinishesTheLoad : Prop :=
  ∀ s : State, s.inReset = false →
    ((s.due = some .imageCommit ∧ s.work = none)
      ∨ (∃ w, s.standsIn w .engined ∧ s.loader.state = .waiting ∧ (s.monitor.sag = .acquiring ∨ s.monitor.sag = .normal)
          ∧ s.maps.pending = none ∧ s.management.engine ≠ .deferred)) →
    ∃ t, exec .imageCommit s = .next t ∧ t.work = none ∧ t.due = none
      ∧ t.tables = { active := s.tables.shadow, shadow := s.tables.shadow }
      ∧ t.loader.state = .idle ∧ t.loader.outcome = some .loaded
      ∧ (∀ f p, (t.verifier.histories.get f).get p = [])
      ∧ t.tracker.amplitudeRef = s.tables.shadow.clampAmplitude s.tracker.amplitudeRef
      ∧ (∀ f : Feeder, s.tables.shadow.autoEnlist.testBit f.number = true → (s.engines.get f).state = .offline →
          (t.engines.get f).state = .enlisting ∧ (t.engines.get f).gain = 0
          ∧ t.flags.latched.getLsbD 10 = true ∧ t.flags.changed.get f = true)
      ∧ (∀ f : Feeder, s.tables.shadow.autoEnlist.testBit f.number = false →
          (t.engines.get f).state = (s.engines.get f).state)
      ∧ (s.tables.shadow.autoEnlist % 16 ≠ 0 → t.maps.pending = some
          { epoch := 1, feeders := Feeder.all.filter fun f => s.tables.shadow.autoEnlist.testBit f.number })

/-- From every state in which each feeder's gain is at most 4096 and is 0 unless the feeder is INJECTING or RELEASING,
every step leads to such a state. (R88.) -/
def Obligations.EveryStepKeepsGainsSound : Prop :=
  ∀ s t : State, gainsSound s → step s = .next t → gainsSound t

/-- From every state in which each S_p is exactly the sum of the squares of the samples in phase p's window, every
step leads to such a state. (R42, R44.) -/
def Obligations.EveryStepKeepsWindowSumsExact : Prop :=
  ∀ s t : State, windowSumsExact s → step s = .next t → windowSumsExact t

/-- From every state in which the active bank passes validation, and the shadow bank passes too while a commit is
deferred, an image waits or its commit is due, every step leads to such a state. From every state in which every item
of both banks lies in its range of the settings catalogue, envelopes and Response Tables among them, and the requests
queued or in flight that are not tagged MALFORMED have a target and a length that R16 allows, every step leads to such
a state. (R175, R180, R192, R176, R61 and R64, R75 and R76, R178, R16.) -/
def Obligations.EveryStepKeepsBanksSound : Prop :=
  (∀ s t : State, banksSound s → step s = .next t → banksSound t)
    ∧ ∀ s t : State, tablesInCatalogue s → step s = .next t → tablesInCatalogue t

/-- From every state in which the active map holds exactly the slot-holding feeders in ascending order, the pending
map exactly those its states place in it, ENLISTING and RETIRING occur only while a change is pending, a RETIRING
feeder's prior state is STANDBY, SHED or LOCKOUT, and until the loader is done every feeder is OFFLINE with no change
pending, every step leads to such a state. (R125, R126, R127, R128, R131, R132, R193.) -/
def Obligations.EveryStepKeepsMapsSound : Prop :=
  ∀ s t : State, mapsSound s → step s = .next t → mapsSound t

/-- From every state in which A_ref lies within 875 to 1125 per mille of the active NOMINAL_PEAK, a cell being worked
reads the active bank unless a commit took effect since its acceptance, and until a load has ended the active bank is
the default one with no commit deferred, every step leads to such a state. (R37, R34, R185, R190.) -/
def Obligations.EveryStepKeepsAmplitudeInBand : Prop :=
  ∀ s t : State, amplitudeInBand s → step s = .next t → amplitudeInBand t

/-- From every state in which, between cells, a record is open exactly while the sag state is SAG or RECOVERING, and
while a cell is being worked the cell that ends the event still has its record open, every step leads to such a state.
(R158, R160, R161.) -/
def Obligations.EveryStepKeepsRecordSound : Prop :=
  ∀ s t : State, recordSound s → step s = .next t → recordSound t

/-- From every state in which the management queue holds at most 8 entries, the reply buffer 2, the record queue 16
and each link counter 65,535, index 31 is neither latched nor reported, and the serial memory is in its canonical
form, every step leads to such a state. (R15, R17, R150, R163, R170.) -/
def Obligations.EveryStepKeepsBoundsAndMemory : Prop :=
  ∀ s t : State, queuesBounded s ∧ flagsSound s ∧ memoryCanonical s → step s = .next t →
    queuesBounded t ∧ flagsSound t ∧ memoryCanonical t

/-- The state right after a power-on reset meets every one of the invariants that each step keeps. (R190, R188.) -/
def Obligations.InvariantsHoldAtReset : Prop :=
  gainsSound State.reset ∧ windowSumsExact State.reset ∧ banksSound State.reset ∧ amplitudeInBand State.reset
    ∧ mapsSound State.reset ∧ queuesBounded State.reset ∧ flagsSound State.reset ∧ memoryCanonical State.reset
    ∧ recordSound State.reset ∧ tablesInCatalogue State.reset

/-- For every bank whose items lie in the settings catalogue, every bank it is loaded over whose Response Tables hold
16 entries (R64), as those of both banks always do (EveryStepKeepsBanksSound), and every memory: once every page write
of the save has been acknowledged, the memory's image is read without a fault and applying its records gives exactly
the saved bank. It is decode of encode over the whole image format, records, CRC and pages. (R189, R191, R194, R64.)
-/
def Obligations.SavedImageLoadsBack : Prop :=
  ∀ (b base : Bank) (m : Memory), b.inCatalogue → (∀ f, (base.feeder f).response.length = 16) → m.wf = true →
    (writePages m b.saveWrites).imageBank base = some b

/-- For every bank whose items lie in the settings catalogue, every memory and every number k of page writes
acknowledged, at least one and not all of them: the memory then holds an image whose signature word is 0x0000 and
whose load has no bank to give, so its outcome is CORRUPT. (R194, R186, R191.) -/
def Obligations.InterruptedSaveIsCorrupt : Prop :=
  ∀ (b base : Bank) (m : Memory) (k : Nat), b.inCatalogue → m.wf = true → 1 ≤ k → k < b.saveWrites.length →
    (writePages m (b.saveWrites.take k)).readWord 0 = 0
      ∧ (writePages m (b.saveWrites.take k)).imageBank base = none
end

