-- ==== Sys2Proof/Laws/State.lean ====
section
/-! SUPPORT. One lemma for each field an update leaves alone, true by unfolding, so that no later proof unfolds a record update;
and, for the updates that choose, the fields they leave alone on every path. -/
namespace Sys2Proof.Machine

variable (s : State)

/-! ### State.count -/

@[simp] theorem State.count_tracker (k : LinkCounter) (n : Nat) : (s.count k n).tracker = s.tracker := rfl
@[simp] theorem State.count_monitor (k : LinkCounter) (n : Nat) : (s.count k n).monitor = s.monitor := rfl
@[simp] theorem State.count_store (k : LinkCounter) (n : Nat) : (s.count k n).store = s.store := rfl
@[simp] theorem State.count_engines (k : LinkCounter) (n : Nat) : (s.count k n).engines = s.engines := rfl
@[simp] theorem State.count_verifier (k : LinkCounter) (n : Nat) : (s.count k n).verifier = s.verifier := rfl
@[simp] theorem State.count_flags (k : LinkCounter) (n : Nat) : (s.count k n).flags = s.flags := rfl
@[simp] theorem State.count_recorder (k : LinkCounter) (n : Nat) : (s.count k n).recorder = s.recorder := rfl
@[simp] theorem State.count_maps (k : LinkCounter) (n : Nat) : (s.count k n).maps = s.maps := rfl
@[simp] theorem State.count_tables (k : LinkCounter) (n : Nat) : (s.count k n).tables = s.tables := rfl
@[simp] theorem State.count_management (k : LinkCounter) (n : Nat) : (s.count k n).management = s.management := rfl
@[simp] theorem State.count_egress (k : LinkCounter) (n : Nat) : (s.count k n).egress = s.egress := rfl
@[simp] theorem State.count_loader (k : LinkCounter) (n : Nat) : (s.count k n).loader = s.loader := rfl
@[simp] theorem State.count_memory (k : LinkCounter) (n : Nat) : (s.count k n).memory = s.memory := rfl
@[simp] theorem State.count_straps (k : LinkCounter) (n : Nat) : (s.count k n).straps = s.straps := rfl
@[simp] theorem State.count_inReset (k : LinkCounter) (n : Nat) : (s.count k n).inReset = s.inReset := rfl
@[simp] theorem State.count_work (k : LinkCounter) (n : Nat) : (s.count k n).work = s.work := rfl
@[simp] theorem State.count_came (k : LinkCounter) (n : Nat) : (s.count k n).came = s.came := rfl
@[simp] theorem State.count_due (k : LinkCounter) (n : Nat) : (s.count k n).due = s.due := rfl
@[simp] theorem State.count_pending (k : LinkCounter) (n : Nat) : (s.count k n).pending = s.pending := rfl

/-! ### State.latch -/

@[simp] theorem State.latch_ingress (k : DeviceFlag) : (s.latch k).ingress = s.ingress := rfl
@[simp] theorem State.latch_tracker (k : DeviceFlag) : (s.latch k).tracker = s.tracker := rfl
@[simp] theorem State.latch_monitor (k : DeviceFlag) : (s.latch k).monitor = s.monitor := rfl
@[simp] theorem State.latch_store (k : DeviceFlag) : (s.latch k).store = s.store := rfl
@[simp] theorem State.latch_engines (k : DeviceFlag) : (s.latch k).engines = s.engines := rfl
@[simp] theorem State.latch_verifier (k : DeviceFlag) : (s.latch k).verifier = s.verifier := rfl
@[simp] theorem State.latch_recorder (k : DeviceFlag) : (s.latch k).recorder = s.recorder := rfl
@[simp] theorem State.latch_maps (k : DeviceFlag) : (s.latch k).maps = s.maps := rfl
@[simp] theorem State.latch_tables (k : DeviceFlag) : (s.latch k).tables = s.tables := rfl
@[simp] theorem State.latch_management (k : DeviceFlag) : (s.latch k).management = s.management := rfl
@[simp] theorem State.latch_egress (k : DeviceFlag) : (s.latch k).egress = s.egress := rfl
@[simp] theorem State.latch_loader (k : DeviceFlag) : (s.latch k).loader = s.loader := rfl
@[simp] theorem State.latch_memory (k : DeviceFlag) : (s.latch k).memory = s.memory := rfl
@[simp] theorem State.latch_straps (k : DeviceFlag) : (s.latch k).straps = s.straps := rfl
@[simp] theorem State.latch_inReset (k : DeviceFlag) : (s.latch k).inReset = s.inReset := rfl
@[simp] theorem State.latch_work (k : DeviceFlag) : (s.latch k).work = s.work := rfl
@[simp] theorem State.latch_came (k : DeviceFlag) : (s.latch k).came = s.came := rfl
@[simp] theorem State.latch_due (k : DeviceFlag) : (s.latch k).due = s.due := rfl
@[simp] theorem State.latch_pending (k : DeviceFlag) : (s.latch k).pending = s.pending := rfl

/-! ### State.take -/

@[simp] theorem State.take_tracker (r : Request) : (s.take r).tracker = s.tracker := rfl
@[simp] theorem State.take_monitor (r : Request) : (s.take r).monitor = s.monitor := rfl
@[simp] theorem State.take_store (r : Request) : (s.take r).store = s.store := rfl
@[simp] theorem State.take_engines (r : Request) : (s.take r).engines = s.engines := rfl
@[simp] theorem State.take_verifier (r : Request) : (s.take r).verifier = s.verifier := rfl
@[simp] theorem State.take_flags (r : Request) : (s.take r).flags = s.flags := rfl
@[simp] theorem State.take_recorder (r : Request) : (s.take r).recorder = s.recorder := rfl
@[simp] theorem State.take_maps (r : Request) : (s.take r).maps = s.maps := rfl
@[simp] theorem State.take_tables (r : Request) : (s.take r).tables = s.tables := rfl
@[simp] theorem State.take_egress (r : Request) : (s.take r).egress = s.egress := rfl
@[simp] theorem State.take_loader (r : Request) : (s.take r).loader = s.loader := rfl
@[simp] theorem State.take_memory (r : Request) : (s.take r).memory = s.memory := rfl
@[simp] theorem State.take_straps (r : Request) : (s.take r).straps = s.straps := rfl
@[simp] theorem State.take_inReset (r : Request) : (s.take r).inReset = s.inReset := rfl
@[simp] theorem State.take_work (r : Request) : (s.take r).work = s.work := rfl
@[simp] theorem State.take_came (r : Request) : (s.take r).came = s.came := rfl
@[simp] theorem State.take_due (r : Request) : (s.take r).due = s.due := rfl
@[simp] theorem State.take_pending (r : Request) : (s.take r).pending = s.pending := rfl

/-! ### State.moveEngines -/

@[simp] theorem State.moveEngines_ingress (after : PerFeeder Engine) : (s.moveEngines after).ingress = s.ingress := rfl
@[simp] theorem State.moveEngines_tracker (after : PerFeeder Engine) : (s.moveEngines after).tracker = s.tracker := rfl
@[simp] theorem State.moveEngines_monitor (after : PerFeeder Engine) : (s.moveEngines after).monitor = s.monitor := rfl
@[simp] theorem State.moveEngines_store (after : PerFeeder Engine) : (s.moveEngines after).store = s.store := rfl
@[simp] theorem State.moveEngines_flags (after : PerFeeder Engine) : (s.moveEngines after).flags = s.flags := rfl
@[simp] theorem State.moveEngines_recorder (after : PerFeeder Engine) : (s.moveEngines after).recorder = s.recorder := rfl
@[simp] theorem State.moveEngines_tables (after : PerFeeder Engine) : (s.moveEngines after).tables = s.tables := rfl
@[simp] theorem State.moveEngines_management (after : PerFeeder Engine) : (s.moveEngines after).management = s.management := rfl
@[simp] theorem State.moveEngines_egress (after : PerFeeder Engine) : (s.moveEngines after).egress = s.egress := rfl
@[simp] theorem State.moveEngines_loader (after : PerFeeder Engine) : (s.moveEngines after).loader = s.loader := rfl
@[simp] theorem State.moveEngines_memory (after : PerFeeder Engine) : (s.moveEngines after).memory = s.memory := rfl
@[simp] theorem State.moveEngines_straps (after : PerFeeder Engine) : (s.moveEngines after).straps = s.straps := rfl
@[simp] theorem State.moveEngines_inReset (after : PerFeeder Engine) : (s.moveEngines after).inReset = s.inReset := rfl
@[simp] theorem State.moveEngines_work (after : PerFeeder Engine) : (s.moveEngines after).work = s.work := rfl
@[simp] theorem State.moveEngines_came (after : PerFeeder Engine) : (s.moveEngines after).came = s.came := rfl
@[simp] theorem State.moveEngines_due (after : PerFeeder Engine) : (s.moveEngines after).due = s.due := rfl
@[simp] theorem State.moveEngines_pending (after : PerFeeder Engine) : (s.moveEngines after).pending = s.pending := rfl

/-! ### State.moveEnginesRaising -/

@[simp] theorem State.moveEnginesRaising_ingress (after : PerFeeder Engine) : (s.moveEnginesRaising after).ingress = s.ingress := rfl
@[simp] theorem State.moveEnginesRaising_tracker (after : PerFeeder Engine) : (s.moveEnginesRaising after).tracker = s.tracker := rfl
@[simp] theorem State.moveEnginesRaising_monitor (after : PerFeeder Engine) : (s.moveEnginesRaising after).monitor = s.monitor := rfl
@[simp] theorem State.moveEnginesRaising_store (after : PerFeeder Engine) : (s.moveEnginesRaising after).store = s.store := rfl
@[simp] theorem State.moveEnginesRaising_recorder (after : PerFeeder Engine) : (s.moveEnginesRaising after).recorder = s.recorder := rfl
@[simp] theorem State.moveEnginesRaising_tables (after : PerFeeder Engine) : (s.moveEnginesRaising after).tables = s.tables := rfl
@[simp] theorem State.moveEnginesRaising_management (after : PerFeeder Engine) : (s.moveEnginesRaising after).management = s.management := rfl
@[simp] theorem State.moveEnginesRaising_egress (after : PerFeeder Engine) : (s.moveEnginesRaising after).egress = s.egress := rfl
@[simp] theorem State.moveEnginesRaising_loader (after : PerFeeder Engine) : (s.moveEnginesRaising after).loader = s.loader := rfl
@[simp] theorem State.moveEnginesRaising_memory (after : PerFeeder Engine) : (s.moveEnginesRaising after).memory = s.memory := rfl
@[simp] theorem State.moveEnginesRaising_straps (after : PerFeeder Engine) : (s.moveEnginesRaising after).straps = s.straps := rfl
@[simp] theorem State.moveEnginesRaising_inReset (after : PerFeeder Engine) : (s.moveEnginesRaising after).inReset = s.inReset := rfl
@[simp] theorem State.moveEnginesRaising_work (after : PerFeeder Engine) : (s.moveEnginesRaising after).work = s.work := rfl
@[simp] theorem State.moveEnginesRaising_came (after : PerFeeder Engine) : (s.moveEnginesRaising after).came = s.came := rfl
@[simp] theorem State.moveEnginesRaising_due (after : PerFeeder Engine) : (s.moveEnginesRaising after).due = s.due := rfl
@[simp] theorem State.moveEnginesRaising_pending (after : PerFeeder Engine) : (s.moveEnginesRaising after).pending = s.pending := rfl

/-! ### State.restartChecks -/

@[simp] theorem State.restartChecks_ingress : (s.restartChecks).ingress = s.ingress := rfl
@[simp] theorem State.restartChecks_tracker : (s.restartChecks).tracker = s.tracker := rfl
@[simp] theorem State.restartChecks_monitor : (s.restartChecks).monitor = s.monitor := rfl
@[simp] theorem State.restartChecks_store : (s.restartChecks).store = s.store := rfl
@[simp] theorem State.restartChecks_engines : (s.restartChecks).engines = s.engines := rfl
@[simp] theorem State.restartChecks_verifier : (s.restartChecks).verifier = s.verifier := rfl
@[simp] theorem State.restartChecks_flags : (s.restartChecks).flags = s.flags := rfl
@[simp] theorem State.restartChecks_recorder : (s.restartChecks).recorder = s.recorder := rfl
@[simp] theorem State.restartChecks_tables : (s.restartChecks).tables = s.tables := rfl
@[simp] theorem State.restartChecks_management : (s.restartChecks).management = s.management := rfl
@[simp] theorem State.restartChecks_egress : (s.restartChecks).egress = s.egress := rfl
@[simp] theorem State.restartChecks_loader : (s.restartChecks).loader = s.loader := rfl
@[simp] theorem State.restartChecks_memory : (s.restartChecks).memory = s.memory := rfl
@[simp] theorem State.restartChecks_straps : (s.restartChecks).straps = s.straps := rfl
@[simp] theorem State.restartChecks_inReset : (s.restartChecks).inReset = s.inReset := rfl
@[simp] theorem State.restartChecks_work : (s.restartChecks).work = s.work := rfl
@[simp] theorem State.restartChecks_came : (s.restartChecks).came = s.came := rfl
@[simp] theorem State.restartChecks_due : (s.restartChecks).due = s.due := rfl
@[simp] theorem State.restartChecks_pending : (s.restartChecks).pending = s.pending := rfl

/-! ### State.announce -/

@[simp] theorem State.announce_ingress (epoch : BitVec 4) (map : List Feeder) : (s.announce epoch map).ingress = s.ingress := rfl
@[simp] theorem State.announce_tracker (epoch : BitVec 4) (map : List Feeder) : (s.announce epoch map).tracker = s.tracker := rfl
@[simp] theorem State.announce_monitor (epoch : BitVec 4) (map : List Feeder) : (s.announce epoch map).monitor = s.monitor := rfl
@[simp] theorem State.announce_store (epoch : BitVec 4) (map : List Feeder) : (s.announce epoch map).store = s.store := rfl
@[simp] theorem State.announce_engines (epoch : BitVec 4) (map : List Feeder) : (s.announce epoch map).engines = s.engines := rfl
@[simp] theorem State.announce_verifier (epoch : BitVec 4) (map : List Feeder) : (s.announce epoch map).verifier = s.verifier := rfl
@[simp] theorem State.announce_flags (epoch : BitVec 4) (map : List Feeder) : (s.announce epoch map).flags = s.flags := rfl
@[simp] theorem State.announce_recorder (epoch : BitVec 4) (map : List Feeder) : (s.announce epoch map).recorder = s.recorder := rfl
@[simp] theorem State.announce_tables (epoch : BitVec 4) (map : List Feeder) : (s.announce epoch map).tables = s.tables := rfl
@[simp] theorem State.announce_management (epoch : BitVec 4) (map : List Feeder) : (s.announce epoch map).management = s.management := rfl
@[simp] theorem State.announce_egress (epoch : BitVec 4) (map : List Feeder) : (s.announce epoch map).egress = s.egress := rfl
@[simp] theorem State.announce_loader (epoch : BitVec 4) (map : List Feeder) : (s.announce epoch map).loader = s.loader := rfl
@[simp] theorem State.announce_memory (epoch : BitVec 4) (map : List Feeder) : (s.announce epoch map).memory = s.memory := rfl
@[simp] theorem State.announce_straps (epoch : BitVec 4) (map : List Feeder) : (s.announce epoch map).straps = s.straps := rfl
@[simp] theorem State.announce_inReset (epoch : BitVec 4) (map : List Feeder) : (s.announce epoch map).inReset = s.inReset := rfl
@[simp] theorem State.announce_work (epoch : BitVec 4) (map : List Feeder) : (s.announce epoch map).work = s.work := rfl
@[simp] theorem State.announce_came (epoch : BitVec 4) (map : List Feeder) : (s.announce epoch map).came = s.came := rfl
@[simp] theorem State.announce_due (epoch : BitVec 4) (map : List Feeder) : (s.announce epoch map).due = s.due := rfl
@[simp] theorem State.announce_pending (epoch : BitVec 4) (map : List Feeder) : (s.announce epoch map).pending = s.pending := rfl

/-! ### State.commitBank -/

@[simp] theorem State.commitBank_ingress : (s.commitBank).ingress = s.ingress := rfl
@[simp] theorem State.commitBank_store : (s.commitBank).store = s.store := rfl
@[simp] theorem State.commitBank_engines : (s.commitBank).engines = s.engines := rfl
@[simp] theorem State.commitBank_flags : (s.commitBank).flags = s.flags := rfl
@[simp] theorem State.commitBank_recorder : (s.commitBank).recorder = s.recorder := rfl
@[simp] theorem State.commitBank_management : (s.commitBank).management = s.management := rfl
@[simp] theorem State.commitBank_egress : (s.commitBank).egress = s.egress := rfl
@[simp] theorem State.commitBank_loader : (s.commitBank).loader = s.loader := rfl
@[simp] theorem State.commitBank_memory : (s.commitBank).memory = s.memory := rfl
@[simp] theorem State.commitBank_straps : (s.commitBank).straps = s.straps := rfl
@[simp] theorem State.commitBank_inReset : (s.commitBank).inReset = s.inReset := rfl
@[simp] theorem State.commitBank_came : (s.commitBank).came = s.came := rfl
@[simp] theorem State.commitBank_due : (s.commitBank).due = s.due := rfl
@[simp] theorem State.commitBank_pending : (s.commitBank).pending = s.pending := rfl

/-! ### State.note -/

@[simp] theorem State.note_ingress (x : Occurrence) : (s.note x).ingress = s.ingress := rfl
@[simp] theorem State.note_tracker (x : Occurrence) : (s.note x).tracker = s.tracker := rfl
@[simp] theorem State.note_monitor (x : Occurrence) : (s.note x).monitor = s.monitor := rfl
@[simp] theorem State.note_store (x : Occurrence) : (s.note x).store = s.store := rfl
@[simp] theorem State.note_engines (x : Occurrence) : (s.note x).engines = s.engines := rfl
@[simp] theorem State.note_verifier (x : Occurrence) : (s.note x).verifier = s.verifier := rfl
@[simp] theorem State.note_flags (x : Occurrence) : (s.note x).flags = s.flags := rfl
@[simp] theorem State.note_recorder (x : Occurrence) : (s.note x).recorder = s.recorder := rfl
@[simp] theorem State.note_maps (x : Occurrence) : (s.note x).maps = s.maps := rfl
@[simp] theorem State.note_tables (x : Occurrence) : (s.note x).tables = s.tables := rfl
@[simp] theorem State.note_management (x : Occurrence) : (s.note x).management = s.management := rfl
@[simp] theorem State.note_egress (x : Occurrence) : (s.note x).egress = s.egress := rfl
@[simp] theorem State.note_loader (x : Occurrence) : (s.note x).loader = s.loader := rfl
@[simp] theorem State.note_memory (x : Occurrence) : (s.note x).memory = s.memory := rfl
@[simp] theorem State.note_straps (x : Occurrence) : (s.note x).straps = s.straps := rfl
@[simp] theorem State.note_inReset (x : Occurrence) : (s.note x).inReset = s.inReset := rfl
@[simp] theorem State.note_work (x : Occurrence) : (s.note x).work = s.work := rfl
@[simp] theorem State.note_due (x : Occurrence) : (s.note x).due = s.due := rfl
@[simp] theorem State.note_pending (x : Occurrence) : (s.note x).pending = s.pending := rfl

/-! ### State.freeLink -/

@[simp] theorem State.freeLink_ingress : (s.freeLink).ingress = s.ingress := rfl
@[simp] theorem State.freeLink_tracker : (s.freeLink).tracker = s.tracker := rfl
@[simp] theorem State.freeLink_monitor : (s.freeLink).monitor = s.monitor := rfl
@[simp] theorem State.freeLink_store : (s.freeLink).store = s.store := rfl
@[simp] theorem State.freeLink_engines : (s.freeLink).engines = s.engines := rfl
@[simp] theorem State.freeLink_verifier : (s.freeLink).verifier = s.verifier := rfl
@[simp] theorem State.freeLink_flags : (s.freeLink).flags = s.flags := rfl
@[simp] theorem State.freeLink_recorder : (s.freeLink).recorder = s.recorder := rfl
@[simp] theorem State.freeLink_maps : (s.freeLink).maps = s.maps := rfl
@[simp] theorem State.freeLink_tables : (s.freeLink).tables = s.tables := rfl
@[simp] theorem State.freeLink_management : (s.freeLink).management = s.management := rfl
@[simp] theorem State.freeLink_loader : (s.freeLink).loader = s.loader := rfl
@[simp] theorem State.freeLink_memory : (s.freeLink).memory = s.memory := rfl
@[simp] theorem State.freeLink_straps : (s.freeLink).straps = s.straps := rfl
@[simp] theorem State.freeLink_inReset : (s.freeLink).inReset = s.inReset := rfl
@[simp] theorem State.freeLink_work : (s.freeLink).work = s.work := rfl
@[simp] theorem State.freeLink_came : (s.freeLink).came = s.came := rfl
@[simp] theorem State.freeLink_due : (s.freeLink).due = s.due := rfl
@[simp] theorem State.freeLink_pending : (s.freeLink).pending = s.pending := rfl

/-! ### State.setOperator -/

@[simp] theorem State.setOperator_ingress (f : Feeder) : (s.setOperator f).ingress = s.ingress := rfl
@[simp] theorem State.setOperator_tracker (f : Feeder) : (s.setOperator f).tracker = s.tracker := rfl
@[simp] theorem State.setOperator_monitor (f : Feeder) : (s.setOperator f).monitor = s.monitor := rfl
@[simp] theorem State.setOperator_store (f : Feeder) : (s.setOperator f).store = s.store := rfl
@[simp] theorem State.setOperator_engines (f : Feeder) : (s.setOperator f).engines = s.engines := rfl
@[simp] theorem State.setOperator_verifier (f : Feeder) : (s.setOperator f).verifier = s.verifier := rfl
@[simp] theorem State.setOperator_recorder (f : Feeder) : (s.setOperator f).recorder = s.recorder := rfl
@[simp] theorem State.setOperator_maps (f : Feeder) : (s.setOperator f).maps = s.maps := rfl
@[simp] theorem State.setOperator_tables (f : Feeder) : (s.setOperator f).tables = s.tables := rfl
@[simp] theorem State.setOperator_management (f : Feeder) : (s.setOperator f).management = s.management := rfl
@[simp] theorem State.setOperator_egress (f : Feeder) : (s.setOperator f).egress = s.egress := rfl
@[simp] theorem State.setOperator_loader (f : Feeder) : (s.setOperator f).loader = s.loader := rfl
@[simp] theorem State.setOperator_memory (f : Feeder) : (s.setOperator f).memory = s.memory := rfl
@[simp] theorem State.setOperator_straps (f : Feeder) : (s.setOperator f).straps = s.straps := rfl
@[simp] theorem State.setOperator_inReset (f : Feeder) : (s.setOperator f).inReset = s.inReset := rfl
@[simp] theorem State.setOperator_work (f : Feeder) : (s.setOperator f).work = s.work := rfl
@[simp] theorem State.setOperator_came (f : Feeder) : (s.setOperator f).came = s.came := rfl
@[simp] theorem State.setOperator_due (f : Feeder) : (s.setOperator f).due = s.due := rfl
@[simp] theorem State.setOperator_pending (f : Feeder) : (s.setOperator f).pending = s.pending := rfl

/-! ### State.lockFeeder -/

@[simp] theorem State.lockFeeder_ingress (f : Feeder) : (s.lockFeeder f).ingress = s.ingress := rfl
@[simp] theorem State.lockFeeder_tracker (f : Feeder) : (s.lockFeeder f).tracker = s.tracker := rfl
@[simp] theorem State.lockFeeder_monitor (f : Feeder) : (s.lockFeeder f).monitor = s.monitor := rfl
@[simp] theorem State.lockFeeder_store (f : Feeder) : (s.lockFeeder f).store = s.store := rfl
@[simp] theorem State.lockFeeder_flags (f : Feeder) : (s.lockFeeder f).flags = s.flags := rfl
@[simp] theorem State.lockFeeder_recorder (f : Feeder) : (s.lockFeeder f).recorder = s.recorder := rfl
@[simp] theorem State.lockFeeder_tables (f : Feeder) : (s.lockFeeder f).tables = s.tables := rfl
@[simp] theorem State.lockFeeder_management (f : Feeder) : (s.lockFeeder f).management = s.management := rfl
@[simp] theorem State.lockFeeder_egress (f : Feeder) : (s.lockFeeder f).egress = s.egress := rfl
@[simp] theorem State.lockFeeder_loader (f : Feeder) : (s.lockFeeder f).loader = s.loader := rfl
@[simp] theorem State.lockFeeder_memory (f : Feeder) : (s.lockFeeder f).memory = s.memory := rfl
@[simp] theorem State.lockFeeder_straps (f : Feeder) : (s.lockFeeder f).straps = s.straps := rfl
@[simp] theorem State.lockFeeder_inReset (f : Feeder) : (s.lockFeeder f).inReset = s.inReset := rfl
@[simp] theorem State.lockFeeder_came (f : Feeder) : (s.lockFeeder f).came = s.came := rfl
@[simp] theorem State.lockFeeder_due (f : Feeder) : (s.lockFeeder f).due = s.due := rfl
@[simp] theorem State.lockFeeder_pending (f : Feeder) : (s.lockFeeder f).pending = s.pending := rfl

/-! ### State.lockoutExit -/

@[simp] theorem State.lockoutExit_ingress : (s.lockoutExit).ingress = s.ingress := rfl
@[simp] theorem State.lockoutExit_tracker : (s.lockoutExit).tracker = s.tracker := rfl
@[simp] theorem State.lockoutExit_monitor : (s.lockoutExit).monitor = s.monitor := rfl
@[simp] theorem State.lockoutExit_store : (s.lockoutExit).store = s.store := rfl
@[simp] theorem State.lockoutExit_flags : (s.lockoutExit).flags = s.flags := rfl
@[simp] theorem State.lockoutExit_recorder : (s.lockoutExit).recorder = s.recorder := rfl
@[simp] theorem State.lockoutExit_tables : (s.lockoutExit).tables = s.tables := rfl
@[simp] theorem State.lockoutExit_management : (s.lockoutExit).management = s.management := rfl
@[simp] theorem State.lockoutExit_egress : (s.lockoutExit).egress = s.egress := rfl
@[simp] theorem State.lockoutExit_loader : (s.lockoutExit).loader = s.loader := rfl
@[simp] theorem State.lockoutExit_memory : (s.lockoutExit).memory = s.memory := rfl
@[simp] theorem State.lockoutExit_straps : (s.lockoutExit).straps = s.straps := rfl
@[simp] theorem State.lockoutExit_inReset : (s.lockoutExit).inReset = s.inReset := rfl
@[simp] theorem State.lockoutExit_work : (s.lockoutExit).work = s.work := rfl
@[simp] theorem State.lockoutExit_came : (s.lockoutExit).came = s.came := rfl
@[simp] theorem State.lockoutExit_due : (s.lockoutExit).due = s.due := rfl
@[simp] theorem State.lockoutExit_pending : (s.lockoutExit).pending = s.pending := rfl

/-! ### State.defer -/

@[simp] theorem State.defer_ingress : (s.defer).ingress = s.ingress := rfl
@[simp] theorem State.defer_tracker : (s.defer).tracker = s.tracker := rfl
@[simp] theorem State.defer_monitor : (s.defer).monitor = s.monitor := rfl
@[simp] theorem State.defer_store : (s.defer).store = s.store := rfl
@[simp] theorem State.defer_engines : (s.defer).engines = s.engines := rfl
@[simp] theorem State.defer_verifier : (s.defer).verifier = s.verifier := rfl
@[simp] theorem State.defer_flags : (s.defer).flags = s.flags := rfl
@[simp] theorem State.defer_recorder : (s.defer).recorder = s.recorder := rfl
@[simp] theorem State.defer_maps : (s.defer).maps = s.maps := rfl
@[simp] theorem State.defer_tables : (s.defer).tables = s.tables := rfl
@[simp] theorem State.defer_egress : (s.defer).egress = s.egress := rfl
@[simp] theorem State.defer_loader : (s.defer).loader = s.loader := rfl
@[simp] theorem State.defer_memory : (s.defer).memory = s.memory := rfl
@[simp] theorem State.defer_straps : (s.defer).straps = s.straps := rfl
@[simp] theorem State.defer_inReset : (s.defer).inReset = s.inReset := rfl
@[simp] theorem State.defer_work : (s.defer).work = s.work := rfl
@[simp] theorem State.defer_came : (s.defer).came = s.came := rfl
@[simp] theorem State.defer_due : (s.defer).due = s.due := rfl
@[simp] theorem State.defer_pending : (s.defer).pending = s.pending := rfl

/-! ### State.barSync -/

@[simp] theorem State.barSync_ingress : (s.barSync).ingress = s.ingress := rfl
@[simp] theorem State.barSync_tracker : (s.barSync).tracker = s.tracker := rfl
@[simp] theorem State.barSync_monitor : (s.barSync).monitor = s.monitor := rfl
@[simp] theorem State.barSync_store : (s.barSync).store = s.store := rfl
@[simp] theorem State.barSync_engines : (s.barSync).engines = s.engines := rfl
@[simp] theorem State.barSync_verifier : (s.barSync).verifier = s.verifier := rfl
@[simp] theorem State.barSync_flags : (s.barSync).flags = s.flags := rfl
@[simp] theorem State.barSync_recorder : (s.barSync).recorder = s.recorder := rfl
@[simp] theorem State.barSync_maps : (s.barSync).maps = s.maps := rfl
@[simp] theorem State.barSync_tables : (s.barSync).tables = s.tables := rfl
@[simp] theorem State.barSync_management : (s.barSync).management = s.management := rfl
@[simp] theorem State.barSync_egress : (s.barSync).egress = s.egress := rfl
@[simp] theorem State.barSync_loader : (s.barSync).loader = s.loader := rfl
@[simp] theorem State.barSync_memory : (s.barSync).memory = s.memory := rfl
@[simp] theorem State.barSync_straps : (s.barSync).straps = s.straps := rfl
@[simp] theorem State.barSync_inReset : (s.barSync).inReset = s.inReset := rfl
@[simp] theorem State.barSync_came : (s.barSync).came = s.came := rfl
@[simp] theorem State.barSync_due : (s.barSync).due = s.due := rfl
@[simp] theorem State.barSync_pending : (s.barSync).pending = s.pending := rfl

/-! ### State.release -/

@[simp] theorem State.release_ingress (straps : BitVec 2) : (s.release straps).ingress = s.ingress := rfl
@[simp] theorem State.release_tracker (straps : BitVec 2) : (s.release straps).tracker = s.tracker := rfl
@[simp] theorem State.release_monitor (straps : BitVec 2) : (s.release straps).monitor = s.monitor := rfl
@[simp] theorem State.release_store (straps : BitVec 2) : (s.release straps).store = s.store := rfl
@[simp] theorem State.release_engines (straps : BitVec 2) : (s.release straps).engines = s.engines := rfl
@[simp] theorem State.release_verifier (straps : BitVec 2) : (s.release straps).verifier = s.verifier := rfl
@[simp] theorem State.release_flags (straps : BitVec 2) : (s.release straps).flags = s.flags := rfl
@[simp] theorem State.release_recorder (straps : BitVec 2) : (s.release straps).recorder = s.recorder := rfl
@[simp] theorem State.release_maps (straps : BitVec 2) : (s.release straps).maps = s.maps := rfl
@[simp] theorem State.release_tables (straps : BitVec 2) : (s.release straps).tables = s.tables := rfl
@[simp] theorem State.release_management (straps : BitVec 2) : (s.release straps).management = s.management := rfl
@[simp] theorem State.release_egress (straps : BitVec 2) : (s.release straps).egress = s.egress := rfl
@[simp] theorem State.release_memory (straps : BitVec 2) : (s.release straps).memory = s.memory := rfl
@[simp] theorem State.release_work (straps : BitVec 2) : (s.release straps).work = s.work := rfl
@[simp] theorem State.release_came (straps : BitVec 2) : (s.release straps).came = s.came := rfl
@[simp] theorem State.release_due (straps : BitVec 2) : (s.release straps).due = s.due := rfl
@[simp] theorem State.release_pending (straps : BitVec 2) : (s.release straps).pending = s.pending := rfl

/-! ### State.saveImage -/

@[simp] theorem State.saveImage_ingress : (s.saveImage).ingress = s.ingress := rfl
@[simp] theorem State.saveImage_tracker : (s.saveImage).tracker = s.tracker := rfl
@[simp] theorem State.saveImage_monitor : (s.saveImage).monitor = s.monitor := rfl
@[simp] theorem State.saveImage_store : (s.saveImage).store = s.store := rfl
@[simp] theorem State.saveImage_engines : (s.saveImage).engines = s.engines := rfl
@[simp] theorem State.saveImage_verifier : (s.saveImage).verifier = s.verifier := rfl
@[simp] theorem State.saveImage_flags : (s.saveImage).flags = s.flags := rfl
@[simp] theorem State.saveImage_recorder : (s.saveImage).recorder = s.recorder := rfl
@[simp] theorem State.saveImage_maps : (s.saveImage).maps = s.maps := rfl
@[simp] theorem State.saveImage_tables : (s.saveImage).tables = s.tables := rfl
@[simp] theorem State.saveImage_egress : (s.saveImage).egress = s.egress := rfl
@[simp] theorem State.saveImage_memory : (s.saveImage).memory = s.memory := rfl
@[simp] theorem State.saveImage_straps : (s.saveImage).straps = s.straps := rfl
@[simp] theorem State.saveImage_inReset : (s.saveImage).inReset = s.inReset := rfl
@[simp] theorem State.saveImage_work : (s.saveImage).work = s.work := rfl
@[simp] theorem State.saveImage_came : (s.saveImage).came = s.came := rfl
@[simp] theorem State.saveImage_due : (s.saveImage).due = s.due := rfl
@[simp] theorem State.saveImage_pending : (s.saveImage).pending = s.pending := rfl

/-! ### State.growOlder -/

@[simp] theorem State.growOlder_ingress : (s.growOlder).ingress = s.ingress := rfl
@[simp] theorem State.growOlder_tracker : (s.growOlder).tracker = s.tracker := rfl
@[simp] theorem State.growOlder_monitor : (s.growOlder).monitor = s.monitor := rfl
@[simp] theorem State.growOlder_store : (s.growOlder).store = s.store := rfl
@[simp] theorem State.growOlder_engines : (s.growOlder).engines = s.engines := rfl
@[simp] theorem State.growOlder_verifier : (s.growOlder).verifier = s.verifier := rfl
@[simp] theorem State.growOlder_flags : (s.growOlder).flags = s.flags := rfl
@[simp] theorem State.growOlder_recorder : (s.growOlder).recorder = s.recorder := rfl
@[simp] theorem State.growOlder_maps : (s.growOlder).maps = s.maps := rfl
@[simp] theorem State.growOlder_tables : (s.growOlder).tables = s.tables := rfl
@[simp] theorem State.growOlder_egress : (s.growOlder).egress = s.egress := rfl
@[simp] theorem State.growOlder_loader : (s.growOlder).loader = s.loader := rfl
@[simp] theorem State.growOlder_memory : (s.growOlder).memory = s.memory := rfl
@[simp] theorem State.growOlder_straps : (s.growOlder).straps = s.straps := rfl
@[simp] theorem State.growOlder_inReset : (s.growOlder).inReset = s.inReset := rfl
@[simp] theorem State.growOlder_work : (s.growOlder).work = s.work := rfl
@[simp] theorem State.growOlder_came : (s.growOlder).came = s.came := rfl
@[simp] theorem State.growOlder_due : (s.growOlder).due = s.due := rfl
@[simp] theorem State.growOlder_pending : (s.growOlder).pending = s.pending := rfl

/-! ### State.chooseNext -/

@[simp] theorem State.chooseNext_ingress : (s.chooseNext).ingress = s.ingress := rfl
@[simp] theorem State.chooseNext_tracker : (s.chooseNext).tracker = s.tracker := rfl
@[simp] theorem State.chooseNext_monitor : (s.chooseNext).monitor = s.monitor := rfl
@[simp] theorem State.chooseNext_store : (s.chooseNext).store = s.store := rfl
@[simp] theorem State.chooseNext_engines : (s.chooseNext).engines = s.engines := rfl
@[simp] theorem State.chooseNext_verifier : (s.chooseNext).verifier = s.verifier := rfl
@[simp] theorem State.chooseNext_flags : (s.chooseNext).flags = s.flags := rfl
@[simp] theorem State.chooseNext_recorder : (s.chooseNext).recorder = s.recorder := rfl
@[simp] theorem State.chooseNext_maps : (s.chooseNext).maps = s.maps := rfl
@[simp] theorem State.chooseNext_tables : (s.chooseNext).tables = s.tables := rfl
@[simp] theorem State.chooseNext_management : (s.chooseNext).management = s.management := rfl
@[simp] theorem State.chooseNext_loader : (s.chooseNext).loader = s.loader := rfl
@[simp] theorem State.chooseNext_memory : (s.chooseNext).memory = s.memory := rfl
@[simp] theorem State.chooseNext_straps : (s.chooseNext).straps = s.straps := rfl
@[simp] theorem State.chooseNext_inReset : (s.chooseNext).inReset = s.inReset := rfl
@[simp] theorem State.chooseNext_work : (s.chooseNext).work = s.work := rfl
@[simp] theorem State.chooseNext_came : (s.chooseNext).came = s.came := rfl
@[simp] theorem State.chooseNext_due : (s.chooseNext).due = s.due := rfl
@[simp] theorem State.chooseNext_pending : (s.chooseNext).pending = s.pending := rfl

/-! ### State.readyDrive -/

@[simp] theorem State.readyDrive_ingress (words : List Word) (sequence : BitVec 8) : (s.readyDrive words sequence).ingress = s.ingress := rfl
@[simp] theorem State.readyDrive_tracker (words : List Word) (sequence : BitVec 8) : (s.readyDrive words sequence).tracker = s.tracker := rfl
@[simp] theorem State.readyDrive_monitor (words : List Word) (sequence : BitVec 8) : (s.readyDrive words sequence).monitor = s.monitor := rfl
@[simp] theorem State.readyDrive_store (words : List Word) (sequence : BitVec 8) : (s.readyDrive words sequence).store = s.store := rfl
@[simp] theorem State.readyDrive_engines (words : List Word) (sequence : BitVec 8) : (s.readyDrive words sequence).engines = s.engines := rfl
@[simp] theorem State.readyDrive_verifier (words : List Word) (sequence : BitVec 8) : (s.readyDrive words sequence).verifier = s.verifier := rfl
@[simp] theorem State.readyDrive_flags (words : List Word) (sequence : BitVec 8) : (s.readyDrive words sequence).flags = s.flags := rfl
@[simp] theorem State.readyDrive_recorder (words : List Word) (sequence : BitVec 8) : (s.readyDrive words sequence).recorder = s.recorder := rfl
@[simp] theorem State.readyDrive_maps (words : List Word) (sequence : BitVec 8) : (s.readyDrive words sequence).maps = s.maps := rfl
@[simp] theorem State.readyDrive_tables (words : List Word) (sequence : BitVec 8) : (s.readyDrive words sequence).tables = s.tables := rfl
@[simp] theorem State.readyDrive_management (words : List Word) (sequence : BitVec 8) : (s.readyDrive words sequence).management = s.management := rfl
@[simp] theorem State.readyDrive_loader (words : List Word) (sequence : BitVec 8) : (s.readyDrive words sequence).loader = s.loader := rfl
@[simp] theorem State.readyDrive_memory (words : List Word) (sequence : BitVec 8) : (s.readyDrive words sequence).memory = s.memory := rfl
@[simp] theorem State.readyDrive_straps (words : List Word) (sequence : BitVec 8) : (s.readyDrive words sequence).straps = s.straps := rfl
@[simp] theorem State.readyDrive_inReset (words : List Word) (sequence : BitVec 8) : (s.readyDrive words sequence).inReset = s.inReset := rfl
@[simp] theorem State.readyDrive_work (words : List Word) (sequence : BitVec 8) : (s.readyDrive words sequence).work = s.work := rfl
@[simp] theorem State.readyDrive_came (words : List Word) (sequence : BitVec 8) : (s.readyDrive words sequence).came = s.came := rfl
@[simp] theorem State.readyDrive_due (words : List Word) (sequence : BitVec 8) : (s.readyDrive words sequence).due = s.due := rfl
@[simp] theorem State.readyDrive_pending (words : List Word) (sequence : BitVec 8) : (s.readyDrive words sequence).pending = s.pending := rfl

/-! ### State.sendDrive -/

@[simp] theorem State.sendDrive_ingress (before : PerFeeder Engine) (w : Work) : (s.sendDrive before w).ingress = s.ingress := rfl
@[simp] theorem State.sendDrive_tracker (before : PerFeeder Engine) (w : Work) : (s.sendDrive before w).tracker = s.tracker := rfl
@[simp] theorem State.sendDrive_monitor (before : PerFeeder Engine) (w : Work) : (s.sendDrive before w).monitor = s.monitor := rfl
@[simp] theorem State.sendDrive_store (before : PerFeeder Engine) (w : Work) : (s.sendDrive before w).store = s.store := rfl
@[simp] theorem State.sendDrive_engines (before : PerFeeder Engine) (w : Work) : (s.sendDrive before w).engines = s.engines := rfl
@[simp] theorem State.sendDrive_verifier (before : PerFeeder Engine) (w : Work) : (s.sendDrive before w).verifier = s.verifier := rfl
@[simp] theorem State.sendDrive_flags (before : PerFeeder Engine) (w : Work) : (s.sendDrive before w).flags = s.flags := rfl
@[simp] theorem State.sendDrive_recorder (before : PerFeeder Engine) (w : Work) : (s.sendDrive before w).recorder = s.recorder := rfl
@[simp] theorem State.sendDrive_maps (before : PerFeeder Engine) (w : Work) : (s.sendDrive before w).maps = s.maps := rfl
@[simp] theorem State.sendDrive_tables (before : PerFeeder Engine) (w : Work) : (s.sendDrive before w).tables = s.tables := rfl
@[simp] theorem State.sendDrive_management (before : PerFeeder Engine) (w : Work) : (s.sendDrive before w).management = s.management := rfl
@[simp] theorem State.sendDrive_loader (before : PerFeeder Engine) (w : Work) : (s.sendDrive before w).loader = s.loader := rfl
@[simp] theorem State.sendDrive_memory (before : PerFeeder Engine) (w : Work) : (s.sendDrive before w).memory = s.memory := rfl
@[simp] theorem State.sendDrive_straps (before : PerFeeder Engine) (w : Work) : (s.sendDrive before w).straps = s.straps := rfl
@[simp] theorem State.sendDrive_inReset (before : PerFeeder Engine) (w : Work) : (s.sendDrive before w).inReset = s.inReset := rfl
@[simp] theorem State.sendDrive_work (before : PerFeeder Engine) (w : Work) : (s.sendDrive before w).work = s.work := rfl
@[simp] theorem State.sendDrive_came (before : PerFeeder Engine) (w : Work) : (s.sendDrive before w).came = s.came := rfl
@[simp] theorem State.sendDrive_due (before : PerFeeder Engine) (w : Work) : (s.sendDrive before w).due = s.due := rfl
@[simp] theorem State.sendDrive_pending (before : PerFeeder Engine) (w : Work) : (s.sendDrive before w).pending = s.pending := rfl

/-! ### State.dropChange -/

@[simp] theorem State.dropChange_ingress : (s.dropChange).ingress = s.ingress := rfl
@[simp] theorem State.dropChange_tracker : (s.dropChange).tracker = s.tracker := rfl
@[simp] theorem State.dropChange_monitor : (s.dropChange).monitor = s.monitor := rfl
@[simp] theorem State.dropChange_store : (s.dropChange).store = s.store := rfl
@[simp] theorem State.dropChange_engines : (s.dropChange).engines = s.engines := rfl
@[simp] theorem State.dropChange_verifier : (s.dropChange).verifier = s.verifier := rfl
@[simp] theorem State.dropChange_recorder : (s.dropChange).recorder = s.recorder := rfl
@[simp] theorem State.dropChange_tables : (s.dropChange).tables = s.tables := rfl
@[simp] theorem State.dropChange_management : (s.dropChange).management = s.management := rfl
@[simp] theorem State.dropChange_egress : (s.dropChange).egress = s.egress := rfl
@[simp] theorem State.dropChange_loader : (s.dropChange).loader = s.loader := rfl
@[simp] theorem State.dropChange_memory : (s.dropChange).memory = s.memory := rfl
@[simp] theorem State.dropChange_straps : (s.dropChange).straps = s.straps := rfl
@[simp] theorem State.dropChange_inReset : (s.dropChange).inReset = s.inReset := rfl
@[simp] theorem State.dropChange_work : (s.dropChange).work = s.work := rfl
@[simp] theorem State.dropChange_due : (s.dropChange).due = s.due := rfl
@[simp] theorem State.dropChange_pending : (s.dropChange).pending = s.pending := rfl

/-! ### State.endWork -/

@[simp] theorem State.endWork_ingress : (s.endWork).ingress = s.ingress := rfl
@[simp] theorem State.endWork_tracker : (s.endWork).tracker = s.tracker := rfl
@[simp] theorem State.endWork_monitor : (s.endWork).monitor = s.monitor := rfl
@[simp] theorem State.endWork_store : (s.endWork).store = s.store := rfl
@[simp] theorem State.endWork_engines : (s.endWork).engines = s.engines := rfl
@[simp] theorem State.endWork_verifier : (s.endWork).verifier = s.verifier := rfl
@[simp] theorem State.endWork_flags : (s.endWork).flags = s.flags := rfl
@[simp] theorem State.endWork_recorder : (s.endWork).recorder = s.recorder := rfl
@[simp] theorem State.endWork_maps : (s.endWork).maps = s.maps := rfl
@[simp] theorem State.endWork_tables : (s.endWork).tables = s.tables := rfl
@[simp] theorem State.endWork_management : (s.endWork).management = s.management := rfl
@[simp] theorem State.endWork_egress : (s.endWork).egress = s.egress := rfl
@[simp] theorem State.endWork_loader : (s.endWork).loader = s.loader := rfl
@[simp] theorem State.endWork_memory : (s.endWork).memory = s.memory := rfl
@[simp] theorem State.endWork_straps : (s.endWork).straps = s.straps := rfl
@[simp] theorem State.endWork_inReset : (s.endWork).inReset = s.inReset := rfl
@[simp] theorem State.endWork_came : (s.endWork).came = s.came := rfl
@[simp] theorem State.endWork_due : (s.endWork).due = s.due := rfl
@[simp] theorem State.endWork_pending : (s.endWork).pending = s.pending := rfl

/-! ### State.loseLink -/

@[simp] theorem State.loseLink_tracker : (s.loseLink).tracker = s.tracker := rfl
@[simp] theorem State.loseLink_monitor : (s.loseLink).monitor = s.monitor := rfl
@[simp] theorem State.loseLink_store : (s.loseLink).store = s.store := rfl
@[simp] theorem State.loseLink_engines : (s.loseLink).engines = s.engines := rfl
@[simp] theorem State.loseLink_verifier : (s.loseLink).verifier = s.verifier := rfl
@[simp] theorem State.loseLink_recorder : (s.loseLink).recorder = s.recorder := rfl
@[simp] theorem State.loseLink_maps : (s.loseLink).maps = s.maps := rfl
@[simp] theorem State.loseLink_tables : (s.loseLink).tables = s.tables := rfl
@[simp] theorem State.loseLink_management : (s.loseLink).management = s.management := rfl
@[simp] theorem State.loseLink_loader : (s.loseLink).loader = s.loader := rfl
@[simp] theorem State.loseLink_memory : (s.loseLink).memory = s.memory := rfl
@[simp] theorem State.loseLink_straps : (s.loseLink).straps = s.straps := rfl
@[simp] theorem State.loseLink_inReset : (s.loseLink).inReset = s.inReset := rfl
@[simp] theorem State.loseLink_work : (s.loseLink).work = s.work := rfl
@[simp] theorem State.loseLink_due : (s.loseLink).due = s.due := rfl
@[simp] theorem State.loseLink_pending : (s.loseLink).pending = s.pending := rfl

/-! ### State.quietMonitor -/

@[simp] theorem State.quietMonitor_ingress : (s.quietMonitor).ingress = s.ingress := rfl
@[simp] theorem State.quietMonitor_tracker : (s.quietMonitor).tracker = s.tracker := rfl
@[simp] theorem State.quietMonitor_store : (s.quietMonitor).store = s.store := rfl
@[simp] theorem State.quietMonitor_engines : (s.quietMonitor).engines = s.engines := rfl
@[simp] theorem State.quietMonitor_verifier : (s.quietMonitor).verifier = s.verifier := rfl
@[simp] theorem State.quietMonitor_flags : (s.quietMonitor).flags = s.flags := rfl
@[simp] theorem State.quietMonitor_recorder : (s.quietMonitor).recorder = s.recorder := rfl
@[simp] theorem State.quietMonitor_maps : (s.quietMonitor).maps = s.maps := rfl
@[simp] theorem State.quietMonitor_tables : (s.quietMonitor).tables = s.tables := rfl
@[simp] theorem State.quietMonitor_management : (s.quietMonitor).management = s.management := rfl
@[simp] theorem State.quietMonitor_egress : (s.quietMonitor).egress = s.egress := rfl
@[simp] theorem State.quietMonitor_loader : (s.quietMonitor).loader = s.loader := rfl
@[simp] theorem State.quietMonitor_memory : (s.quietMonitor).memory = s.memory := rfl
@[simp] theorem State.quietMonitor_straps : (s.quietMonitor).straps = s.straps := rfl
@[simp] theorem State.quietMonitor_inReset : (s.quietMonitor).inReset = s.inReset := rfl
@[simp] theorem State.quietMonitor_work : (s.quietMonitor).work = s.work := rfl
@[simp] theorem State.quietMonitor_came : (s.quietMonitor).came = s.came := rfl
@[simp] theorem State.quietMonitor_due : (s.quietMonitor).due = s.due := rfl
@[simp] theorem State.quietMonitor_pending : (s.quietMonitor).pending = s.pending := rfl

/-! ### State.quietFeeders -/

@[simp] theorem State.quietFeeders_ingress : (s.quietFeeders).ingress = s.ingress := rfl
@[simp] theorem State.quietFeeders_tracker : (s.quietFeeders).tracker = s.tracker := rfl
@[simp] theorem State.quietFeeders_monitor : (s.quietFeeders).monitor = s.monitor := rfl
@[simp] theorem State.quietFeeders_store : (s.quietFeeders).store = s.store := rfl
@[simp] theorem State.quietFeeders_recorder : (s.quietFeeders).recorder = s.recorder := rfl
@[simp] theorem State.quietFeeders_tables : (s.quietFeeders).tables = s.tables := rfl
@[simp] theorem State.quietFeeders_management : (s.quietFeeders).management = s.management := rfl
@[simp] theorem State.quietFeeders_egress : (s.quietFeeders).egress = s.egress := rfl
@[simp] theorem State.quietFeeders_loader : (s.quietFeeders).loader = s.loader := rfl
@[simp] theorem State.quietFeeders_memory : (s.quietFeeders).memory = s.memory := rfl
@[simp] theorem State.quietFeeders_straps : (s.quietFeeders).straps = s.straps := rfl
@[simp] theorem State.quietFeeders_inReset : (s.quietFeeders).inReset = s.inReset := rfl
@[simp] theorem State.quietFeeders_work : (s.quietFeeders).work = s.work := rfl
@[simp] theorem State.quietFeeders_came : (s.quietFeeders).came = s.came := rfl
@[simp] theorem State.quietFeeders_due : (s.quietFeeders).due = s.due := rfl
@[simp] theorem State.quietFeeders_pending : (s.quietFeeders).pending = s.pending := rfl

/-! ### State.unlatch -/

@[simp] theorem State.unlatch_ingress (named : BitVec 32) : (s.unlatch named).ingress = s.ingress := rfl
@[simp] theorem State.unlatch_tracker (named : BitVec 32) : (s.unlatch named).tracker = s.tracker := rfl
@[simp] theorem State.unlatch_monitor (named : BitVec 32) : (s.unlatch named).monitor = s.monitor := rfl
@[simp] theorem State.unlatch_store (named : BitVec 32) : (s.unlatch named).store = s.store := rfl
@[simp] theorem State.unlatch_engines (named : BitVec 32) : (s.unlatch named).engines = s.engines := rfl
@[simp] theorem State.unlatch_verifier (named : BitVec 32) : (s.unlatch named).verifier = s.verifier := rfl
@[simp] theorem State.unlatch_recorder (named : BitVec 32) : (s.unlatch named).recorder = s.recorder := rfl
@[simp] theorem State.unlatch_maps (named : BitVec 32) : (s.unlatch named).maps = s.maps := rfl
@[simp] theorem State.unlatch_tables (named : BitVec 32) : (s.unlatch named).tables = s.tables := rfl
@[simp] theorem State.unlatch_management (named : BitVec 32) : (s.unlatch named).management = s.management := rfl
@[simp] theorem State.unlatch_egress (named : BitVec 32) : (s.unlatch named).egress = s.egress := rfl
@[simp] theorem State.unlatch_loader (named : BitVec 32) : (s.unlatch named).loader = s.loader := rfl
@[simp] theorem State.unlatch_memory (named : BitVec 32) : (s.unlatch named).memory = s.memory := rfl
@[simp] theorem State.unlatch_straps (named : BitVec 32) : (s.unlatch named).straps = s.straps := rfl
@[simp] theorem State.unlatch_inReset (named : BitVec 32) : (s.unlatch named).inReset = s.inReset := rfl
@[simp] theorem State.unlatch_work (named : BitVec 32) : (s.unlatch named).work = s.work := rfl
@[simp] theorem State.unlatch_came (named : BitVec 32) : (s.unlatch named).came = s.came := rfl
@[simp] theorem State.unlatch_due (named : BitVec 32) : (s.unlatch named).due = s.due := rfl
@[simp] theorem State.unlatch_pending (named : BitVec 32) : (s.unlatch named).pending = s.pending := rfl

/-! ### State.passMissing -/

@[simp] theorem State.passMissing_store (w : Work) : (s.passMissing w).store = s.store := rfl
@[simp] theorem State.passMissing_engines (w : Work) : (s.passMissing w).engines = s.engines := rfl
@[simp] theorem State.passMissing_flags (w : Work) : (s.passMissing w).flags = s.flags := rfl
@[simp] theorem State.passMissing_recorder (w : Work) : (s.passMissing w).recorder = s.recorder := rfl
@[simp] theorem State.passMissing_maps (w : Work) : (s.passMissing w).maps = s.maps := rfl
@[simp] theorem State.passMissing_tables (w : Work) : (s.passMissing w).tables = s.tables := rfl
@[simp] theorem State.passMissing_management (w : Work) : (s.passMissing w).management = s.management := rfl
@[simp] theorem State.passMissing_egress (w : Work) : (s.passMissing w).egress = s.egress := rfl
@[simp] theorem State.passMissing_loader (w : Work) : (s.passMissing w).loader = s.loader := rfl
@[simp] theorem State.passMissing_memory (w : Work) : (s.passMissing w).memory = s.memory := rfl
@[simp] theorem State.passMissing_straps (w : Work) : (s.passMissing w).straps = s.straps := rfl
@[simp] theorem State.passMissing_inReset (w : Work) : (s.passMissing w).inReset = s.inReset := rfl
@[simp] theorem State.passMissing_due (w : Work) : (s.passMissing w).due = s.due := rfl
@[simp] theorem State.passMissing_pending (w : Work) : (s.passMissing w).pending = s.pending := rfl

/-! ### State.trackCell -/

@[simp] theorem State.trackCell_engines (w : Work) : (s.trackCell w).engines = s.engines := rfl
@[simp] theorem State.trackCell_verifier (w : Work) : (s.trackCell w).verifier = s.verifier := rfl
@[simp] theorem State.trackCell_maps (w : Work) : (s.trackCell w).maps = s.maps := rfl
@[simp] theorem State.trackCell_tables (w : Work) : (s.trackCell w).tables = s.tables := rfl
@[simp] theorem State.trackCell_management (w : Work) : (s.trackCell w).management = s.management := rfl
@[simp] theorem State.trackCell_egress (w : Work) : (s.trackCell w).egress = s.egress := rfl
@[simp] theorem State.trackCell_loader (w : Work) : (s.trackCell w).loader = s.loader := rfl
@[simp] theorem State.trackCell_memory (w : Work) : (s.trackCell w).memory = s.memory := rfl
@[simp] theorem State.trackCell_straps (w : Work) : (s.trackCell w).straps = s.straps := rfl
@[simp] theorem State.trackCell_inReset (w : Work) : (s.trackCell w).inReset = s.inReset := rfl
@[simp] theorem State.trackCell_due (w : Work) : (s.trackCell w).due = s.due := rfl
@[simp] theorem State.trackCell_pending (w : Work) : (s.trackCell w).pending = s.pending := rfl

/-! ### State.engageCell -/

@[simp] theorem State.engageCell_ingress (w : Work) : (s.engageCell w).ingress = s.ingress := rfl
@[simp] theorem State.engageCell_tracker (w : Work) : (s.engageCell w).tracker = s.tracker := rfl
@[simp] theorem State.engageCell_monitor (w : Work) : (s.engageCell w).monitor = s.monitor := rfl
@[simp] theorem State.engageCell_store (w : Work) : (s.engageCell w).store = s.store := rfl
@[simp] theorem State.engageCell_recorder (w : Work) : (s.engageCell w).recorder = s.recorder := rfl
@[simp] theorem State.engageCell_tables (w : Work) : (s.engageCell w).tables = s.tables := rfl
@[simp] theorem State.engageCell_management (w : Work) : (s.engageCell w).management = s.management := rfl
@[simp] theorem State.engageCell_egress (w : Work) : (s.engageCell w).egress = s.egress := rfl
@[simp] theorem State.engageCell_loader (w : Work) : (s.engageCell w).loader = s.loader := rfl
@[simp] theorem State.engageCell_memory (w : Work) : (s.engageCell w).memory = s.memory := rfl
@[simp] theorem State.engageCell_straps (w : Work) : (s.engageCell w).straps = s.straps := rfl
@[simp] theorem State.engageCell_inReset (w : Work) : (s.engageCell w).inReset = s.inReset := rfl
@[simp] theorem State.engageCell_due (w : Work) : (s.engageCell w).due = s.due := rfl
@[simp] theorem State.engageCell_pending (w : Work) : (s.engageCell w).pending = s.pending := rfl

/-! ### State.appendHistories -/

@[simp] theorem State.appendHistories_ingress (outputs : PerFeeder SlotOutput) (w : Work) : (s.appendHistories outputs w).ingress = s.ingress := rfl
@[simp] theorem State.appendHistories_tracker (outputs : PerFeeder SlotOutput) (w : Work) : (s.appendHistories outputs w).tracker = s.tracker := rfl
@[simp] theorem State.appendHistories_monitor (outputs : PerFeeder SlotOutput) (w : Work) : (s.appendHistories outputs w).monitor = s.monitor := rfl
@[simp] theorem State.appendHistories_store (outputs : PerFeeder SlotOutput) (w : Work) : (s.appendHistories outputs w).store = s.store := rfl
@[simp] theorem State.appendHistories_engines (outputs : PerFeeder SlotOutput) (w : Work) : (s.appendHistories outputs w).engines = s.engines := rfl
@[simp] theorem State.appendHistories_flags (outputs : PerFeeder SlotOutput) (w : Work) : (s.appendHistories outputs w).flags = s.flags := rfl
@[simp] theorem State.appendHistories_recorder (outputs : PerFeeder SlotOutput) (w : Work) : (s.appendHistories outputs w).recorder = s.recorder := rfl
@[simp] theorem State.appendHistories_maps (outputs : PerFeeder SlotOutput) (w : Work) : (s.appendHistories outputs w).maps = s.maps := rfl
@[simp] theorem State.appendHistories_tables (outputs : PerFeeder SlotOutput) (w : Work) : (s.appendHistories outputs w).tables = s.tables := rfl
@[simp] theorem State.appendHistories_management (outputs : PerFeeder SlotOutput) (w : Work) : (s.appendHistories outputs w).management = s.management := rfl
@[simp] theorem State.appendHistories_egress (outputs : PerFeeder SlotOutput) (w : Work) : (s.appendHistories outputs w).egress = s.egress := rfl
@[simp] theorem State.appendHistories_loader (outputs : PerFeeder SlotOutput) (w : Work) : (s.appendHistories outputs w).loader = s.loader := rfl
@[simp] theorem State.appendHistories_memory (outputs : PerFeeder SlotOutput) (w : Work) : (s.appendHistories outputs w).memory = s.memory := rfl
@[simp] theorem State.appendHistories_straps (outputs : PerFeeder SlotOutput) (w : Work) : (s.appendHistories outputs w).straps = s.straps := rfl
@[simp] theorem State.appendHistories_inReset (outputs : PerFeeder SlotOutput) (w : Work) : (s.appendHistories outputs w).inReset = s.inReset := rfl
@[simp] theorem State.appendHistories_came (outputs : PerFeeder SlotOutput) (w : Work) : (s.appendHistories outputs w).came = s.came := rfl
@[simp] theorem State.appendHistories_due (outputs : PerFeeder SlotOutput) (w : Work) : (s.appendHistories outputs w).due = s.due := rfl
@[simp] theorem State.appendHistories_pending (outputs : PerFeeder SlotOutput) (w : Work) : (s.appendHistories outputs w).pending = s.pending := rfl

/-! ### State.verifyCell -/

@[simp] theorem State.verifyCell_ingress (w : Work) : (s.verifyCell w).ingress = s.ingress := rfl
@[simp] theorem State.verifyCell_tracker (w : Work) : (s.verifyCell w).tracker = s.tracker := rfl
@[simp] theorem State.verifyCell_monitor (w : Work) : (s.verifyCell w).monitor = s.monitor := rfl
@[simp] theorem State.verifyCell_store (w : Work) : (s.verifyCell w).store = s.store := rfl
@[simp] theorem State.verifyCell_recorder (w : Work) : (s.verifyCell w).recorder = s.recorder := rfl
@[simp] theorem State.verifyCell_tables (w : Work) : (s.verifyCell w).tables = s.tables := rfl
@[simp] theorem State.verifyCell_management (w : Work) : (s.verifyCell w).management = s.management := rfl
@[simp] theorem State.verifyCell_egress (w : Work) : (s.verifyCell w).egress = s.egress := rfl
@[simp] theorem State.verifyCell_loader (w : Work) : (s.verifyCell w).loader = s.loader := rfl
@[simp] theorem State.verifyCell_memory (w : Work) : (s.verifyCell w).memory = s.memory := rfl
@[simp] theorem State.verifyCell_straps (w : Work) : (s.verifyCell w).straps = s.straps := rfl
@[simp] theorem State.verifyCell_inReset (w : Work) : (s.verifyCell w).inReset = s.inReset := rfl
@[simp] theorem State.verifyCell_came (w : Work) : (s.verifyCell w).came = s.came := rfl
@[simp] theorem State.verifyCell_due (w : Work) : (s.verifyCell w).due = s.due := rfl
@[simp] theorem State.verifyCell_pending (w : Work) : (s.verifyCell w).pending = s.pending := rfl

/-! ### State.keepLowest -/

@[simp] theorem State.keepLowest_ingress : (s.keepLowest).ingress = s.ingress := rfl
@[simp] theorem State.keepLowest_tracker : (s.keepLowest).tracker = s.tracker := rfl
@[simp] theorem State.keepLowest_monitor : (s.keepLowest).monitor = s.monitor := rfl
@[simp] theorem State.keepLowest_store : (s.keepLowest).store = s.store := rfl
@[simp] theorem State.keepLowest_engines : (s.keepLowest).engines = s.engines := rfl
@[simp] theorem State.keepLowest_verifier : (s.keepLowest).verifier = s.verifier := rfl
@[simp] theorem State.keepLowest_flags : (s.keepLowest).flags = s.flags := rfl
@[simp] theorem State.keepLowest_maps : (s.keepLowest).maps = s.maps := rfl
@[simp] theorem State.keepLowest_tables : (s.keepLowest).tables = s.tables := rfl
@[simp] theorem State.keepLowest_management : (s.keepLowest).management = s.management := rfl
@[simp] theorem State.keepLowest_egress : (s.keepLowest).egress = s.egress := rfl
@[simp] theorem State.keepLowest_loader : (s.keepLowest).loader = s.loader := rfl
@[simp] theorem State.keepLowest_memory : (s.keepLowest).memory = s.memory := rfl
@[simp] theorem State.keepLowest_straps : (s.keepLowest).straps = s.straps := rfl
@[simp] theorem State.keepLowest_inReset : (s.keepLowest).inReset = s.inReset := rfl
@[simp] theorem State.keepLowest_work : (s.keepLowest).work = s.work := rfl
@[simp] theorem State.keepLowest_came : (s.keepLowest).came = s.came := rfl
@[simp] theorem State.keepLowest_due : (s.keepLowest).due = s.due := rfl
@[simp] theorem State.keepLowest_pending : (s.keepLowest).pending = s.pending := rfl

/-! ### State.restartTimer -/

@[simp] theorem State.restartTimer_ingress : (s.restartTimer).ingress = s.ingress := rfl
@[simp] theorem State.restartTimer_tracker : (s.restartTimer).tracker = s.tracker := rfl
@[simp] theorem State.restartTimer_monitor : (s.restartTimer).monitor = s.monitor := rfl
@[simp] theorem State.restartTimer_store : (s.restartTimer).store = s.store := rfl
@[simp] theorem State.restartTimer_engines : (s.restartTimer).engines = s.engines := rfl
@[simp] theorem State.restartTimer_verifier : (s.restartTimer).verifier = s.verifier := rfl
@[simp] theorem State.restartTimer_flags : (s.restartTimer).flags = s.flags := rfl
@[simp] theorem State.restartTimer_recorder : (s.restartTimer).recorder = s.recorder := rfl
@[simp] theorem State.restartTimer_maps : (s.restartTimer).maps = s.maps := rfl
@[simp] theorem State.restartTimer_tables : (s.restartTimer).tables = s.tables := rfl
@[simp] theorem State.restartTimer_management : (s.restartTimer).management = s.management := rfl
@[simp] theorem State.restartTimer_loader : (s.restartTimer).loader = s.loader := rfl
@[simp] theorem State.restartTimer_memory : (s.restartTimer).memory = s.memory := rfl
@[simp] theorem State.restartTimer_straps : (s.restartTimer).straps = s.straps := rfl
@[simp] theorem State.restartTimer_inReset : (s.restartTimer).inReset = s.inReset := rfl
@[simp] theorem State.restartTimer_work : (s.restartTimer).work = s.work := rfl
@[simp] theorem State.restartTimer_came : (s.restartTimer).came = s.came := rfl
@[simp] theorem State.restartTimer_due : (s.restartTimer).due = s.due := rfl
@[simp] theorem State.restartTimer_pending : (s.restartTimer).pending = s.pending := rfl

/-! ### State.stopWriting -/

@[simp] theorem State.stopWriting_ingress : (s.stopWriting).ingress = s.ingress := rfl
@[simp] theorem State.stopWriting_tracker : (s.stopWriting).tracker = s.tracker := rfl
@[simp] theorem State.stopWriting_monitor : (s.stopWriting).monitor = s.monitor := rfl
@[simp] theorem State.stopWriting_store : (s.stopWriting).store = s.store := rfl
@[simp] theorem State.stopWriting_engines : (s.stopWriting).engines = s.engines := rfl
@[simp] theorem State.stopWriting_verifier : (s.stopWriting).verifier = s.verifier := rfl
@[simp] theorem State.stopWriting_flags : (s.stopWriting).flags = s.flags := rfl
@[simp] theorem State.stopWriting_recorder : (s.stopWriting).recorder = s.recorder := rfl
@[simp] theorem State.stopWriting_maps : (s.stopWriting).maps = s.maps := rfl
@[simp] theorem State.stopWriting_tables : (s.stopWriting).tables = s.tables := rfl
@[simp] theorem State.stopWriting_management : (s.stopWriting).management = s.management := rfl
@[simp] theorem State.stopWriting_egress : (s.stopWriting).egress = s.egress := rfl
@[simp] theorem State.stopWriting_memory : (s.stopWriting).memory = s.memory := rfl
@[simp] theorem State.stopWriting_straps : (s.stopWriting).straps = s.straps := rfl
@[simp] theorem State.stopWriting_inReset : (s.stopWriting).inReset = s.inReset := rfl
@[simp] theorem State.stopWriting_work : (s.stopWriting).work = s.work := rfl
@[simp] theorem State.stopWriting_came : (s.stopWriting).came = s.came := rfl
@[simp] theorem State.stopWriting_due : (s.stopWriting).due = s.due := rfl
@[simp] theorem State.stopWriting_pending : (s.stopWriting).pending = s.pending := rfl

/-! ### State.storePage -/

@[simp] theorem State.storePage_ingress (x : PageWrite) (rest : List PageWrite) : (s.storePage x rest).ingress = s.ingress := rfl
@[simp] theorem State.storePage_tracker (x : PageWrite) (rest : List PageWrite) : (s.storePage x rest).tracker = s.tracker := rfl
@[simp] theorem State.storePage_monitor (x : PageWrite) (rest : List PageWrite) : (s.storePage x rest).monitor = s.monitor := rfl
@[simp] theorem State.storePage_store (x : PageWrite) (rest : List PageWrite) : (s.storePage x rest).store = s.store := rfl
@[simp] theorem State.storePage_engines (x : PageWrite) (rest : List PageWrite) : (s.storePage x rest).engines = s.engines := rfl
@[simp] theorem State.storePage_verifier (x : PageWrite) (rest : List PageWrite) : (s.storePage x rest).verifier = s.verifier := rfl
@[simp] theorem State.storePage_flags (x : PageWrite) (rest : List PageWrite) : (s.storePage x rest).flags = s.flags := rfl
@[simp] theorem State.storePage_recorder (x : PageWrite) (rest : List PageWrite) : (s.storePage x rest).recorder = s.recorder := rfl
@[simp] theorem State.storePage_maps (x : PageWrite) (rest : List PageWrite) : (s.storePage x rest).maps = s.maps := rfl
@[simp] theorem State.storePage_tables (x : PageWrite) (rest : List PageWrite) : (s.storePage x rest).tables = s.tables := rfl
@[simp] theorem State.storePage_management (x : PageWrite) (rest : List PageWrite) : (s.storePage x rest).management = s.management := rfl
@[simp] theorem State.storePage_egress (x : PageWrite) (rest : List PageWrite) : (s.storePage x rest).egress = s.egress := rfl
@[simp] theorem State.storePage_straps (x : PageWrite) (rest : List PageWrite) : (s.storePage x rest).straps = s.straps := rfl
@[simp] theorem State.storePage_inReset (x : PageWrite) (rest : List PageWrite) : (s.storePage x rest).inReset = s.inReset := rfl
@[simp] theorem State.storePage_work (x : PageWrite) (rest : List PageWrite) : (s.storePage x rest).work = s.work := rfl
@[simp] theorem State.storePage_came (x : PageWrite) (rest : List PageWrite) : (s.storePage x rest).came = s.came := rfl
@[simp] theorem State.storePage_due (x : PageWrite) (rest : List PageWrite) : (s.storePage x rest).due = s.due := rfl
@[simp] theorem State.storePage_pending (x : PageWrite) (rest : List PageWrite) : (s.storePage x rest).pending = s.pending := rfl

/-! ### State.bypassWork -/

@[simp] theorem State.bypassWork_ingress (f : Feeder) : (s.bypassWork f).ingress = s.ingress := rfl
@[simp] theorem State.bypassWork_tracker (f : Feeder) : (s.bypassWork f).tracker = s.tracker := rfl
@[simp] theorem State.bypassWork_monitor (f : Feeder) : (s.bypassWork f).monitor = s.monitor := rfl
@[simp] theorem State.bypassWork_store (f : Feeder) : (s.bypassWork f).store = s.store := rfl
@[simp] theorem State.bypassWork_engines (f : Feeder) : (s.bypassWork f).engines = s.engines := rfl
@[simp] theorem State.bypassWork_verifier (f : Feeder) : (s.bypassWork f).verifier = s.verifier := rfl
@[simp] theorem State.bypassWork_flags (f : Feeder) : (s.bypassWork f).flags = s.flags := rfl
@[simp] theorem State.bypassWork_recorder (f : Feeder) : (s.bypassWork f).recorder = s.recorder := rfl
@[simp] theorem State.bypassWork_maps (f : Feeder) : (s.bypassWork f).maps = s.maps := rfl
@[simp] theorem State.bypassWork_tables (f : Feeder) : (s.bypassWork f).tables = s.tables := rfl
@[simp] theorem State.bypassWork_management (f : Feeder) : (s.bypassWork f).management = s.management := rfl
@[simp] theorem State.bypassWork_egress (f : Feeder) : (s.bypassWork f).egress = s.egress := rfl
@[simp] theorem State.bypassWork_loader (f : Feeder) : (s.bypassWork f).loader = s.loader := rfl
@[simp] theorem State.bypassWork_memory (f : Feeder) : (s.bypassWork f).memory = s.memory := rfl
@[simp] theorem State.bypassWork_straps (f : Feeder) : (s.bypassWork f).straps = s.straps := rfl
@[simp] theorem State.bypassWork_inReset (f : Feeder) : (s.bypassWork f).inReset = s.inReset := rfl
@[simp] theorem State.bypassWork_came (f : Feeder) : (s.bypassWork f).came = s.came := rfl
@[simp] theorem State.bypassWork_due (f : Feeder) : (s.bypassWork f).due = s.due := rfl
@[simp] theorem State.bypassWork_pending (f : Feeder) : (s.bypassWork f).pending = s.pending := rfl

/-! ### State.dropOldest -/

@[simp] theorem State.dropOldest_ingress : (s.dropOldest).ingress = s.ingress := rfl
@[simp] theorem State.dropOldest_tracker : (s.dropOldest).tracker = s.tracker := rfl
@[simp] theorem State.dropOldest_monitor : (s.dropOldest).monitor = s.monitor := rfl
@[simp] theorem State.dropOldest_store : (s.dropOldest).store = s.store := rfl
@[simp] theorem State.dropOldest_engines : (s.dropOldest).engines = s.engines := rfl
@[simp] theorem State.dropOldest_verifier : (s.dropOldest).verifier = s.verifier := rfl
@[simp] theorem State.dropOldest_flags : (s.dropOldest).flags = s.flags := rfl
@[simp] theorem State.dropOldest_maps : (s.dropOldest).maps = s.maps := rfl
@[simp] theorem State.dropOldest_tables : (s.dropOldest).tables = s.tables := rfl
@[simp] theorem State.dropOldest_management : (s.dropOldest).management = s.management := rfl
@[simp] theorem State.dropOldest_egress : (s.dropOldest).egress = s.egress := rfl
@[simp] theorem State.dropOldest_loader : (s.dropOldest).loader = s.loader := rfl
@[simp] theorem State.dropOldest_memory : (s.dropOldest).memory = s.memory := rfl
@[simp] theorem State.dropOldest_straps : (s.dropOldest).straps = s.straps := rfl
@[simp] theorem State.dropOldest_inReset : (s.dropOldest).inReset = s.inReset := rfl
@[simp] theorem State.dropOldest_work : (s.dropOldest).work = s.work := rfl
@[simp] theorem State.dropOldest_came : (s.dropOldest).came = s.came := rfl
@[simp] theorem State.dropOldest_due : (s.dropOldest).due = s.due := rfl
@[simp] theorem State.dropOldest_pending : (s.dropOldest).pending = s.pending := rfl

/-! ### State.powerOn -/

@[simp] theorem State.powerOn_memory : (s.powerOn).memory = s.memory := rfl
@[simp] theorem State.powerOn_straps : (s.powerOn).straps = s.straps := rfl
@[simp] theorem State.powerOn_pending : (s.powerOn).pending = s.pending := rfl

/-! ### State.manageValues -/

@[simp] theorem State.manageValues_memory : (s.manageValues).memory = s.memory := rfl
@[simp] theorem State.manageValues_straps : (s.manageValues).straps = s.straps := rfl
@[simp] theorem State.manageValues_pending : (s.manageValues).pending = s.pending := rfl

/-! ### State.buffer -/

@[simp] theorem State.buffer_ingress (r : Reply) : (s.buffer r).ingress = s.ingress := by
  unfold State.buffer; split <;> simp
@[simp] theorem State.buffer_tracker (r : Reply) : (s.buffer r).tracker = s.tracker := by
  unfold State.buffer; split <;> simp
@[simp] theorem State.buffer_monitor (r : Reply) : (s.buffer r).monitor = s.monitor := by
  unfold State.buffer; split <;> simp
@[simp] theorem State.buffer_store (r : Reply) : (s.buffer r).store = s.store := by
  unfold State.buffer; split <;> simp
@[simp] theorem State.buffer_engines (r : Reply) : (s.buffer r).engines = s.engines := by
  unfold State.buffer; split <;> simp
@[simp] theorem State.buffer_verifier (r : Reply) : (s.buffer r).verifier = s.verifier := by
  unfold State.buffer; split <;> simp
@[simp] theorem State.buffer_flags (r : Reply) : (s.buffer r).flags = s.flags := by
  unfold State.buffer; split <;> simp
@[simp] theorem State.buffer_recorder (r : Reply) : (s.buffer r).recorder = s.recorder := by
  unfold State.buffer; split <;> simp
@[simp] theorem State.buffer_maps (r : Reply) : (s.buffer r).maps = s.maps := by
  unfold State.buffer; split <;> simp
@[simp] theorem State.buffer_tables (r : Reply) : (s.buffer r).tables = s.tables := by
  unfold State.buffer; split <;> simp
@[simp] theorem State.buffer_loader (r : Reply) : (s.buffer r).loader = s.loader := by
  unfold State.buffer; split <;> simp
@[simp] theorem State.buffer_memory (r : Reply) : (s.buffer r).memory = s.memory := by
  unfold State.buffer; split <;> simp
@[simp] theorem State.buffer_straps (r : Reply) : (s.buffer r).straps = s.straps := by
  unfold State.buffer; split <;> simp
@[simp] theorem State.buffer_inReset (r : Reply) : (s.buffer r).inReset = s.inReset := by
  unfold State.buffer; split <;> simp
@[simp] theorem State.buffer_work (r : Reply) : (s.buffer r).work = s.work := by
  unfold State.buffer; split <;> simp
@[simp] theorem State.buffer_came (r : Reply) : (s.buffer r).came = s.came := by
  unfold State.buffer; split <;> simp
@[simp] theorem State.buffer_due (r : Reply) : (s.buffer r).due = s.due := by
  unfold State.buffer; split <;> simp
@[simp] theorem State.buffer_pending (r : Reply) : (s.buffer r).pending = s.pending := by
  unfold State.buffer; split <;> simp

/-! ### State.answer -/

@[simp] theorem State.answer_ingress (r : Request) (result : Result) (payload : List Word) : (s.answer r result payload).ingress = s.ingress := by
  simp [State.answer]
@[simp] theorem State.answer_tracker (r : Request) (result : Result) (payload : List Word) : (s.answer r result payload).tracker = s.tracker := by
  simp [State.answer]
@[simp] theorem State.answer_monitor (r : Request) (result : Result) (payload : List Word) : (s.answer r result payload).monitor = s.monitor := by
  simp [State.answer]
@[simp] theorem State.answer_store (r : Request) (result : Result) (payload : List Word) : (s.answer r result payload).store = s.store := by
  simp [State.answer]
@[simp] theorem State.answer_engines (r : Request) (result : Result) (payload : List Word) : (s.answer r result payload).engines = s.engines := by
  simp [State.answer]
@[simp] theorem State.answer_verifier (r : Request) (result : Result) (payload : List Word) : (s.answer r result payload).verifier = s.verifier := by
  simp [State.answer]
@[simp] theorem State.answer_flags (r : Request) (result : Result) (payload : List Word) : (s.answer r result payload).flags = s.flags := by
  simp [State.answer]
@[simp] theorem State.answer_recorder (r : Request) (result : Result) (payload : List Word) : (s.answer r result payload).recorder = s.recorder := by
  simp [State.answer]
@[simp] theorem State.answer_maps (r : Request) (result : Result) (payload : List Word) : (s.answer r result payload).maps = s.maps := by
  simp [State.answer]
@[simp] theorem State.answer_tables (r : Request) (result : Result) (payload : List Word) : (s.answer r result payload).tables = s.tables := by
  simp [State.answer]
@[simp] theorem State.answer_loader (r : Request) (result : Result) (payload : List Word) : (s.answer r result payload).loader = s.loader := by
  simp [State.answer]
@[simp] theorem State.answer_memory (r : Request) (result : Result) (payload : List Word) : (s.answer r result payload).memory = s.memory := by
  simp [State.answer]
@[simp] theorem State.answer_straps (r : Request) (result : Result) (payload : List Word) : (s.answer r result payload).straps = s.straps := by
  simp [State.answer]
@[simp] theorem State.answer_inReset (r : Request) (result : Result) (payload : List Word) : (s.answer r result payload).inReset = s.inReset := by
  simp [State.answer]
@[simp] theorem State.answer_work (r : Request) (result : Result) (payload : List Word) : (s.answer r result payload).work = s.work := by
  simp [State.answer]
@[simp] theorem State.answer_came (r : Request) (result : Result) (payload : List Word) : (s.answer r result payload).came = s.came := by
  simp [State.answer]
@[simp] theorem State.answer_due (r : Request) (result : Result) (payload : List Word) : (s.answer r result payload).due = s.due := by
  simp [State.answer]
@[simp] theorem State.answer_pending (r : Request) (result : Result) (payload : List Word) : (s.answer r result payload).pending = s.pending := by
  simp [State.answer]

/-! ### State.autoEnlist -/

@[simp] theorem State.autoEnlist_ingress : (s.autoEnlist).ingress = s.ingress := by
  unfold State.autoEnlist; split <;> simp
@[simp] theorem State.autoEnlist_tracker : (s.autoEnlist).tracker = s.tracker := by
  unfold State.autoEnlist; split <;> simp
@[simp] theorem State.autoEnlist_monitor : (s.autoEnlist).monitor = s.monitor := by
  unfold State.autoEnlist; split <;> simp
@[simp] theorem State.autoEnlist_store : (s.autoEnlist).store = s.store := by
  unfold State.autoEnlist; split <;> simp
@[simp] theorem State.autoEnlist_recorder : (s.autoEnlist).recorder = s.recorder := by
  unfold State.autoEnlist; split <;> simp
@[simp] theorem State.autoEnlist_tables : (s.autoEnlist).tables = s.tables := by
  unfold State.autoEnlist; split <;> simp
@[simp] theorem State.autoEnlist_management : (s.autoEnlist).management = s.management := by
  unfold State.autoEnlist; split <;> simp
@[simp] theorem State.autoEnlist_egress : (s.autoEnlist).egress = s.egress := by
  unfold State.autoEnlist; split <;> simp
@[simp] theorem State.autoEnlist_loader : (s.autoEnlist).loader = s.loader := by
  unfold State.autoEnlist; split <;> simp
@[simp] theorem State.autoEnlist_memory : (s.autoEnlist).memory = s.memory := by
  unfold State.autoEnlist; split <;> simp
@[simp] theorem State.autoEnlist_straps : (s.autoEnlist).straps = s.straps := by
  unfold State.autoEnlist; split <;> simp
@[simp] theorem State.autoEnlist_inReset : (s.autoEnlist).inReset = s.inReset := by
  unfold State.autoEnlist; split <;> simp
@[simp] theorem State.autoEnlist_work : (s.autoEnlist).work = s.work := by
  unfold State.autoEnlist; split <;> simp
@[simp] theorem State.autoEnlist_came : (s.autoEnlist).came = s.came := by
  unfold State.autoEnlist; split <;> simp
@[simp] theorem State.autoEnlist_due : (s.autoEnlist).due = s.due := by
  unfold State.autoEnlist; split <;> simp
@[simp] theorem State.autoEnlist_pending : (s.autoEnlist).pending = s.pending := by
  unfold State.autoEnlist; split <;> simp

/-! ### State.closeRecord -/

@[simp] theorem State.closeRecord_ingress (b : Bank) (cause : EndCause) : (s.closeRecord b cause).ingress = s.ingress := by
  unfold State.closeRecord; split <;> rfl
@[simp] theorem State.closeRecord_tracker (b : Bank) (cause : EndCause) : (s.closeRecord b cause).tracker = s.tracker := by
  unfold State.closeRecord; split <;> rfl
@[simp] theorem State.closeRecord_monitor (b : Bank) (cause : EndCause) : (s.closeRecord b cause).monitor = s.monitor := by
  unfold State.closeRecord; split <;> rfl
@[simp] theorem State.closeRecord_store (b : Bank) (cause : EndCause) : (s.closeRecord b cause).store = s.store := by
  unfold State.closeRecord; split <;> rfl
@[simp] theorem State.closeRecord_engines (b : Bank) (cause : EndCause) : (s.closeRecord b cause).engines = s.engines := by
  unfold State.closeRecord; split <;> rfl
@[simp] theorem State.closeRecord_verifier (b : Bank) (cause : EndCause) : (s.closeRecord b cause).verifier = s.verifier := by
  unfold State.closeRecord; split <;> rfl
@[simp] theorem State.closeRecord_maps (b : Bank) (cause : EndCause) : (s.closeRecord b cause).maps = s.maps := by
  unfold State.closeRecord; split <;> rfl
@[simp] theorem State.closeRecord_tables (b : Bank) (cause : EndCause) : (s.closeRecord b cause).tables = s.tables := by
  unfold State.closeRecord; split <;> rfl
@[simp] theorem State.closeRecord_management (b : Bank) (cause : EndCause) : (s.closeRecord b cause).management = s.management := by
  unfold State.closeRecord; split <;> rfl
@[simp] theorem State.closeRecord_egress (b : Bank) (cause : EndCause) : (s.closeRecord b cause).egress = s.egress := by
  unfold State.closeRecord; split <;> rfl
@[simp] theorem State.closeRecord_loader (b : Bank) (cause : EndCause) : (s.closeRecord b cause).loader = s.loader := by
  unfold State.closeRecord; split <;> rfl
@[simp] theorem State.closeRecord_memory (b : Bank) (cause : EndCause) : (s.closeRecord b cause).memory = s.memory := by
  unfold State.closeRecord; split <;> rfl
@[simp] theorem State.closeRecord_straps (b : Bank) (cause : EndCause) : (s.closeRecord b cause).straps = s.straps := by
  unfold State.closeRecord; split <;> rfl
@[simp] theorem State.closeRecord_inReset (b : Bank) (cause : EndCause) : (s.closeRecord b cause).inReset = s.inReset := by
  unfold State.closeRecord; split <;> rfl
@[simp] theorem State.closeRecord_work (b : Bank) (cause : EndCause) : (s.closeRecord b cause).work = s.work := by
  unfold State.closeRecord; split <;> rfl
@[simp] theorem State.closeRecord_came (b : Bank) (cause : EndCause) : (s.closeRecord b cause).came = s.came := by
  unfold State.closeRecord; split <;> rfl
@[simp] theorem State.closeRecord_due (b : Bank) (cause : EndCause) : (s.closeRecord b cause).due = s.due := by
  unfold State.closeRecord; split <;> rfl
@[simp] theorem State.closeRecord_pending (b : Bank) (cause : EndCause) : (s.closeRecord b cause).pending = s.pending := by
  unfold State.closeRecord; split <;> rfl

/-! ### State.commitImage -/

@[simp] theorem State.commitImage_ingress : (s.commitImage).ingress = s.ingress := by
  simp [State.commitImage]
@[simp] theorem State.commitImage_store : (s.commitImage).store = s.store := by
  simp [State.commitImage]
@[simp] theorem State.commitImage_recorder : (s.commitImage).recorder = s.recorder := by
  simp [State.commitImage]
@[simp] theorem State.commitImage_management : (s.commitImage).management = s.management := by
  simp [State.commitImage]
@[simp] theorem State.commitImage_egress : (s.commitImage).egress = s.egress := by
  simp [State.commitImage]
@[simp] theorem State.commitImage_memory : (s.commitImage).memory = s.memory := by
  simp [State.commitImage]
@[simp] theorem State.commitImage_straps : (s.commitImage).straps = s.straps := by
  simp [State.commitImage]
@[simp] theorem State.commitImage_inReset : (s.commitImage).inReset = s.inReset := by
  simp [State.commitImage]
@[simp] theorem State.commitImage_pending : (s.commitImage).pending = s.pending := by
  simp [State.commitImage]

/-! ### State.takeCommit -/

@[simp] theorem State.takeCommit_ingress (r : Request) : (s.takeCommit r).ingress = s.ingress := by
  simp [State.takeCommit]
@[simp] theorem State.takeCommit_store (r : Request) : (s.takeCommit r).store = s.store := by
  simp [State.takeCommit]
@[simp] theorem State.takeCommit_engines (r : Request) : (s.takeCommit r).engines = s.engines := by
  simp [State.takeCommit]
@[simp] theorem State.takeCommit_flags (r : Request) : (s.takeCommit r).flags = s.flags := by
  simp [State.takeCommit]
@[simp] theorem State.takeCommit_recorder (r : Request) : (s.takeCommit r).recorder = s.recorder := by
  simp [State.takeCommit]
@[simp] theorem State.takeCommit_loader (r : Request) : (s.takeCommit r).loader = s.loader := by
  simp [State.takeCommit]
@[simp] theorem State.takeCommit_memory (r : Request) : (s.takeCommit r).memory = s.memory := by
  simp [State.takeCommit]
@[simp] theorem State.takeCommit_straps (r : Request) : (s.takeCommit r).straps = s.straps := by
  simp [State.takeCommit]
@[simp] theorem State.takeCommit_inReset (r : Request) : (s.takeCommit r).inReset = s.inReset := by
  simp [State.takeCommit]
@[simp] theorem State.takeCommit_due (r : Request) : (s.takeCommit r).due = s.due := by
  simp [State.takeCommit]
@[simp] theorem State.takeCommit_pending (r : Request) : (s.takeCommit r).pending = s.pending := by
  simp [State.takeCommit]

/-! ### State.expireCommit -/

@[simp] theorem State.expireCommit_ingress (r : Request) : (s.expireCommit r).ingress = s.ingress := by
  simp [State.expireCommit]
@[simp] theorem State.expireCommit_tracker (r : Request) : (s.expireCommit r).tracker = s.tracker := by
  simp [State.expireCommit]
@[simp] theorem State.expireCommit_monitor (r : Request) : (s.expireCommit r).monitor = s.monitor := by
  simp [State.expireCommit]
@[simp] theorem State.expireCommit_store (r : Request) : (s.expireCommit r).store = s.store := by
  simp [State.expireCommit]
@[simp] theorem State.expireCommit_engines (r : Request) : (s.expireCommit r).engines = s.engines := by
  simp [State.expireCommit]
@[simp] theorem State.expireCommit_verifier (r : Request) : (s.expireCommit r).verifier = s.verifier := by
  simp [State.expireCommit]
@[simp] theorem State.expireCommit_flags (r : Request) : (s.expireCommit r).flags = s.flags := by
  simp [State.expireCommit]
@[simp] theorem State.expireCommit_recorder (r : Request) : (s.expireCommit r).recorder = s.recorder := by
  simp [State.expireCommit]
@[simp] theorem State.expireCommit_maps (r : Request) : (s.expireCommit r).maps = s.maps := by
  simp [State.expireCommit]
@[simp] theorem State.expireCommit_tables (r : Request) : (s.expireCommit r).tables = s.tables := by
  simp [State.expireCommit]
@[simp] theorem State.expireCommit_loader (r : Request) : (s.expireCommit r).loader = s.loader := by
  simp [State.expireCommit]
@[simp] theorem State.expireCommit_memory (r : Request) : (s.expireCommit r).memory = s.memory := by
  simp [State.expireCommit]
@[simp] theorem State.expireCommit_straps (r : Request) : (s.expireCommit r).straps = s.straps := by
  simp [State.expireCommit]
@[simp] theorem State.expireCommit_inReset (r : Request) : (s.expireCommit r).inReset = s.inReset := by
  simp [State.expireCommit]
@[simp] theorem State.expireCommit_work (r : Request) : (s.expireCommit r).work = s.work := by
  simp [State.expireCommit]
@[simp] theorem State.expireCommit_due (r : Request) : (s.expireCommit r).due = s.due := by
  simp [State.expireCommit]
@[simp] theorem State.expireCommit_pending (r : Request) : (s.expireCommit r).pending = s.pending := by
  simp [State.expireCommit]

/-! ### State.testCommit -/

@[simp] theorem State.testCommit_ingress (r : Request) (zero : Bool) : (s.testCommit r zero).ingress = s.ingress := by
  unfold State.testCommit; repeat' split
  all_goals simp
@[simp] theorem State.testCommit_store (r : Request) (zero : Bool) : (s.testCommit r zero).store = s.store := by
  unfold State.testCommit; repeat' split
  all_goals simp
@[simp] theorem State.testCommit_engines (r : Request) (zero : Bool) : (s.testCommit r zero).engines = s.engines := by
  unfold State.testCommit; repeat' split
  all_goals simp
@[simp] theorem State.testCommit_flags (r : Request) (zero : Bool) : (s.testCommit r zero).flags = s.flags := by
  unfold State.testCommit; repeat' split
  all_goals simp
@[simp] theorem State.testCommit_recorder (r : Request) (zero : Bool) : (s.testCommit r zero).recorder = s.recorder := by
  unfold State.testCommit; repeat' split
  all_goals simp
@[simp] theorem State.testCommit_loader (r : Request) (zero : Bool) : (s.testCommit r zero).loader = s.loader := by
  unfold State.testCommit; repeat' split
  all_goals simp
@[simp] theorem State.testCommit_memory (r : Request) (zero : Bool) : (s.testCommit r zero).memory = s.memory := by
  unfold State.testCommit; repeat' split
  all_goals simp
@[simp] theorem State.testCommit_straps (r : Request) (zero : Bool) : (s.testCommit r zero).straps = s.straps := by
  unfold State.testCommit; repeat' split
  all_goals simp
@[simp] theorem State.testCommit_inReset (r : Request) (zero : Bool) : (s.testCommit r zero).inReset = s.inReset := by
  unfold State.testCommit; repeat' split
  all_goals simp
@[simp] theorem State.testCommit_due (r : Request) (zero : Bool) : (s.testCommit r zero).due = s.due := by
  unfold State.testCommit; repeat' split
  all_goals simp
@[simp] theorem State.testCommit_pending (r : Request) (zero : Bool) : (s.testCommit r zero).pending = s.pending := by
  unfold State.testCommit; repeat' split
  all_goals simp

/-! ### State.ageCommit -/

@[simp] theorem State.ageCommit_ingress (zero : Bool) : (s.ageCommit zero).ingress = s.ingress := by
  unfold State.ageCommit; repeat' split
  all_goals simp
@[simp] theorem State.ageCommit_store (zero : Bool) : (s.ageCommit zero).store = s.store := by
  unfold State.ageCommit; repeat' split
  all_goals simp
@[simp] theorem State.ageCommit_engines (zero : Bool) : (s.ageCommit zero).engines = s.engines := by
  unfold State.ageCommit; repeat' split
  all_goals simp
@[simp] theorem State.ageCommit_flags (zero : Bool) : (s.ageCommit zero).flags = s.flags := by
  unfold State.ageCommit; repeat' split
  all_goals simp
@[simp] theorem State.ageCommit_recorder (zero : Bool) : (s.ageCommit zero).recorder = s.recorder := by
  unfold State.ageCommit; repeat' split
  all_goals simp
@[simp] theorem State.ageCommit_loader (zero : Bool) : (s.ageCommit zero).loader = s.loader := by
  unfold State.ageCommit; repeat' split
  all_goals simp
@[simp] theorem State.ageCommit_memory (zero : Bool) : (s.ageCommit zero).memory = s.memory := by
  unfold State.ageCommit; repeat' split
  all_goals simp
@[simp] theorem State.ageCommit_straps (zero : Bool) : (s.ageCommit zero).straps = s.straps := by
  unfold State.ageCommit; repeat' split
  all_goals simp
@[simp] theorem State.ageCommit_inReset (zero : Bool) : (s.ageCommit zero).inReset = s.inReset := by
  unfold State.ageCommit; repeat' split
  all_goals simp
@[simp] theorem State.ageCommit_due (zero : Bool) : (s.ageCommit zero).due = s.due := by
  unfold State.ageCommit; repeat' split
  all_goals simp
@[simp] theorem State.ageCommit_pending (zero : Bool) : (s.ageCommit zero).pending = s.pending := by
  unfold State.ageCommit; repeat' split
  all_goals simp

/-! ### State.waitImage -/

@[simp] theorem State.waitImage_ingress : (s.waitImage).ingress = s.ingress := by
  unfold State.waitImage; split <;> simp
@[simp] theorem State.waitImage_store : (s.waitImage).store = s.store := by
  unfold State.waitImage; split <;> simp
@[simp] theorem State.waitImage_recorder : (s.waitImage).recorder = s.recorder := by
  unfold State.waitImage; split <;> simp
@[simp] theorem State.waitImage_management : (s.waitImage).management = s.management := by
  unfold State.waitImage; split <;> simp
@[simp] theorem State.waitImage_egress : (s.waitImage).egress = s.egress := by
  unfold State.waitImage; split <;> simp
@[simp] theorem State.waitImage_memory : (s.waitImage).memory = s.memory := by
  unfold State.waitImage; split <;> simp
@[simp] theorem State.waitImage_straps : (s.waitImage).straps = s.straps := by
  unfold State.waitImage; split <;> simp
@[simp] theorem State.waitImage_inReset : (s.waitImage).inReset = s.inReset := by
  unfold State.waitImage; split <;> simp
@[simp] theorem State.waitImage_pending : (s.waitImage).pending = s.pending := by
  unfold State.waitImage; split <;> simp

/-! ### State.setEcho -/

@[simp] theorem State.setEcho_ingress (r : Request) (on : Bool) : (s.setEcho r on).ingress = s.ingress := by
  unfold State.setEcho; split <;> simp
@[simp] theorem State.setEcho_tracker (r : Request) (on : Bool) : (s.setEcho r on).tracker = s.tracker := by
  unfold State.setEcho; split <;> simp
@[simp] theorem State.setEcho_monitor (r : Request) (on : Bool) : (s.setEcho r on).monitor = s.monitor := by
  unfold State.setEcho; split <;> simp
@[simp] theorem State.setEcho_store (r : Request) (on : Bool) : (s.setEcho r on).store = s.store := by
  unfold State.setEcho; split <;> simp
@[simp] theorem State.setEcho_engines (r : Request) (on : Bool) : (s.setEcho r on).engines = s.engines := by
  unfold State.setEcho; split <;> simp
@[simp] theorem State.setEcho_verifier (r : Request) (on : Bool) : (s.setEcho r on).verifier = s.verifier := by
  unfold State.setEcho; split <;> simp
@[simp] theorem State.setEcho_flags (r : Request) (on : Bool) : (s.setEcho r on).flags = s.flags := by
  unfold State.setEcho; split <;> simp
@[simp] theorem State.setEcho_recorder (r : Request) (on : Bool) : (s.setEcho r on).recorder = s.recorder := by
  unfold State.setEcho; split <;> simp
@[simp] theorem State.setEcho_maps (r : Request) (on : Bool) : (s.setEcho r on).maps = s.maps := by
  unfold State.setEcho; split <;> simp
@[simp] theorem State.setEcho_tables (r : Request) (on : Bool) : (s.setEcho r on).tables = s.tables := by
  unfold State.setEcho; split <;> simp
@[simp] theorem State.setEcho_loader (r : Request) (on : Bool) : (s.setEcho r on).loader = s.loader := by
  unfold State.setEcho; split <;> simp
@[simp] theorem State.setEcho_memory (r : Request) (on : Bool) : (s.setEcho r on).memory = s.memory := by
  unfold State.setEcho; split <;> simp
@[simp] theorem State.setEcho_straps (r : Request) (on : Bool) : (s.setEcho r on).straps = s.straps := by
  unfold State.setEcho; split <;> simp
@[simp] theorem State.setEcho_inReset (r : Request) (on : Bool) : (s.setEcho r on).inReset = s.inReset := by
  unfold State.setEcho; split <;> simp
@[simp] theorem State.setEcho_work (r : Request) (on : Bool) : (s.setEcho r on).work = s.work := by
  unfold State.setEcho; split <;> simp
@[simp] theorem State.setEcho_came (r : Request) (on : Bool) : (s.setEcho r on).came = s.came := by
  unfold State.setEcho; split <;> simp
@[simp] theorem State.setEcho_due (r : Request) (on : Bool) : (s.setEcho r on).due = s.due := by
  unfold State.setEcho; split <;> simp
@[simp] theorem State.setEcho_pending (r : Request) (on : Bool) : (s.setEcho r on).pending = s.pending := by
  unfold State.setEcho; split <;> simp

/-! ### State.settleEcho -/

@[simp] theorem State.settleEcho_ingress : (s.settleEcho).ingress = s.ingress := by
  unfold State.settleEcho; split <;> simp
@[simp] theorem State.settleEcho_tracker : (s.settleEcho).tracker = s.tracker := by
  unfold State.settleEcho; split <;> simp
@[simp] theorem State.settleEcho_monitor : (s.settleEcho).monitor = s.monitor := by
  unfold State.settleEcho; split <;> simp
@[simp] theorem State.settleEcho_store : (s.settleEcho).store = s.store := by
  unfold State.settleEcho; split <;> simp
@[simp] theorem State.settleEcho_engines : (s.settleEcho).engines = s.engines := by
  unfold State.settleEcho; split <;> simp
@[simp] theorem State.settleEcho_verifier : (s.settleEcho).verifier = s.verifier := by
  unfold State.settleEcho; split <;> simp
@[simp] theorem State.settleEcho_flags : (s.settleEcho).flags = s.flags := by
  unfold State.settleEcho; split <;> simp
@[simp] theorem State.settleEcho_recorder : (s.settleEcho).recorder = s.recorder := by
  unfold State.settleEcho; split <;> simp
@[simp] theorem State.settleEcho_maps : (s.settleEcho).maps = s.maps := by
  unfold State.settleEcho; split <;> simp
@[simp] theorem State.settleEcho_tables : (s.settleEcho).tables = s.tables := by
  unfold State.settleEcho; split <;> simp
@[simp] theorem State.settleEcho_loader : (s.settleEcho).loader = s.loader := by
  unfold State.settleEcho; split <;> simp
@[simp] theorem State.settleEcho_memory : (s.settleEcho).memory = s.memory := by
  unfold State.settleEcho; split <;> simp
@[simp] theorem State.settleEcho_straps : (s.settleEcho).straps = s.straps := by
  unfold State.settleEcho; split <;> simp
@[simp] theorem State.settleEcho_inReset : (s.settleEcho).inReset = s.inReset := by
  unfold State.settleEcho; split <;> simp
@[simp] theorem State.settleEcho_work : (s.settleEcho).work = s.work := by
  unfold State.settleEcho; split <;> simp
@[simp] theorem State.settleEcho_came : (s.settleEcho).came = s.came := by
  unfold State.settleEcho; split <;> simp
@[simp] theorem State.settleEcho_due : (s.settleEcho).due = s.due := by
  unfold State.settleEcho; split <;> simp
@[simp] theorem State.settleEcho_pending : (s.settleEcho).pending = s.pending := by
  unfold State.settleEcho; split <;> simp

/-! ### State.endCell -/

@[simp] theorem State.endCell_ingress (zero : Bool) : (s.endCell zero).ingress = s.ingress := by
  simp [State.endCell]
@[simp] theorem State.endCell_store (zero : Bool) : (s.endCell zero).store = s.store := by
  simp [State.endCell]
@[simp] theorem State.endCell_recorder (zero : Bool) : (s.endCell zero).recorder = s.recorder := by
  simp [State.endCell]
@[simp] theorem State.endCell_memory (zero : Bool) : (s.endCell zero).memory = s.memory := by
  simp [State.endCell]
@[simp] theorem State.endCell_straps (zero : Bool) : (s.endCell zero).straps = s.straps := by
  simp [State.endCell]
@[simp] theorem State.endCell_inReset (zero : Bool) : (s.endCell zero).inReset = s.inReset := by
  simp [State.endCell]
@[simp] theorem State.endCell_pending (zero : Bool) : (s.endCell zero).pending = s.pending := by
  simp [State.endCell]

/-! ### State.workMissing -/

@[simp] theorem State.workMissing_store (w : Work) : (s.workMissing w).store = s.store := by
  simp [State.workMissing]
@[simp] theorem State.workMissing_recorder (w : Work) : (s.workMissing w).recorder = s.recorder := by
  simp [State.workMissing]
@[simp] theorem State.workMissing_memory (w : Work) : (s.workMissing w).memory = s.memory := by
  simp [State.workMissing]
@[simp] theorem State.workMissing_straps (w : Work) : (s.workMissing w).straps = s.straps := by
  simp [State.workMissing]
@[simp] theorem State.workMissing_inReset (w : Work) : (s.workMissing w).inReset = s.inReset := by
  simp [State.workMissing]
@[simp] theorem State.workMissing_pending (w : Work) : (s.workMissing w).pending = s.pending := by
  simp [State.workMissing]

/-! ### State.switchEpoch -/

@[simp] theorem State.switchEpoch_ingress : (s.switchEpoch).ingress = s.ingress := by
  unfold State.switchEpoch; split <;> simp
@[simp] theorem State.switchEpoch_tracker : (s.switchEpoch).tracker = s.tracker := by
  unfold State.switchEpoch; split <;> simp
@[simp] theorem State.switchEpoch_monitor : (s.switchEpoch).monitor = s.monitor := by
  unfold State.switchEpoch; split <;> simp
@[simp] theorem State.switchEpoch_store : (s.switchEpoch).store = s.store := by
  unfold State.switchEpoch; split <;> simp
@[simp] theorem State.switchEpoch_recorder : (s.switchEpoch).recorder = s.recorder := by
  unfold State.switchEpoch; split <;> simp
@[simp] theorem State.switchEpoch_tables : (s.switchEpoch).tables = s.tables := by
  unfold State.switchEpoch; split <;> simp
@[simp] theorem State.switchEpoch_management : (s.switchEpoch).management = s.management := by
  unfold State.switchEpoch; split <;> simp
@[simp] theorem State.switchEpoch_egress : (s.switchEpoch).egress = s.egress := by
  unfold State.switchEpoch; split <;> simp
@[simp] theorem State.switchEpoch_loader : (s.switchEpoch).loader = s.loader := by
  unfold State.switchEpoch; split <;> simp
@[simp] theorem State.switchEpoch_memory : (s.switchEpoch).memory = s.memory := by
  unfold State.switchEpoch; split <;> simp
@[simp] theorem State.switchEpoch_straps : (s.switchEpoch).straps = s.straps := by
  unfold State.switchEpoch; split <;> simp
@[simp] theorem State.switchEpoch_inReset : (s.switchEpoch).inReset = s.inReset := by
  unfold State.switchEpoch; split <;> simp
@[simp] theorem State.switchEpoch_work : (s.switchEpoch).work = s.work := by
  unfold State.switchEpoch; split <;> simp
@[simp] theorem State.switchEpoch_came : (s.switchEpoch).came = s.came := by
  unfold State.switchEpoch; split <;> simp
@[simp] theorem State.switchEpoch_due : (s.switchEpoch).due = s.due := by
  unfold State.switchEpoch; split <;> simp
@[simp] theorem State.switchEpoch_pending : (s.switchEpoch).pending = s.pending := by
  unfold State.switchEpoch; split <;> simp

/-! ### State.settleSwitch -/

@[simp] theorem State.settleSwitch_ingress : (s.settleSwitch).ingress = s.ingress := by
  unfold State.settleSwitch; repeat' split
  all_goals simp
@[simp] theorem State.settleSwitch_tracker : (s.settleSwitch).tracker = s.tracker := by
  unfold State.settleSwitch; repeat' split
  all_goals simp
@[simp] theorem State.settleSwitch_monitor : (s.settleSwitch).monitor = s.monitor := by
  unfold State.settleSwitch; repeat' split
  all_goals simp
@[simp] theorem State.settleSwitch_store : (s.settleSwitch).store = s.store := by
  unfold State.settleSwitch; repeat' split
  all_goals simp
@[simp] theorem State.settleSwitch_recorder : (s.settleSwitch).recorder = s.recorder := by
  unfold State.settleSwitch; repeat' split
  all_goals simp
@[simp] theorem State.settleSwitch_tables : (s.settleSwitch).tables = s.tables := by
  unfold State.settleSwitch; repeat' split
  all_goals simp
@[simp] theorem State.settleSwitch_management : (s.settleSwitch).management = s.management := by
  unfold State.settleSwitch; repeat' split
  all_goals simp
@[simp] theorem State.settleSwitch_egress : (s.settleSwitch).egress = s.egress := by
  unfold State.settleSwitch; repeat' split
  all_goals simp
@[simp] theorem State.settleSwitch_loader : (s.settleSwitch).loader = s.loader := by
  unfold State.settleSwitch; repeat' split
  all_goals simp
@[simp] theorem State.settleSwitch_memory : (s.settleSwitch).memory = s.memory := by
  unfold State.settleSwitch; repeat' split
  all_goals simp
@[simp] theorem State.settleSwitch_straps : (s.settleSwitch).straps = s.straps := by
  unfold State.settleSwitch; repeat' split
  all_goals simp
@[simp] theorem State.settleSwitch_inReset : (s.settleSwitch).inReset = s.inReset := by
  unfold State.settleSwitch; repeat' split
  all_goals simp
@[simp] theorem State.settleSwitch_came : (s.settleSwitch).came = s.came := by
  unfold State.settleSwitch; repeat' split
  all_goals simp
@[simp] theorem State.settleSwitch_due : (s.settleSwitch).due = s.due := by
  unfold State.settleSwitch; repeat' split
  all_goals simp
@[simp] theorem State.settleSwitch_pending : (s.settleSwitch).pending = s.pending := by
  unfold State.settleSwitch; repeat' split
  all_goals simp

/-! ### State.abandonChange -/

@[simp] theorem State.abandonChange_ingress (b : Bank) : (s.abandonChange b).ingress = s.ingress := by
  unfold State.abandonChange; split <;> simp
@[simp] theorem State.abandonChange_tracker (b : Bank) : (s.abandonChange b).tracker = s.tracker := by
  unfold State.abandonChange; split <;> simp
@[simp] theorem State.abandonChange_monitor (b : Bank) : (s.abandonChange b).monitor = s.monitor := by
  unfold State.abandonChange; split <;> simp
@[simp] theorem State.abandonChange_store (b : Bank) : (s.abandonChange b).store = s.store := by
  unfold State.abandonChange; split <;> simp
@[simp] theorem State.abandonChange_recorder (b : Bank) : (s.abandonChange b).recorder = s.recorder := by
  unfold State.abandonChange; split <;> simp
@[simp] theorem State.abandonChange_tables (b : Bank) : (s.abandonChange b).tables = s.tables := by
  unfold State.abandonChange; split <;> simp
@[simp] theorem State.abandonChange_management (b : Bank) : (s.abandonChange b).management = s.management := by
  unfold State.abandonChange; split <;> simp
@[simp] theorem State.abandonChange_egress (b : Bank) : (s.abandonChange b).egress = s.egress := by
  unfold State.abandonChange; split <;> simp
@[simp] theorem State.abandonChange_loader (b : Bank) : (s.abandonChange b).loader = s.loader := by
  unfold State.abandonChange; split <;> simp
@[simp] theorem State.abandonChange_memory (b : Bank) : (s.abandonChange b).memory = s.memory := by
  unfold State.abandonChange; split <;> simp
@[simp] theorem State.abandonChange_straps (b : Bank) : (s.abandonChange b).straps = s.straps := by
  unfold State.abandonChange; split <;> simp
@[simp] theorem State.abandonChange_inReset (b : Bank) : (s.abandonChange b).inReset = s.inReset := by
  unfold State.abandonChange; split <;> simp
@[simp] theorem State.abandonChange_work (b : Bank) : (s.abandonChange b).work = s.work := by
  unfold State.abandonChange; split <;> simp
@[simp] theorem State.abandonChange_due (b : Bank) : (s.abandonChange b).due = s.due := by
  unfold State.abandonChange; split <;> simp
@[simp] theorem State.abandonChange_pending (b : Bank) : (s.abandonChange b).pending = s.pending := by
  unfold State.abandonChange; split <;> simp

/-! ### State.recordCell -/

@[simp] theorem State.recordCell_ingress (w : Work) : (s.recordCell w).ingress = s.ingress := by
  unfold State.recordCell; split <;> simp
@[simp] theorem State.recordCell_tracker (w : Work) : (s.recordCell w).tracker = s.tracker := by
  unfold State.recordCell; split <;> simp
@[simp] theorem State.recordCell_monitor (w : Work) : (s.recordCell w).monitor = s.monitor := by
  unfold State.recordCell; split <;> simp
@[simp] theorem State.recordCell_store (w : Work) : (s.recordCell w).store = s.store := by
  unfold State.recordCell; split <;> simp
@[simp] theorem State.recordCell_engines (w : Work) : (s.recordCell w).engines = s.engines := by
  unfold State.recordCell; split <;> simp
@[simp] theorem State.recordCell_verifier (w : Work) : (s.recordCell w).verifier = s.verifier := by
  unfold State.recordCell; split <;> simp
@[simp] theorem State.recordCell_maps (w : Work) : (s.recordCell w).maps = s.maps := by
  unfold State.recordCell; split <;> simp
@[simp] theorem State.recordCell_tables (w : Work) : (s.recordCell w).tables = s.tables := by
  unfold State.recordCell; split <;> simp
@[simp] theorem State.recordCell_management (w : Work) : (s.recordCell w).management = s.management := by
  unfold State.recordCell; split <;> simp
@[simp] theorem State.recordCell_egress (w : Work) : (s.recordCell w).egress = s.egress := by
  unfold State.recordCell; split <;> simp
@[simp] theorem State.recordCell_loader (w : Work) : (s.recordCell w).loader = s.loader := by
  unfold State.recordCell; split <;> simp
@[simp] theorem State.recordCell_memory (w : Work) : (s.recordCell w).memory = s.memory := by
  unfold State.recordCell; split <;> simp
@[simp] theorem State.recordCell_straps (w : Work) : (s.recordCell w).straps = s.straps := by
  unfold State.recordCell; split <;> simp
@[simp] theorem State.recordCell_inReset (w : Work) : (s.recordCell w).inReset = s.inReset := by
  unfold State.recordCell; split <;> simp
@[simp] theorem State.recordCell_work (w : Work) : (s.recordCell w).work = s.work := by
  unfold State.recordCell; split <;> simp
@[simp] theorem State.recordCell_came (w : Work) : (s.recordCell w).came = s.came := by
  unfold State.recordCell; split <;> simp
@[simp] theorem State.recordCell_due (w : Work) : (s.recordCell w).due = s.due := by
  unfold State.recordCell; split <;> simp
@[simp] theorem State.recordCell_pending (w : Work) : (s.recordCell w).pending = s.pending := by
  unfold State.recordCell; split <;> simp

/-! ### State.lateRestart -/

@[simp] theorem State.lateRestart_ingress (w : Work) : (s.lateRestart w).ingress = s.ingress := by
  unfold State.lateRestart; split <;> simp
@[simp] theorem State.lateRestart_tracker (w : Work) : (s.lateRestart w).tracker = s.tracker := by
  unfold State.lateRestart; split <;> simp
@[simp] theorem State.lateRestart_monitor (w : Work) : (s.lateRestart w).monitor = s.monitor := by
  unfold State.lateRestart; split <;> simp
@[simp] theorem State.lateRestart_store (w : Work) : (s.lateRestart w).store = s.store := by
  unfold State.lateRestart; split <;> simp
@[simp] theorem State.lateRestart_engines (w : Work) : (s.lateRestart w).engines = s.engines := by
  unfold State.lateRestart; split <;> simp
@[simp] theorem State.lateRestart_verifier (w : Work) : (s.lateRestart w).verifier = s.verifier := by
  unfold State.lateRestart; split <;> simp
@[simp] theorem State.lateRestart_flags (w : Work) : (s.lateRestart w).flags = s.flags := by
  unfold State.lateRestart; split <;> simp
@[simp] theorem State.lateRestart_recorder (w : Work) : (s.lateRestart w).recorder = s.recorder := by
  unfold State.lateRestart; split <;> simp
@[simp] theorem State.lateRestart_tables (w : Work) : (s.lateRestart w).tables = s.tables := by
  unfold State.lateRestart; split <;> simp
@[simp] theorem State.lateRestart_management (w : Work) : (s.lateRestart w).management = s.management := by
  unfold State.lateRestart; split <;> simp
@[simp] theorem State.lateRestart_egress (w : Work) : (s.lateRestart w).egress = s.egress := by
  unfold State.lateRestart; split <;> simp
@[simp] theorem State.lateRestart_loader (w : Work) : (s.lateRestart w).loader = s.loader := by
  unfold State.lateRestart; split <;> simp
@[simp] theorem State.lateRestart_memory (w : Work) : (s.lateRestart w).memory = s.memory := by
  unfold State.lateRestart; split <;> simp
@[simp] theorem State.lateRestart_straps (w : Work) : (s.lateRestart w).straps = s.straps := by
  unfold State.lateRestart; split <;> simp
@[simp] theorem State.lateRestart_inReset (w : Work) : (s.lateRestart w).inReset = s.inReset := by
  unfold State.lateRestart; split <;> simp
@[simp] theorem State.lateRestart_work (w : Work) : (s.lateRestart w).work = s.work := by
  unfold State.lateRestart; split <;> simp
@[simp] theorem State.lateRestart_came (w : Work) : (s.lateRestart w).came = s.came := by
  unfold State.lateRestart; split <;> simp
@[simp] theorem State.lateRestart_due (w : Work) : (s.lateRestart w).due = s.due := by
  unfold State.lateRestart; split <;> simp
@[simp] theorem State.lateRestart_pending (w : Work) : (s.lateRestart w).pending = s.pending := by
  unfold State.lateRestart; split <;> simp

/-! ### State.finishCell -/

@[simp] theorem State.finishCell_ingress (w : Work) : (s.finishCell w).ingress = s.ingress := by
  simp [State.finishCell]
@[simp] theorem State.finishCell_store (w : Work) : (s.finishCell w).store = s.store := by
  simp [State.finishCell]
@[simp] theorem State.finishCell_memory (w : Work) : (s.finishCell w).memory = s.memory := by
  simp [State.finishCell]
@[simp] theorem State.finishCell_straps (w : Work) : (s.finishCell w).straps = s.straps := by
  simp [State.finishCell]
@[simp] theorem State.finishCell_inReset (w : Work) : (s.finishCell w).inReset = s.inReset := by
  simp [State.finishCell]
@[simp] theorem State.finishCell_pending (w : Work) : (s.finishCell w).pending = s.pending := by
  simp [State.finishCell]

/-! ### One advance of the work, and the work carried on -/

@[simp] theorem State.advance_memory : s.advance.memory = s.memory := by
  unfold State.advance; repeat' split
  all_goals simp

@[simp] theorem State.advanceTo_memory (p : WorkPoint) (n : Nat) : (State.advanceTo p n s).memory = s.memory := by
  induction n generalizing s with
  | zero => rfl
  | succ n ih =>
    unfold State.advanceTo
    split
    · rfl
    · split
      · rfl
      · rw [ih]; simp

@[simp] theorem State.workTo_memory (p : WorkPoint) : (s.workTo p).memory = s.memory := by
  unfold State.workTo; split <;> simp

@[simp] theorem State.finishWork_memory : s.finishWork.memory = s.memory := by
  simp [State.finishWork]

@[simp] theorem State.advance_straps : s.advance.straps = s.straps := by
  unfold State.advance; repeat' split
  all_goals simp

@[simp] theorem State.advanceTo_straps (p : WorkPoint) (n : Nat) : (State.advanceTo p n s).straps = s.straps := by
  induction n generalizing s with
  | zero => rfl
  | succ n ih =>
    unfold State.advanceTo
    split
    · rfl
    · split
      · rfl
      · rw [ih]; simp

@[simp] theorem State.workTo_straps (p : WorkPoint) : (s.workTo p).straps = s.straps := by
  unfold State.workTo; split <;> simp

@[simp] theorem State.finishWork_straps : s.finishWork.straps = s.straps := by
  simp [State.finishWork]

@[simp] theorem State.advance_inReset : s.advance.inReset = s.inReset := by
  unfold State.advance; repeat' split
  all_goals simp

@[simp] theorem State.advanceTo_inReset (p : WorkPoint) (n : Nat) : (State.advanceTo p n s).inReset = s.inReset := by
  induction n generalizing s with
  | zero => rfl
  | succ n ih =>
    unfold State.advanceTo
    split
    · rfl
    · split
      · rfl
      · rw [ih]; simp

@[simp] theorem State.workTo_inReset (p : WorkPoint) : (s.workTo p).inReset = s.inReset := by
  unfold State.workTo; split <;> simp

@[simp] theorem State.finishWork_inReset : s.finishWork.inReset = s.inReset := by
  simp [State.finishWork]

@[simp] theorem State.advance_pending : s.advance.pending = s.pending := by
  unfold State.advance; repeat' split
  all_goals simp

@[simp] theorem State.advanceTo_pending (p : WorkPoint) (n : Nat) : (State.advanceTo p n s).pending = s.pending := by
  induction n generalizing s with
  | zero => rfl
  | succ n ih =>
    unfold State.advanceTo
    split
    · rfl
    · split
      · rfl
      · rw [ih]; simp

@[simp] theorem State.workTo_pending (p : WorkPoint) : (s.workTo p).pending = s.pending := by
  unfold State.workTo; split <;> simp

@[simp] theorem State.finishWork_pending : s.finishWork.pending = s.pending := by
  simp [State.finishWork]

end Sys2Proof.Machine
end

