-- ==== Sys2Proof/Laws/Ops.lean ====
section
/-! SUPPORT. One lemma for each shared operation of Machine/Ops.lean, saying once what it can do. -/
namespace Sys2Proof.Machine

/-! ### Families -/

@[simp] theorem PerFeeder.get_build {α : Type} (g : Feeder → α) (f : Feeder) : (PerFeeder.build g).get f = g f := by
  cases f <;> rfl

@[simp] theorem PerFeeder.get_map {α β : Type} (g : α → β) (v : PerFeeder α) (f : Feeder) :
    (v.map g).get f = g (v.get f) := by
  cases f <;> rfl

@[simp] theorem PerFeeder.get_fill {α : Type} (x : α) (f : Feeder) : (PerFeeder.fill x).get f = x := by
  cases f <;> rfl

theorem PerFeeder.get_set {α : Type} (v : PerFeeder α) (f g : Feeder) (x : α) :
    (v.set f x).get g = if g = f then x else v.get g := by
  cases f <;> cases g <;> rfl

@[simp] theorem PerPhase.get_build {α : Type} (g : Phase → α) (p : Phase) : (PerPhase.build g).get p = g p := by
  cases p <;> rfl

@[simp] theorem PerPhase.get_map {α β : Type} (g : α → β) (v : PerPhase α) (p : Phase) :
    (v.map g).get p = g (v.get p) := by
  cases p <;> rfl

@[simp] theorem Feeder.mem_all (f : Feeder) : f ∈ Feeder.all := by cases f <;> decide

theorem Counters.get_set (c : Counters) (k j : LinkCounter) (v : Nat) :
    (c.set k v).get j = if j = k then v else c.get j := by
  cases k <;> cases j <;> rfl

/-! ### Commands -/

/-- A command that acts does so on the state as it stands. -/
theorem State.ready_acts {s : State} (h : s.acts) (act : State → State) : s.ready act = act s := by
  simp [State.ready, State.carryDue, h.1, h.2]

/-- A request's step is carried out on the state that has taken it. -/
theorem State.request_requests {s : State} {c : Command} {r : Request} (h : s.requests c r)
    (act : Request → State → State) : s.request c act = act r (s.take r) := by
  simp [State.request, h.1, h.2]

/-- While the link is not free the Egress Port chooses nothing (R20). -/
theorem State.nextEgress_busy {s : State} (h : s.egress.onLink ≠ none) : s.nextEgress = s.egress := by
  unfold State.nextEgress
  split
  · rfl
  · contradiction

/-- The Egress Port's choice changes only what waits and what is being sent (R20). -/
theorem State.nextEgress_frame (s : State) :
    s.nextEgress = { s.egress with waiting := s.nextEgress.waiting, onLink := s.nextEgress.onLink } := by
  have key : s.nextEgress.cellTimer = s.egress.cellTimer ∧ s.nextEgress.lastSequence = s.egress.lastSequence
      ∧ s.nextEgress.echo = s.egress.echo := by
    unfold State.nextEgress
    repeat' split
    all_goals exact ⟨rfl, rfl, rfl⟩
  calc s.nextEgress = ⟨s.nextEgress.waiting, s.nextEgress.onLink, s.nextEgress.cellTimer, s.nextEgress.lastSequence,
        s.nextEgress.echo⟩ := rfl
    _ = _ := by rw [key.1, key.2.1, key.2.2]

/-- With the link free the Egress Port begins what goes next (R20, R21). -/
theorem State.nextEgress_free {s : State} (h : s.egress.onLink = none) :
    s.nextEgress = { s.egress with
      waiting := none
      onLink := nextSent s.egress.waiting s.management.replies s.maps.epoch s.flags.attention } := by
  unfold State.nextEgress nextSent
  rw [h]
  cases hw : s.egress.waiting with
  | some d => rfl
  | none =>
    cases s.management.replies with
    | nil => simp [← hw, ← h]
    | cons r rest => simp [State.replyWords, ← hw]

/-- The one thing an answer does (R169 to R171). -/
theorem State.answered_answer (s : State) (r : Request) (result : Result) (payload : List Word) :
    answered s ((s.take r).answer r result payload) r result payload := by
  unfold answered State.answer State.buffer State.egressAfter
  by_cases h : s.management.replies.length < 2
  · have room : (s.take r).management.hasRoom = true := by
      simpa [Management.hasRoom, State.take, Config.replyBufferSize] using h
    rw [if_pos room]
    by_cases hl : s.egress.onLink = none
    · unfold State.chooseNext
      rw [State.nextEgress_free (by exact hl)]
      simp only [h, hl, and_self, if_true, State.take, Management.join, Request.reply]
      rfl
    · unfold State.chooseNext
      rw [State.nextEgress_busy (by exact hl)]
      simp only [h, hl, false_and, if_true, if_false, State.take, Management.join, Request.reply]
      rfl
  · have room : ¬ (s.take r).management.hasRoom = true := by
      simpa [Management.hasRoom, State.take, Config.replyBufferSize] using h
    rw [if_neg room]
    simp only [h, and_false, if_false, State.take, Management.hold, Request.reply]
    rfl

end Sys2Proof.Machine
end

