-- ==== Sys2Proof/Laws/Cells.lean ====
section
/-! SUPPORT. The work of a cell as the composition of its stages, and what its last stage can do to what the stages before it
left. -/
namespace Sys2Proof.Machine

/-! ### What raising FEEDER_CHANGE and the epoch switch do -/

/-- A fold that raises FEEDER_CHANGE for some feeders of a list adds each of them to the set. -/
theorem FlagUnit.foldl_raiseChange_changed (p : Feeder → Prop) [DecidablePred p] (l : List Feeder) (u : FlagUnit) (f : Feeder) :
    (l.foldl (fun v g => if p g then v else v.raiseChange g) u).changed.get f
      = (u.changed.get f || decide (f ∈ l ∧ ¬ p f)) := by
  induction l generalizing u with
  | nil => simp
  | cons g l ih =>
    rw [List.foldl_cons, ih]
    by_cases hp : p g <;> by_cases hf : f = g <;>
      simp_all [FlagUnit.raiseChange, PerFeeder.get_set]

/-- A fold that raises FEEDER_CHANGE for some feeders of a list latches index 10 where there is one, and no other flag. -/
theorem FlagUnit.foldl_raiseChange_latched (p : Feeder → Prop) [DecidablePred p] (l : List Feeder) (u : FlagUnit) (i : Nat)
    (hi : i < 32) :
    (l.foldl (fun v g => if p g then v else v.raiseChange g) u).latched.getLsbD i
      = (u.latched.getLsbD i || (decide (i = 10) && l.any fun g => decide (¬ p g))) := by
  have bit : (flagBit DeviceFlag.feederChange.index).getLsbD i = decide (i = 10) := by interval_cases i <;> decide
  induction l generalizing u with
  | nil => simp
  | cons g l ih =>
    rw [List.foldl_cons, ih]
    by_cases hp : p g
    · simp [hp]
    · simp only [hp, if_false, FlagUnit.raiseChange, FlagUnit.latch, FlagUnit.latchIndex, BitVec.getLsbD_or, bit, List.any_cons]
      cases u.latched.getLsbD i <;> cases decide (i = 10) <;> simp

/-- Raising FEEDER_CHANGE over a move adds each feeder whose state differs to the set (R156). -/
theorem FlagUnit.raiseChanges_changed (u : FlagUnit) (before after : PerFeeder Engine) (f : Feeder) :
    (u.raiseChanges before after).changed.get f
      = (u.changed.get f || decide ((before.get f).state ≠ (after.get f).state)) := by
  unfold FlagUnit.raiseChanges
  rw [FlagUnit.foldl_raiseChange_changed]
  simp

/-- Raising FEEDER_CHANGE over a move latches index 10 where some feeder's state differs, and no other flag (R156). -/
theorem FlagUnit.raiseChanges_latched (u : FlagUnit) (before after : PerFeeder Engine) (i : Nat) (hi : i < 32) :
    (u.raiseChanges before after).latched.getLsbD i
      = (u.latched.getLsbD i
        || (decide (i = 10) && Feeder.all.any fun f => decide ((before.get f).state ≠ (after.get f).state))) :=
  FlagUnit.foldl_raiseChange_latched _ Feeder.all u i hi

/-- No cell is being worked exactly where none is under way or the work stands before a missing cell or the accepted one. -/
theorem State.betweenCells_iff (s : State) : s.betweenCells = true ↔ ∀ w, s.work = some w → w.stage = .accepted := by
  unfold State.betweenCells
  cases h : s.work with
  | none => simp
  | some w => simp

/-- With no switch to make, or a missing cell still to be worked, no switch is made. -/
theorem State.settleSwitch_waits {s : State} {w : Work} (h : s.work = some w) (hw : w.switches = false ∨ w.missing ≠ 0) :
    s.settleSwitch = s := by
  unfold State.settleSwitch
  rw [h]
  rcases hw with hw | hw <;> simp [hw]

/-! ### The stages in order -/

theorem State.advanceTo_ended_none {s : State} (h : s.work = none) (n : Nat) : State.advanceTo .ended n s = s := by
  cases n with
  | zero => rfl
  | succ n => unfold State.advanceTo; rw [h]

theorem State.advanceTo_ended_some {s : State} {w : Work} (h : s.work = some w) (n : Nat) :
    State.advanceTo .ended (n + 1) s = State.advanceTo .ended n s.advance := by
  conv_lhs => unfold State.advanceTo
  rw [h]
  rfl

theorem State.finishCell_work (s : State) (w : Work) : (s.finishCell w).work = none := rfl

/-- The work of a cell whose engines are done ends with the last stage. -/
theorem State.advanceTo_engined {s : State} {w : Work} (h : s.work = some w) (hs : w.stage = .engined) (n : Nat) :
    State.advanceTo .ended (n + 1) s = s.finishCell w := by
  rw [State.advanceTo_ended_some h, State.advanceTo_ended_none]
  · simp [State.advance, h, hs]
  · simp [State.advance, h, hs, State.finishCell_work]

/-- The work as the third stage leaves it. -/
def State.afterVerify (s : State) (w : Work) : Work := { w with stage := .engined, outputs := s.outputsVerified w }

/-- The work as the second stage leaves it. -/
def State.afterEngage (s : State) (w : Work) : Work :=
  { w with
    stage := .referenced, outputs := s.outputsFormed w
    faults := PerFeeder.build fun f => (s.tripped w).get f || (s.verifyFailed w).get f }

/-- The work of a cell between its reference steps and its verifier steps runs through the last two stages. -/
theorem State.advanceTo_referenced {s : State} {w : Work} (h : s.work = some w) (hs : w.stage = .referenced) (n : Nat) :
    State.advanceTo .ended (n + 2) s = (s.verifyCell w).finishCell (s.afterVerify w) := by
  rw [State.advanceTo_ended_some h]
  have : s.advance = s.verifyCell w := by simp [State.advance, h, hs]
  rw [this]
  exact State.advanceTo_engined rfl rfl n

/-- The last three stages of a cell's work. -/
def State.lastStages (s : State) (w : Work) : State :=
  ((s.engageCell w).verifyCell (s.afterEngage w)).finishCell ((s.engageCell w).afterVerify (s.afterEngage w))

/-- The work of a cell before its engines' work runs through the last three stages. -/
theorem State.advanceTo_tracked {s : State} {w : Work} (h : s.work = some w) (hs : w.stage = .tracked) (n : Nat) :
    State.advanceTo .ended (n + 3) s = s.lastStages w := by
  rw [State.advanceTo_ended_some h]
  have : s.advance = s.engageCell w := by simp [State.advance, h, hs]
  rw [this]
  exact State.advanceTo_referenced rfl rfl n

/-- The whole work of an accepted cell before which every missing cell has been worked. -/
theorem State.advanceTo_begins {s : State} {w : Work} (h : s.work = some w) (hs : w.stage = .accepted)
    (hm : w.missing = 0) (n : Nat) :
    State.advanceTo .ended (n + 4) s
      = State.advanceTo .ended (n + 3) (s.trackCell w) := by
  rw [State.advanceTo_ended_some h]
  have : s.advance = s.trackCell w := by simp [State.advance, h, hs, hm]
  rw [this]

theorem State.finishWork_eq {s : State} {w : Work} (h : s.work = some w) :
    s.finishWork = State.advanceTo .ended (w.missing + 4) s := by
  unfold State.finishWork State.workTo
  rw [h]
  rfl

/-- The end of the work of a cell whose engines are done. -/
theorem State.finishWork_engined {s : State} {w : Work} (h : s.work = some w) (hs : w.stage = .engined) :
    s.finishWork = s.finishCell w := by
  rw [State.finishWork_eq h]; exact State.advanceTo_engined h hs (w.missing + 3)

/-- The end of the work of a cell before its engines' work. -/
theorem State.finishWork_tracked {s : State} {w : Work} (h : s.work = some w) (hs : w.stage = .tracked) :
    s.finishWork = s.lastStages w := by
  rw [State.finishWork_eq h]; exact State.advanceTo_tracked h hs (w.missing + 1)

/-- The end of the work of a cell from its first stage. -/
theorem State.finishWork_begins {s : State} {w : Work} (h : s.work = some w) (hs : w.stage = .accepted)
    (hm : w.missing = 0) :
    s.finishWork = (s.trackCell w).lastStages (s.handOn w) := by
  rw [State.finishWork_eq h, hm, State.advanceTo_begins h hs hm]
  exact State.advanceTo_tracked rfl rfl 0

/-! ### What came about stays noted -/

theorem State.came_endCell {s : State} {x : Occurrence} (h : x ∈ s.came) (zero : Bool) : x ∈ (s.endCell zero).came := by
  have wait : ∀ t : State, x ∈ t.came → x ∈ t.waitImage.came := by
    intro t ht
    unfold State.waitImage
    split
    · simp only [State.commitImage, State.autoEnlist_came]
      exact List.mem_append_left _ ht
    · exact ht
  simp only [State.endCell, State.settleEcho_came]
  apply wait
  unfold State.ageCommit
  split
  · unfold State.testCommit
    split
    · simp only [State.takeCommit, State.answer_came, State.note]
      exact List.mem_append_left _ h
    · split
      · simp only [State.expireCommit, State.answer_came, State.note]
        exact List.mem_append_left _ h
      · exact h
  · exact h

theorem State.came_abandonChange {s : State} {x : Occurrence} (h : x ∈ s.came) (b : Bank) :
    x ∈ (s.abandonChange b).came := by
  unfold State.abandonChange
  split
  · simp only [State.dropChange, State.moveEnginesRaising_came]
    exact List.mem_append_left _ h
  · exact h

/-- What came about before the last stage is still noted after it. -/
theorem State.came_finishCell {s : State} {x : Occurrence} (h : x ∈ s.came) (w : Work) : x ∈ (s.finishCell w).came := by
  simp only [State.finishCell, State.endWork_came]
  apply State.came_endCell
  simp only [State.lateRestart_came, State.sendDrive_came]
  apply State.came_abandonChange
  simpa using h

/-- What comes about in the rest of the work carries it to its end. -/
theorem State.comesAbout_of_mem {s : State} {x : Occurrence} (h : x ∈ s.restOfWork.came) :
    State.comesAbout x s = s.restOfWork := by
  simp [State.comesAbout, h]

/-! ### What the last stage leaves of the monitor -/

/-- Only the monitor's windows and their sums may differ. -/
def sameMeasures (m n : Monitor) : Prop := n = { m with windows := n.windows, sums := n.sums }

theorem sameMeasures.refl (m : Monitor) : sameMeasures m m := rfl

theorem sameMeasures.trans {m n k : Monitor} (h : sameMeasures m n) (g : sameMeasures n k) : sameMeasures m k := by
  unfold sameMeasures at *
  rw [h] at g
  rw [g]

theorem State.sameMeasures_commitImage (s : State) : sameMeasures s.monitor s.commitImage.monitor := by
  simp only [State.commitImage, State.autoEnlist_monitor]
  rfl

theorem State.sameMeasures_endCell (s : State) (zero : Bool) : sameMeasures s.monitor (s.endCell zero).monitor := by
  have wait : ∀ t : State, sameMeasures t.monitor t.waitImage.monitor := by
    intro t
    unfold State.waitImage
    split
    · exact State.sameMeasures_commitImage t
    · exact sameMeasures.refl _
  simp only [State.endCell, State.settleEcho_monitor]
  refine sameMeasures.trans ?_ (wait _)
  unfold State.ageCommit
  split
  · unfold State.testCommit
    split
    · simp only [State.takeCommit, State.answer_monitor]
      rfl
    · split
      · simp only [State.expireCommit, State.answer_monitor]
        rfl
      · rfl
  · rfl

/-- The last stage changes the monitor by a commit's trimming alone. -/
theorem State.sameMeasures_finishCell (s : State) (w : Work) : sameMeasures s.monitor (s.finishCell w).monitor := by
  simp only [State.finishCell, State.endWork_monitor]
  refine sameMeasures.trans ?_ (State.sameMeasures_endCell _ _)
  simp only [State.lateRestart_monitor, State.sendDrive_monitor, State.abandonChange_monitor, State.recordCell_monitor]
  rfl

/-- The last stage leaves the recorder as its own part of it does. -/
theorem State.finishCell_recorder (s : State) (w : Work) : (s.finishCell w).recorder = (s.recordCell w).recorder := by
  simp [State.finishCell]

/-! ### Requests carried out between cells -/

/-- Where no cell's own work has begun the part stands between cells as it is. -/
theorem State.toBetween_of_accepted {s : State} (h : ∀ w, s.work = some w → w.stage = .accepted) : s.toBetween = s := by
  unfold State.toBetween State.betweenCells
  cases hw : s.work with
  | none => rfl
  | some w => simp [h w hw]

/-- Inside a cell's own work the part stands between cells once that work has ended. -/
theorem State.toBetween_of_working {s : State} {w : Work} (h : s.work = some w) (g : w.stage ≠ .accepted) :
    s.toBetween = s.finishWork := by
  simp [State.toBetween, State.betweenCells, h, g]

/-- A request carried out between cells acts on the state between cells that has taken it (R130). -/
theorem State.requestBetween_requests {s : State} {c : Command} {r : Request} (h : s.requests c r)
    (act : Request → State → State) : s.requestBetween c act = act r (s.toBetween.take r) := by
  simp [State.requestBetween, h.1, h.2]

end Sys2Proof.Machine
end

