-- ==== Sys2Proof/Laws/Memory.lean ====
section
/-! SUPPORT. The laws of the serial memory: a read after a write, and the canonical form kept by every operation. -/
namespace Sys2Proof.Machine

theorem Memory.wfAbove_weaken {m : Memory} {low high : Nat} (h : m.wfAbove high = true) (le : low ≤ high) :
    m.wfAbove low = true := by
  cases m with
  | nil => rfl
  | cons c rest =>
    simp only [Memory.wfAbove, Bool.and_eq_true, decide_eq_true_eq] at h ⊢
    exact ⟨⟨by omega, h.1.2⟩, h.2⟩

/-- A byte below every listed address reads as erased. -/
theorem Memory.read_below {m : Memory} {low address : Nat} (h : m.wfAbove low = true) (lt : address < low) :
    m.read address = erasedByte := by
  induction m generalizing low with
  | nil => rfl
  | cons c rest ih =>
    simp only [Memory.wfAbove, Bool.and_eq_true, decide_eq_true_eq] at h
    have : c.1 ≠ address := by omega
    simp only [Memory.read, this, if_false]
    exact ih h.2 (by omega)

/-- A write keeps the canonical form. -/
theorem Memory.wfAbove_write {m : Memory} {low address : Nat} {byte : Byte} (h : m.wfAbove low = true)
    (le : low ≤ address) : (m.write address byte).wfAbove low = true := by
  induction m generalizing low with
  | nil => by_cases hb : byte = erasedByte <;> simp [Memory.write, hb, Memory.wfAbove, le]
  | cons c rest ih =>
    have h' := h
    simp only [Memory.wfAbove, Bool.and_eq_true, decide_eq_true_eq] at h
    unfold Memory.write
    split
    · split
      · exact h'
      · simp only [Memory.wfAbove, Bool.and_eq_true, decide_eq_true_eq]
        exact ⟨⟨le, by assumption⟩, ⟨⟨by omega, h.1.2⟩, h.2⟩⟩
    · split
      · split
        · exact Memory.wfAbove_weaken h.2 (by omega)
        · simp only [Memory.wfAbove, Bool.and_eq_true, decide_eq_true_eq]
          refine ⟨⟨le, by assumption⟩, ?_⟩
          have : address = c.1 := by assumption
          rw [this]; exact h.2
      · simp only [Memory.wfAbove, Bool.and_eq_true, decide_eq_true_eq]
        exact ⟨h.1, ih h.2 (by omega)⟩

theorem Memory.wf_write {m : Memory} (h : m.wf = true) (address : Nat) (byte : Byte) :
    (m.write address byte).wf = true := Memory.wfAbove_write h (Nat.zero_le _)

theorem Memory.wf_writeFrom {m : Memory} (h : m.wf = true) (address : Nat) (bytes : List Byte) :
    (m.writeFrom address bytes).wf = true := by
  induction bytes generalizing m address with
  | nil => exact h
  | cons b rest ih => exact ih (Memory.wf_write h address b) (address + 1)

theorem Memory.wf_ofBytes (bytes : List Byte) : (Memory.ofBytes bytes).wf = true := Memory.wf_writeFrom rfl 0 bytes

/-- A read after a write: the byte written, and every other byte as before. -/
theorem Memory.read_write {m : Memory} {low : Nat} (h : m.wfAbove low = true) (address other : Nat) (byte : Byte) :
    (m.write address byte).read other = if other = address then byte else m.read other := by
  induction m generalizing low with
  | nil =>
    by_cases ho : other = address
    · subst ho
      by_cases hb : byte = erasedByte <;> simp [Memory.write, Memory.read, hb]
    · have : address ≠ other := fun e => ho e.symm
      by_cases hb : byte = erasedByte <;> simp [Memory.write, Memory.read, hb, ho, this]
  | cons c rest ih =>
    simp only [Memory.wfAbove, Bool.and_eq_true, decide_eq_true_eq] at h
    unfold Memory.write
    split
    · rename_i lt
      by_cases ho : other = address
      · subst ho
        have hne : c.1 ≠ other := by omega
        have hr : Memory.read rest other = erasedByte := Memory.read_below h.2 (by omega)
        by_cases hb : byte = erasedByte <;> simp [hb, Memory.read, hne, hr]
      · by_cases hb : byte = erasedByte <;> simp [hb, Memory.read, ho, Ne.symm ho]
    · split
      · rename_i eq
        by_cases ho : other = address
        · have hr : Memory.read rest other = erasedByte := Memory.read_below h.2 (by omega)
          by_cases hb : byte = erasedByte
          · simp [hb, ho] at hr ⊢; exact hr
          · simp [hb, Memory.read, ho]
        · have : c.1 ≠ other := by omega
          by_cases hb : byte = erasedByte <;> simp [hb, Memory.read, ho, Ne.symm ho, this]
      · by_cases hc : c.1 = other
        · have : other ≠ address := by omega
          simp [Memory.read, hc, this]
        · simp [Memory.read, hc, ih h.2]

end Sys2Proof.Machine
end

