-- ==== Sys2Proof/Laws/Tables.lean ====
section
/-! SUPPORT. What a write does to a bank's tables: a feeder's part replaced, the entries of a Response Table, the rows of an
envelope, and what a run of an image's records keeps. -/
namespace Sys2Proof.Machine

/-! ### One feeder's part of a bank -/

@[simp] theorem Bank.feeder_setFeeder (b : Bank) (f g : Feeder) (x : FeederBank) :
    (b.setFeeder f x).feeder g = if g = f then x else b.feeder g :=
  PerFeeder.get_set b.feeders f g x

@[simp] theorem Bank.read_setFeeder (b : Bank) (f : Feeder) (x : FeederBank) (d : DeviceItem) :
    (b.setFeeder f x).read d = b.read d := by
  cases d <;> rfl

@[simp] theorem Bank.feeder_write (b : Bank) (d : DeviceItem) (v : Nat) (f : Feeder) : (b.write d v).feeder f = b.feeder f := by
  cases d <;> rfl

@[simp] theorem FeederBank.response_write (b : FeederBank) (i : FeederItem) (v : Nat) : (b.write i v).response = b.response := by
  cases i <;> rfl

@[simp] theorem FeederBank.envelope_write (b : FeederBank) (i : FeederItem) (v : Nat) : (b.write i v).envelope = b.envelope := by
  cases i <;> rfl

/-- A feeder's part that lies in the catalogue may replace that of a bank that lies in it. -/
theorem Bank.inCatalogue_setFeeder {b : Bank} {f : Feeder} {x : FeederBank} (h : b.inCatalogue) (hx : x.inCatalogue) :
    (b.setFeeder f x).inCatalogue := by
  refine ⟨fun d => by simpa using h.1 d, h.2.1, fun g => ?_⟩
  rw [Bank.feeder_setFeeder]
  split
  · exact hx
  · exact h.2.2 g

/-! ### Response Tables and envelopes -/

/-- Writing entries keeps the number of entries (R64, R76). -/
@[simp] theorem length_writeEntries (response : List Mode) (entries : List ResponseEntry) :
    (writeEntries response entries).length = response.length := by
  induction entries generalizing response with
  | nil => rfl
  | cons e entries ih => simpa [writeEntries] using ih (response.set e.eventClass e.mode)

/-- Every mode of a table written to was in the table or is written by one of the entries (R76). -/
theorem mem_writeEntries {response : List Mode} {entries : List ResponseEntry} {m : Mode}
    (h : m ∈ writeEntries response entries) : m ∈ response ∨ ∃ e ∈ entries, e.mode = m := by
  induction entries generalizing response with
  | nil => exact .inl h
  | cons e entries ih =>
    rcases ih h with h | ⟨x, hx, rfl⟩
    · rcases List.mem_or_eq_of_mem_set h with h | rfl
      · exact .inl h
      · exact .inr ⟨e, by simp, rfl⟩
    · exact .inr ⟨x, by simp [hx], rfl⟩

/-- An entry of a LOAD_RESPONSE payload names a mode other than NONE and a class the table has (R64, R76). -/
theorem responseEntries_mem : ∀ {words : List Word} {entries : List ResponseEntry},
    responseEntries words = some entries → ∀ e ∈ entries, e.eventClass ≤ 15 ∧ e.mode ≠ .none
  | [], entries, h => by obtain rfl := Option.some.inj h; simp
  | [_], entries, h => by obtain rfl := Option.some.inj h; simp
  | c :: m :: rest, entries, h => by
    unfold responseEntries at h
    split at h
    · rename_i mode found hm hr
      split at h
      · rename_i hc
        obtain rfl := Option.some.inj h
        simp only [List.mem_cons, forall_eq_or_imp]
        refine ⟨⟨hc, ?_⟩, responseEntries_mem hr⟩
        rintro rfl
        unfold Mode.ofResponseCode at hm
        split at hm <;> cases hm
      · cases h
    · cases h

/-- A LOAD_ENVELOPE payload of n pairs gives n rows (R75). -/
theorem length_envelopeRows {words : List Word} {n : Nat} (h : words.length = 2 * n) : (envelopeRows words).length = n := by
  induction words using envelopeRows.induct generalizing n with
  | case1 d fl rest ih =>
    cases n with
    | zero => simp at h
    | succ n => simp only [envelopeRows, List.length_cons] at h ⊢; rw [ih (n := n) (by omega)]
  | case2 words hw =>
    match words, hw with
    | [], _ => simp [envelopeRows] at h ⊢; omega
    | [_], _ => simp at h; omega
    | d :: fl :: rest, hw => exact absurd rfl (hw d fl rest)

/-- Every row of a LOAD_ENVELOPE payload has a duration of one word and a floor of at most 1000 (R75). -/
theorem envelopeRows_mem (words : List Word) : ∀ x ∈ envelopeRows words, x.duration ≤ 65535 ∧ x.floor ≤ 1000 := by
  induction words using envelopeRows.induct with
  | case1 d fl rest ih =>
    simp only [envelopeRows, List.mem_cons, forall_eq_or_imp]
    exact ⟨⟨by omega, by omega⟩, ih⟩
  | case2 words hw =>
    unfold envelopeRows
    split
    · exact absurd rfl (hw _ _ _)
    · simp

/-! ### The records of an image -/

/-- What each record keeps of a bank, a run of records keeps (R191). -/
theorem Bank.applyRecords_keeps {P : Bank → Prop} {records : List Request}
    (step : ∀ b c r, r ∈ records → P b → b.applyRecord r = some c → P c) {b c : Bank} (h : P b)
    (hc : b.applyRecords records = some c) : P c := by
  induction records generalizing b with
  | nil => exact (Option.some.inj hc) ▸ h
  | cons r records ih =>
    unfold Bank.applyRecords at hc
    split at hc
    · rename_i x hx
      exact ih (fun b c q hq => step b c q (by simp [hq])) (step b x r (by simp) h hx) hc
    · cases hc

/-- A write leaves the number of entries of every Response Table as it was (R64, R76, R178). -/
theorem Bank.length_response_written {b c : Bank} {r : Request} {result : Result} {payload : List Word}
    (h : b.written r = .stored c result payload) (f : Feeder) :
    (c.feeder f).response.length = (b.feeder f).response.length := by
  have replaced : ∀ (g : Feeder) (x : FeederBank), x.response.length = (b.feeder g).response.length →
      ((b.setFeeder g x).feeder f).response.length = (b.feeder f).response.length := by
    intro g x hx
    rw [Bank.feeder_setFeeder]
    split
    · rename_i hf; rw [hx, hf]
    · rfl
  unfold Bank.written Bank.writeSetting Bank.loadEnvelope Bank.loadResponse Bank.storeDevice Bank.storeFeeder at h
  repeat' split at h
  all_goals first
    | (cases h; done)
    | (cases h; exact replaced _ _ (by simp))
    | (cases h; rw [Bank.feeder_write])

end Sys2Proof.Machine
end

