-- ==== Sys2Proof/Tests/Slice0.lean ====
section
/-! SUPPORT. The package's own tests: the well-formedness checks; figures the spec works out by hand, each named with the place
it comes from; one or two steps of each command on a small state; and for each statement with hypotheses a concrete state and
operands that meet them all. -/
namespace Sys2Proof.Tests
open Sys2Proof Sys2Proof.Machine

set_option Elab.async false

/-! ### States and cells for the tests -/

/-- The state a command leaves. -/
def run (c : Instr) (s : State) : State :=
  match exec c s with
  | .next t => t
  | .fault _ => State.reset
  | .refused _ => State.reset

/-- The part after a load has ended, with the defaults in both banks. -/
def idle : State := { State.reset with inReset := false }

/-- The part UP in NORMAL. -/
def up : State :=
  { idle with
    ingress := { idle.ingress with link := .up, quietTimer := some 31248 }
    monitor := { idle.monitor with sag := .normal }
    egress := { idle.egress with cellTimer := none } }

/-- A request of the command table's shape. -/
def ask (code : BitVec 8) (target : BitVec 4) (payload : List Word) : Request :=
  { tag := 7, code := code, target := target, payload := payload, malformed := false }

/-- A state with one request at the head of the management queue. -/
def asked (s : State) (code : BitVec 8) (target : BitVec 4) (payload : List Word) : State :=
  { s with ingress := { s.ingress with queue := [ask code target payload] } }

/-- A state with one feeder in a state. -/
def having (s : State) (f : Feeder) (x : FeederState) : State :=
  { s with engines := s.engines.set f { s.engines.get f with state := x } }

/-- A state whose active map holds feeder 1 alone. -/
def mapped (s : State) (x : FeederState) : State :=
  { having s .f1 x with maps := { s.maps with epoch := 3, active := [.f1] } }

/-- The newest reply in the buffer, as its result and payload. -/
def answeredWith (s : State) : Option (Result × List Word) := s.management.replies.getLast?.map fun r => (r.result, r.payload)

/-- The words of a SENSE cell for a map of n slots, every slot word 0. -/
def senseWords (epoch : BitVec 4) (sequence : BitVec 8) (supply : List Word) (store housekeeping : Word) (n : Nat) : List Word :=
  withCrc (headerWord 1 epoch sequence :: supply ++ [store, housekeeping] ++ List.replicate (6 * n) 0)

/-- The words of a MANAGE cell. -/
def manageWords (tag : BitVec 8) (code : BitVec 8) (target : BitVec 4) (payload : List Word) : List Word :=
  withCrc (headerWord 2 0 tag :: (code ++ 0#4 ++ target) :: BitVec.ofNat 16 payload.length :: payload)

/-- The contents of a cell whose store voltage is 24,000 and whose housekeeping word is invalid. -/
def quietSense (supply : PerPhase Int) : Sense :=
  { epoch := 3, sequence := 9, supply := supply, store := 24000, housekeeping := 0x8000, slots := [⟨⟨0, 0, 0⟩, ⟨0, 0, 0⟩⟩] }

/-- An accepted cell's work about to begin. -/
def begun (b : Bank) (supply : PerPhase Int) : Work :=
  { sense := quietSense supply, bank := b, missing := 0, stage := .accepted, linkReturn := false, switches := false,
    syncBarred := false, commitDuring := false, live := 0, hold := 0, amplitudeRef := 23170, zeroCrossing := false,
    marks := Marks.clear, published := none, outputs := PerFeeder.fill (SlotOutput.closed .offline),
    faults := PerFeeder.fill false }

/-- The same work standing at a stage. -/
def standing (w : Work) (x : Stage) : Work := { w with stage := x }

/-- A state whose cell is being worked. -/
def working (s : State) (w : Work) : State := { s with work := some w }

/-- A state in a sag state. -/
def sagging (s : State) (x : SagState) : State := { s with monitor := { s.monitor with sag := x } }

/-! ### Well-formed commands -/

theorem test_wellFormed_gap_of_fifteen : Instr.wellFormed (.cellArrival [] (.gap 15)) = true := by decide
theorem test_wellFormed_refuses_gap_of_sixteen : Instr.wellFormed (.cellArrival [] (.gap 16)) = false := by decide

/-- A memory programmed with n bytes is well formed exactly up to 65,536 of them: 65,536 are, and 65,537 are refused. -/
theorem test_wellFormed_memory_size (n : Nat) :
    Instr.wellFormed (.imageReadComplete (.replaced (List.replicate n 0))) = decide (n ≤ 65536) := by
  simp [Instr.wellFormed, MemoryAnswer.wellFormed]

theorem test_wellFormed_refuses_a_larger_memory :
    Instr.wellFormed (.imageReadComplete (.replaced (List.replicate 65537 0))) = false :=
  (test_wellFormed_memory_size 65537).trans (by decide)

/-- The opcode table gives no row any bits, so no word spells a command. -/
theorem test_no_word_spells_a_command : decodeTableWord 16 0x1234 = none := by decide

/-! ### Figures the spec works out -/

/-- R25's table of entries. -/
theorem test_sine_entries : sineEntry 128 = 23170 ∧ sineEntry 170 = 28310 ∧ sineEntry 341 = 28411 ∧ sineEntry 597 = -16325
    ∧ sineEntry 682 = -28310 ∧ sineEntry 768 = -32767 ∧ sineEntry 853 = -28411 ∧ sineEntry 938 = -16499 := by decide +kernel

/-- The published values of the check R2 describes (its polynomial, start and bit order), for two zero bytes and for the ASCII
digits 1 to 8. -/
theorem test_crc_published_values : crc16 [0] = 0x1D0F ∧ crc16 [0x3132, 0x3334, 0x3536, 0x3738] = 0xA12B := by decide +kernel

/-- Section 2.6: one cell at lock. -/
theorem test_tracker_one_cell_at_lock :
    let t := Tracker.liveAccepted Bank.default false ⟨23170, -11585, -11585⟩
      { Tracker.reset 23170 with live := 1073741824, hold := 1073741824 }
    t.amplitude = 23182 ∧ t.quadrature = 35 ∧ t.lock = true ∧ t.jump = 0 ∧ t.live = 1090521280 ∧ t.offset = 0 := by
  decide +kernel

/-- Section 2.7, cell 1: the frequency offset's update from q = 4,310, and the jump of cell 4. -/
theorem test_offset_and_jump : (2048 : Int) + 4 * 4310 / 256 = 2115 ∧ jumpReading 823881 0 = 12 := by decide +kernel

/-- Section 3.5: roots and retained values of the unbalanced sag. -/
theorem test_retained_values : isqrt 96632802 = 9830 ∧ isqrt 193926818 = 13925 ∧ isqrt 242242060 = 15564
    ∧ Bank.default.nominalRms = 16383 ∧ 1000 * isqrt 96632802 / Bank.default.nominalRms = 600
    ∧ 1000 * isqrt 193926818 / Bank.default.nominalRms = 849 ∧ 1000 * isqrt 242242060 / Bank.default.nominalRms = 950 := by
  decide +kernel

/-- Section 3.5, cell 1: the deviations, the largest 9,583. -/
theorem test_deviation_of_the_first_cell :
    targetSample 23182 1073741824 .a = 23181 ∧ targetSample 23182 1073741824 .b = -11550
    ∧ targetSample 23182 1073741824 .c = -11673
    ∧ largestDeviation 23182 1073741824 ⟨13598, -6086, -14728⟩ = 9583 := by decide +kernel

/-- Section 3.5: class 5 at cell 131, 7 from cell 455. -/
theorem test_class_of_the_worst_values :
    classOf Bank.default ⟨⟨600, 849, 950⟩, 600, 512, true⟩ = 5 ∧ classOf Bank.default ⟨⟨600, 849, 950⟩, 600, 1821, true⟩ = 7 := by
  decide +kernel

/-- The lithography track's settings (section 4.1). -/
def track : FeederBank :=
  { FeederBank.default with envelope := [⟨0, 500⟩, ⟨128, 700⟩, ⟨1280, 800⟩, ⟨12800, 880⟩], margin := 50 }

/-- Section 4.1: feeder 0's support levels. -/
theorem test_support_levels : supportLevel track 127 = 550 ∧ supportLevel track 128 = 750 ∧ supportLevel track 1280 = 850
    ∧ supportLevel track 65535 = 930 := by decide

/-- The worked feeder of section 6.6, at a supply and drive settings. -/
def worked (supply : PerPhase Int) (hot : Bool) : CellView :=
  { settings := { FeederBank.default with scale := 6144, envelope := [⟨0, 700⟩], margin := 30 }, sag := .sag,
    marks := Marks.clear, elapsed := 200, published := some 5, classified := true, minRetained := 600, burstExpired := true,
    energy := 1000, shedLevel := 200, rearmLevel := 600, sinkHot := hot, echo := false, eventOpen := true,
    live := 1073741824, hold := 1073741824, amplitudeRef := 23000, supply := supply,
    slot := ⟨⟨22800, -11300, -11420⟩, ⟨4100, -2050, -2060⟩⟩ }

/-- Section 6.6: a FULL injection at half gain. -/
theorem test_full_at_half_gain : (worked ⟨13800, -6874, -6926⟩ false).references .full 2048 = ⟨6898, -3440, -3492⟩ := by
  decide +kernel

/-- Section 6.6: the same cell in FLOOR at full gain, phase A. -/
theorem test_floor_at_full_gain : ((worked ⟨13800, -6874, -6926⟩ false).references .floor 4096).a = 4483 := by decide +kernel

/-- Section 6.6: clamping in a deep sag, not HOT and HOT, with the counts added. -/
theorem test_clamping_in_a_deep_sag :
    (worked ⟨3450, -1720, -1737⟩ false).references .full 4096 = ⟨16384, -14609, -14766⟩
    ∧ (worked ⟨3450, -1720, -1737⟩ false).clampCount .full 4096 = 1
    ∧ (worked ⟨3450, -1720, -1737⟩ true).references .full 4096 = ⟨8192, -8192, -8192⟩
    ∧ (worked ⟨3450, -1720, -1737⟩ true).clampCount .full 4096 = 3 := by decide +kernel

/-- Section 6.6: the energy term of one cell, and with phase B's current reading +40. -/
theorem test_energy_terms :
    energyTerm ⟨13800, -6874, -6926⟩ ⟨⟨22800, -11300, -11420⟩, ⟨4100, -2050, -2060⟩⟩ = 842
    ∧ energyTerm ⟨13800, -6874, -6926⟩ ⟨⟨22800, -11300, -11420⟩, ⟨4100, 40, -2060⟩⟩ = 701 := by decide +kernel

/-- Section 9.2: the injections the worked references stand for. -/
theorem test_expected_injections : expectedInjection 6898 6144 = 4598 ∧ expectedInjection (-3440) 6144 = -2294
    ∧ expectedInjection (-3492) 6144 = -2328 := by decide

/-- Section 7.6: store voltage to energy level. -/
theorem test_energy_levels : [15000, 16000, 20000, 24000, 25298, 25299, 28000, 30000, 32000, 40000].map (energyLevel Bank.default)
    = [0, 0, 187, 416, 499, 500, 687, 838, 1000, 1000] := by decide +kernel

/-- Section 8: the pattern's first cells, phase A + - + and phase B the opposite. -/
theorem test_check_pattern : (worked ⟨0, 0, 0⟩ false).pattern 0 = ⟨1024, -1024, 1024⟩
    ∧ (worked ⟨0, 0, 0⟩ false).pattern 1 = ⟨-1024, 1024, -1024⟩ := by decide +kernel

/-- Section 9: attention 0x07 with no flag, 0x4F for EVENT_DISCARD alone (section 10.6), LINK_QUIET above it. -/
theorem test_attention_codes : FlagUnit.reset.attention = 0x07 ∧ (FlagUnit.reset.latch .eventDiscard).attention = 0x4F
    ∧ ((FlagUnit.reset.latch .eventDiscard).latch .linkQuiet).attention = 0x27 := by decide +kernel

/-! ### One step of each command -/

/-- The part of section 1.4's worked sequence after its first row: UP, epoch 3, map 0 and 2, expected 42, count 1,001. -/
def traffic : State :=
  { up with
    ingress := { up.ingress with expected := 42, cellTime := 1001 }
    engines := (up.engines.set .f0 { Engine.reset with state := .standby }).set .f2 { Engine.reset with state := .standby }
    maps := { up.maps with epoch := 3, active := [.f0, .f2] } }

/-- Section 1.4, third row: sequence 43 where 42 is expected. -/
theorem test_cellArrival_after_a_missing_cell :
    let t := run (.cellArrival (senseWords 3 43 [0, 0, 0] 24000 0 2) .ended) traffic
    t.ingress.expected = 44 ∧ t.ingress.cellTime = 1003 ∧ t.ingress.counters.missingCells = 1 := by decide +kernel

/-- Section 1.4, last row: ENLIST with target 15 is queued MALFORMED behind tag 7. -/
theorem test_cellArrival_of_a_malformed_request :
    (run (.cellArrival (manageWords 8 0x09 15 []) .ended) (asked traffic 0x01 15 [])).ingress.queue.map Request.malformed
      = [false, true] := by decide +kernel

/-- A bank whose counts are short. -/
def brief : Bank := { Bank.default with acquireCells := 1, confirmCount := 1, halfWindow := 16, recoveryHold := 1 }

theorem test_acquireEnd : (run .acquireEnd (working (sagging up .acquiring) (begun brief ⟨0, 0, 0⟩))).monitor.sag = .normal := by
  decide +kernel

theorem test_confirmation :
    let t := run .confirmation (working up (begun brief ⟨0, 0, 0⟩))
    t.monitor.sag = .sag ∧ t.recorder.openRecord.map OpenRecord.number = some 1 ∧ t.recorder.nextNumber = 2 := by decide +kernel

/-- The part in SAG with a record open. -/
def inSag : State :=
  { sagging up .sag with
    monitor := { (sagging up .sag).monitor with elapsed := 15, recoveryCount := 0 }
    recorder :=
      { openRecord := some ⟨1, 0, 5, 900, 900, [.f1]⟩, queue := [], nextNumber := 2 } }

/-- All samples 0: min retained 0, so depth band 3 and no recovery; the phases agree, so no unbalance. -/
theorem test_classificationPoint :
    (run .classificationPoint (working inSag (begun brief ⟨0, 0, 0⟩))).monitor.published = some 12 := by decide +kernel

theorem test_eventEnd :
    let s := { sagging inSag .recovering with tables := { active := brief, shadow := brief } }
    let t := run .eventEnd (working s (begun brief ⟨30000, 30000, 30000⟩))
    t.monitor.sag = .normal ∧ t.recorder.queue.map EventRecord.number = [1] ∧ t.monitor.burstTimer = 12800 := by decide +kernel

theorem test_burstTimerExpiry :
    (run .burstTimerExpiry (working { up with monitor := { up.monitor with burstTimer := 1 } }
      (begun Bank.default ⟨0, 0, 0⟩))).monitor.burstTimer = 0 := by decide +kernel

/-- Feeder 1 RELEASING with the gain of its last decay step. -/
def releasing (cause : ReleaseCause) : State :=
  { mapped up .releasing with
    engines := up.engines.set .f1 { Engine.reset with state := .releasing, gain := 64, cause := some cause } }

theorem test_releaseEnd :
    ((run (.releaseEnd .f1) (working (releasing .recovery) (standing (begun Bank.default ⟨0, 0, 0⟩) .tracked))).engines.get
      .f1).state = .standby := by decide +kernel

/-- Feeder 1 at the last cell of its check, one phase's count given. -/
def checked (n : Nat) : State :=
  { mapped up .checking with
    maps := { up.maps with epoch := 3, active := [.f1], checks := up.maps.checks.set .f1 ⟨31, ⟨n, 0, 0⟩⟩ } }

/-- A cell whose winding currents follow the pattern two cells before cell 31. -/
def followed (stage : Stage) : Work :=
  { standing (begun Bank.default ⟨0, 0, 0⟩) stage with
    sense := { quietSense ⟨0, 0, 0⟩ with slots := [⟨⟨0, 0, 0⟩, ⟨-300, 300, -300⟩⟩] } }

/-- Two mismatches pass, three lock the feeder out (R137). -/
theorem test_pathCheckVerdict :
    ((run (.pathCheckVerdict .f1) (working (checked 2) (followed .tracked))).engines.get .f1).state = .standby
    ∧ ((run (.pathCheckVerdict .f1) (working (checked 3) (followed .tracked))).engines.get .f1).state = .lockout := by
  decide +kernel

/-- Feeder 1 INJECTING, its commands two cells ago 8,000 on phase A, and its count one below VERIFY_COUNT. -/
def failing : State :=
  { mapped up .injecting with
    engines := up.engines.set .f1 { Engine.reset with state := .injecting, gain := 4096, drive := .full }
    monitor := { up.monitor with sag := .sag }
    store := { up.store with energy := 900 }
    recorder := { up.recorder with openRecord := some ⟨1, 0, 5, 900, 900, [.f1]⟩ }
    verifier :=
      { up.verifier with
        histories := up.verifier.histories.set .f1
          ⟨[some 8000, some 8000], [some 0, some 0], [some 0, some 0]⟩
        mismatches := up.verifier.mismatches.set .f1 ⟨3, 0, 0⟩
        pointer := ⟨.f0, .c⟩ } }

theorem test_verifyFailure :
    let t := run (.verifyFailure .f1) (working failing (standing (begun Bank.default ⟨0, 0, 0⟩) .tracked))
    (t.engines.get .f1).state = .lockout ∧ t.flags.latched.getLsbD 17 = true := by decide +kernel

/-- A change pending that adds feeder 2, at its limit of age. -/
def announced : State :=
  { having (mapped up .standby) .f2 .enlisting with
    maps := { (mapped up .standby).maps with pending := some ⟨4, [.f1, .f2]⟩, age := 256 } }

theorem test_mapChangeAbandon :
    let t := run .mapChangeAbandon (working announced (standing (begun Bank.default ⟨0, 0, 0⟩) .engined))
    (t.engines.get .f2).state = .offline ∧ t.maps.pending = none ∧ t.maps.epoch = 3 := by decide +kernel

theorem test_quietTimerExpiry :
    let t := run .quietTimerExpiry failing
    t.ingress.link = .quiet ∧ (t.engines.get .f1).state = .standby ∧ t.recorder.queue.map EventRecord.cause = [.linkLost]
    ∧ t.flags.latched.getLsbD 0 = true := by decide +kernel

/-- With no map, sequence 0 follows the last sequence 255, and the status word shows ACQUIRING, DOWN and code 0x07. -/
theorem test_selfTimedCell : (run .selfTimedCell idle).egress.onLink = some (.drive (withCrc [0x9000, 0x0007])) := by
  decide +kernel

/-- A DRIVE cell on the link, another waiting, one reply buffered. -/
def sending : State :=
  { up with
    management := { up.management with replies := [⟨7, .done, [], false⟩] }
    egress := { up.egress with onLink := some (.drive [1]), waiting := some [2] } }

theorem test_driveCellSent : (run .driveCellSent sending).egress.onLink = some (.drive [2]) := by decide +kernel

theorem test_driveCellSent_then_the_reply :
    (run .driveCellSent { sending with egress := { sending.egress with waiting := none } }).egress.onLink
      = some (.reply (withCrc [0xA007, 0x0007, 0x0000])) := by decide +kernel

theorem test_replySent :
    let t := run .replySent { sending with egress := { sending.egress with onLink := some (.reply [3]) } }
    t.management.replies = [] ∧ t.egress.onLink = some (.drive [2]) := by decide +kernel

theorem test_malformed :
    answeredWith (run .malformed { up with ingress := { up.ingress with queue := [{ ask 0x09 15 [] with malformed := true }] } })
      = some (.malformed, []) := by decide +kernel

theorem test_enquire : answeredWith (run .enquire (asked traffic 0x01 15 []))
    = some (.done, [0x04F4, 1, 1, 1, 3, 0, 3, 0, 3, 16]) := by decide +kernel

theorem test_readSetting : answeredWith (run .readSetting (asked up 0x02 15 [1, 0])) = some (.done, [0, 7812]) := by
  decide +kernel

/-- Section 4.4: the shadow envelope of feeder 2 read back. -/
theorem test_readSetting_of_an_envelope :
    answeredWith (run .readSetting
      { asked up 0x02 2 [48, 1] with
        tables :=
          { up.tables with
            shadow := up.tables.shadow.setFeeder .f2
              { FeederBank.default with envelope := [⟨0, 0⟩, ⟨12800, 700⟩, ⟨2560, 1000⟩] } } })
      = some (.done, [3, 0, 0, 12800, 700, 2560, 1000]) := by decide +kernel

/-- PROVISIONAL_MODE 2 is stored as NONE and answered CLAMPED (R76). -/
theorem test_writeSetting :
    let t := run .writeSetting (asked up 0x03 2 [40, 0, 2])
    answeredWith t = some (.clamped, [0, 4]) ∧ (t.tables.shadow.feeder .f2).provisionalMode = .none
    ∧ t.tables.active = up.tables.active := by decide +kernel

/-- Section 4.4: LOAD_ENVELOPE with a mistyped floor. -/
theorem test_loadEnvelope :
    let t := run .loadEnvelope (asked up 0x04 2 [3, 0, 0, 12800, 700, 2560, 1050])
    answeredWith t = some (.clamped, []) ∧ (t.tables.shadow.feeder .f2).envelope = [⟨0, 0⟩, ⟨12800, 700⟩, ⟨2560, 1000⟩] := by
  decide +kernel

/-- A class named twice keeps the later mode; a code of 4 writes nothing (R76). -/
theorem test_loadResponse :
    ((run .loadResponse (asked up 0x05 1 [5, 1, 5, 3])).tables.shadow.feeder .f1).response.getD 5 .full = .decline
    ∧ answeredWith (run .loadResponse (asked up 0x05 1 [5, 1, 6, 4])) = some (.malformed, []) := by decide +kernel

/-- Section 4.4: the first COMMIT NOW names item 48 and target 2. -/
theorem test_commitNow_invalid :
    answeredWith (run .commitNow
      { asked up 0x06 15 [] with
        tables :=
          { up.tables with
            shadow := up.tables.shadow.setFeeder .f2
              { FeederBank.default with envelope := [⟨0, 0⟩, ⟨12800, 700⟩, ⟨2560, 1000⟩] } } })
      = some (.invalidTable, [48, 2]) := by decide +kernel

/-- Between two cells' work, before a missing cell, it is made at once (R181, R9); in a cell's own work it is deferred. -/
theorem test_commitNow :
    let s := { asked up 0x06 15 [] with tables := { up.tables with shadow := brief } }
    let w := { begun Bank.default ⟨0, 0, 0⟩ with missing := 1 }
    (run .commitNow s).tables.active = brief ∧ answeredWith (run .commitNow s) = some (.done, [])
    ∧ answeredWith (run .commitNow (working s w)) = some (.done, [])
    ∧ (run .commitNow (working s (standing w .tracked))).management.engine = .deferred := by decide +kernel

theorem test_commitSync : (run .commitSync (asked up 0x07 15 [])).management.engine = .deferred := by decide +kernel

/-- A COMMIT in flight, DEFERRED, its shadow bank another. -/
def deferred (code : BitVec 8) : State :=
  { up with
    tables := { up.tables with shadow := brief }
    management := { up.management with engine := .deferred, inFlight := some (ask code 15 []), deferralAge := 0 } }

/-- The end of a cell's work, a zero crossing. -/
def ending : Work := { standing (begun Bank.default ⟨0, 0, 0⟩) .engined with zeroCrossing := true }

theorem test_commitTakesEffect :
    let t := run .commitTakesEffect (working (deferred 0x07) ending)
    t.tables.active = brief ∧ answeredWith t = some (.done, []) := by decide +kernel

theorem test_commitExpired :
    let s := sagging (deferred 0x07) .sag
    let t := run .commitExpired (working { s with management := { s.management with deferralAge := 65535 } } ending)
    answeredWith t = some (.expired, []) ∧ t.tables.active = Bank.default := by decide +kernel

theorem test_discardShadow :
    (run .discardShadow { asked up 0x08 15 [] with tables := { up.tables with shadow := brief } }).tables.shadow
      = Bank.default := by decide +kernel

/-- Section 8's worked sequence: ENLIST of feeder 1, payload 4, 3, 0, 1, 2. -/
theorem test_enlist : answeredWith (run .enlist (asked traffic 0x09 1 [])) = some (.accepted, [4, 3, 0, 1, 2]) := by
  decide +kernel

theorem test_retire :
    let t := run .retire (asked traffic 0x0A 2 [])
    answeredWith t = some (.accepted, [4, 1, 0]) ∧ (t.engines.get .f2).prior = some .standby := by decide +kernel

/-- R130: a RETIRE that arrives after the reference step of the cell that shed feeder 1 waits for that cell's DRIVE cell, whose
slot shows SHED (code 6, the bypass closed), and records SHED as the prior state. -/
theorem test_retire_in_a_cells_work :
    let w := { standing (begun Bank.default ⟨0, 0, 0⟩) .referenced with
      outputs := (PerFeeder.fill (SlotOutput.closed .offline)).set .f1 (SlotOutput.closed .shed) }
    let t := run .retire (working (asked (mapped up .shed) 0x0A 1 []) w)
    (t.engines.get .f1).prior = some .shed ∧ answeredWith t = some (.accepted, [4, 0])
    ∧ t.egress.onLink = some (.drive (withCrc [0x9309, 0x2807, 0, 0, 0, 0x8006])) := by decide +kernel

theorem test_forceBypass :
    let t := run .forceBypass (asked traffic 0x0B 2 [])
    (t.engines.get .f2).state = .lockout ∧ t.flags.latched.getLsbD 24 = true ∧ answeredWith t = some (.done, []) := by
  decide +kernel

/-- A LOCKOUT whose OPERATOR flag is cleared goes to CHECKING (R93); LINK_QUIET stays latched in QUIET (R13). -/
theorem test_clearFlags :
    let s := { mapped up .lockout with flags := (up.flags.latchFeeder .operator .f1).latch .linkQuiet }
    let t := run .clearFlags (asked { s with ingress := { s.ingress with link := .quiet } } 0x0C 15 [0xFFFF, 0xFFFF])
    (t.engines.get .f1).state = .checking ∧ answeredWith t = some (.done, [1, 0]) := by decide +kernel

theorem test_setReport : (run .setReport (asked up 0x0D 15 [0x0001, 0x8000])).flags.reported = 1 := by decide +kernel

theorem test_readCounters :
    answeredWith (run .readCounters
      { asked up 0x0E 15 [] with
        ingress := { (asked up 0x0E 15 []).ingress with counters := ⟨1, 2, 3, 4, 5, 6, 7, 65535⟩ } })
      = some (.done, [1, 2, 3, 4, 5, 6, 7, 65535]) := by decide +kernel

theorem test_writeCounter : (run .writeCounter (asked up 0x0F 15 [4, 9])).ingress.counters = ⟨0, 0, 0, 0, 9, 0, 0, 0⟩ := by
  decide +kernel

theorem test_writeCounter_of_no_counter : answeredWith (run .writeCounter (asked up 0x0F 15 [8, 9])) = some (.malformed, []) := by
  decide +kernel

/-- A closed record of an event with one feeder that rode through. -/
def record (n : Nat) : EventRecord :=
  { number := n, burstIndex := 1, start := 0x10002, duration := 3, cause := .recovered, eventClass := 7,
    lowest := ⟨600, 849, 950⟩, jumpMax := 1821, energyAtConfirmation := 975, lowestEnergy := 330,
    entries := [⟨.f1, .full, .rodeThrough, { EventMarks.clear with injected := true }, 6898, 0, -1⟩] }

/-- Records in the queue. -/
def recorded (s : State) (ns : List Nat) : State := { s with recorder := { s.recorder with queue := ns.map record } }

theorem test_readEvent : answeredWith (run .readEvent (asked (recorded up [9]) 0x10 15 [0]))
    = some (.done, [9, 1, 1, 2, 0, 3, 0, 7, 600, 849, 950, 1821, 975, 330, 1, 1, 0, 4, 1, 6898, 0, 0xFFFF, 0xFFFF]) := by
  decide +kernel

theorem test_readEvent_of_no_record : answeredWith (run .readEvent (asked (recorded up [9]) 0x10 15 [1])) = some (.empty, []) := by
  decide +kernel

/-- Section 10.6: tag 21 is STALE with payload 16, 65,522 (here of a queue of two), tag 23 takes the oldest. -/
theorem test_releaseEvent :
    answeredWith (run .releaseEvent (asked (recorded up [65522, 65523]) 0x11 15 [65521])) = some (.stale, [2, 65522])
    ∧ answeredWith (run .releaseEvent (asked (recorded up [65522, 65523]) 0x11 15 [65522])) = some (.done, [1, 65523]) := by
  decide +kernel

theorem test_readLive :
    (answeredWith (run .readLive (asked failing 0x12 15 []))).map (fun x => (x.2.drop 3).take 7)
      = some [900, 0, 3, 0, 0, 4, 4096] := by decide +kernel

theorem test_setEcho : (run .setEcho (asked up 0x13 15 [1])).egress.echo = true
    ∧ answeredWith (run .setEcho (asked failing 0x13 15 [1])) = some (.refusedState, []) := by decide +kernel

/-- Before a missing cell it is made at once; one that waits is made at the end of the missing cell being worked (R23). -/
theorem test_setEcho_in_a_gap :
    let w := { begun Bank.default ⟨0, 0, 0⟩ with missing := 2 }
    let s := { up with
      management :=
        { up.management with
          engine := .executing, inFlight := some (ask 0x13 15 [1]), carriedOut := true, echoWaits := some true } }
    (run .setEcho (working (asked up 0x13 15 [1]) w)).egress.echo = true
    ∧ (working s w).advance.egress.echo = true ∧ (working s w).advance.work.map Work.missing = some 1 := by decide +kernel

/-- The first page write of a save begins with a blank signature and version 1 (R194). -/
theorem test_saveImage :
    ((run .saveImage (asked up 0x14 15 [])).loader.writes.head?.map fun x => (x.address, x.bytes.take 4))
      = some (0, [0, 0, 0, 1]) := by decide +kernel

/-- A save with its last page being written. -/
def saving : State :=
  { up with
    management := { up.management with engine := .saving, inFlight := some (ask 0x14 15 []), carriedOut := true }
    loader := { up.loader with state := .writing, writes := [⟨0, [0x5A, 0x3C]⟩] } }

theorem test_savePageAck :
    let t := run .savePageAck saving
    t.memory.readWord 0 = 0x5A3C ∧ answeredWith t = some (.done, []) ∧ t.loader.state = .idle := by decide +kernel

theorem test_savePollTimeout :
    let t := run .savePollTimeout saving
    t.memory = [] ∧ answeredWith t = some (.writeFailed, []) := by decide +kernel

theorem test_deviceReset :
    let t := run .deviceReset (asked up 0x15 15 [])
    answeredWith t = some (.done, []) ∧ t.management.engine = .executing := by decide +kernel

theorem test_managementReset :
    let t := run .managementReset
      { recorded traffic [9] with
        due := some .managementReset, tables := { up.tables with active := { Bank.default with autoEnlist := 5 } } }
    t.ingress.link = .down ∧ t.recorder.queue.map EventRecord.number = [9] ∧ t.maps.pending = some ⟨1, [.f0, .f2]⟩ := by
  decide +kernel

theorem test_powerOnReset : run .powerOnReset failing = State.reset := by decide +kernel

theorem test_resetRelease : (run (.resetRelease 2) State.reset).loader.state = .reading
    ∧ (run (.resetRelease 2) State.reset).busAddress = 0x52 := by decide +kernel

/-- The part whose Image Loader is reading. -/
def reading : State := { idle with loader := { idle.loader with state := .reading } }

theorem test_imageReadComplete : (run (.imageReadComplete .silent) reading).loader.outcome = some .absent
    ∧ (run (.imageReadComplete .stored) reading).loader.outcome = some .corrupt := by decide +kernel

/-- An image waits, its bank enlisting feeders 0 and 2. -/
def waiting : State :=
  { idle with
    tables := { idle.tables with shadow := { Bank.default with autoEnlist := 5 } }
    loader := { idle.loader with state := .waiting }
    due := some .imageCommit }

theorem test_imageCommit :
    let t := run .imageCommit waiting
    t.loader.outcome = some .loaded ∧ t.maps.pending = some ⟨1, [.f0, .f2]⟩ ∧ t.tables.active.autoEnlist = 5 := by
  decide +kernel

/-! ### The hypotheses of the statements are met

For each statement with hypotheses, named after it: a concrete state and operands that meet them together, each clause at the
values where it meets its neighbours. -/

theorem meets_StepTakesTheFrontCommand :
    ({ up with pending := [.enquire, .retire] }).pending = .enquire :: [.retire]
    ∧ up.pending = [] ∧ up.work = none ∧ up.due = none := by decide +kernel

theorem meets_ResetReleaseStartsTheImageRead :
    State.reset.inReset = true ∧ up.inReset = false
    ∧ exec (.resetRelease 3) State.reset = .next (run (.resetRelease 3) State.reset)
    ∧ Instr.enquire ≠ .powerOnReset ∧ ∀ x, Instr.enquire ≠ .resetRelease x :=
  ⟨rfl, rfl, rfl, by decide, fun _ => Instr.noConfusion⟩

theorem meets_ResetReleaseStartsTheImageRead_with_a_step_due :
    ∀ x ∈ [Due.managementReset, .imageCommit],
      ({ up with due := some x }).inReset = false ∧ ({ up with due := some x }).due = some x
      ∧ ({ up with due := some x }).work = none := by decide

/-- The check value of 51 zero words, in three stretches of 17. -/
theorem crc_of_zeros : crc16 (List.replicate 51 (0 : Word)) = 53693 := by
  rw [show List.replicate 51 (0 : Word) = List.replicate 17 0 ++ (List.replicate 17 0 ++ List.replicate 17 0) from rfl]
  unfold crc16
  rw [List.foldl_append, List.foldl_append,
    show (List.replicate 17 (0 : Word)).foldl crcWord 0xFFFF#16 = 43448 by decide +kernel,
    show (List.replicate 17 (0 : Word)).foldl crcWord 43448 = 11727 by decide +kernel]
  decide +kernel

/-- Lengths 2 and 53 are outside, 3 and 52 inside; kinds 0 and 3 stand next to the two that are accepted. -/
theorem meets_FirstThreeChecksDropACell :
    (up.acts ∧ up.work = none)
    ∧ (List.replicate 2 (0 : Word)).length < 3 ∧ 52 < (List.replicate 53 (0 : Word)).length
    ∧ (∀ n, n = 3 ∨ n = 52 → 3 ≤ (List.replicate n (0 : Word)).length ∧ (List.replicate n (0 : Word)).length ≤ 52
        ∧ (List.replicate n (0 : Word)).getLast? ≠ some (crc16 (List.replicate n (0 : Word)).dropLast))
    ∧ ∀ h : Word, h = 0x0000 ∨ h = 0x3000 → soundCell (withCrc [h, 0]) ∧ headerKind (wordAt (withCrc [h, 0]) 0) ≠ 1
        ∧ headerKind (wordAt (withCrc [h, 0]) 0) ≠ 2 := by
  refine ⟨⟨⟨rfl, rfl⟩, rfl⟩, by decide, by decide, ?_, ?_⟩
  · rintro n (rfl | rfl)
    · decide +kernel
    · refine ⟨by decide, by decide, ?_⟩
      rw [show (List.replicate 52 (0 : Word)).dropLast = List.replicate 51 0 from rfl, crc_of_zeros]
      decide
  · unfold soundCell
    rintro h (rfl | rfl) <;> decide +kernel

/-- One slot in the active map of epoch 3; a pending map of two slots under epoch 4. -/
def changing : State := { announced with ingress := { announced.ingress with expected := 43 } }

theorem meets_LaterChecksDropACell :
    (changing.acts ∧ changing.work = none)
    ∧ (soundCell (withCrc [0x2000, 0x0100, 1]) ∧ (withCrc [0x2000, 0x0100, 1]).length ≠ 4 + 1)
    ∧ (soundCell (senseWords 3 0 [0, 0, 0] 0 0 2) ∧ headerEpoch (wordAt (senseWords 3 0 [0, 0, 0] 0 0 2) 0) = changing.maps.epoch
        ∧ (senseWords 3 0 [0, 0, 0] 0 0 2).length ≠ 7 + 6 * changing.maps.active.length)
    ∧ (soundCell (senseWords 4 0 [0, 0, 0] 0 0 1) ∧ changing.maps.pending = some ⟨4, [.f1, .f2]⟩
        ∧ headerEpoch (wordAt (senseWords 4 0 [0, 0, 0] 0 0 1) 0) = 4
        ∧ (senseWords 4 0 [0, 0, 0] 0 0 1).length ≠ 7 + 6 * 2)
    ∧ (soundCell (senseWords 5 0 [0, 0, 0] 0 0 1) ∧ headerKind (wordAt (senseWords 5 0 [0, 0, 0] 0 0 1) 0) = 1
        ∧ headerEpoch (wordAt (senseWords 5 0 [0, 0, 0] 0 0 1) 0) ≠ changing.maps.epoch
        ∧ ∀ p, changing.maps.pending = some p → headerEpoch (wordAt (senseWords 5 0 [0, 0, 0] 0 0 1) 0) ≠ p.epoch)
    ∧ (changing.senseFits (senseWords 3 42 [0, 0, 0] 0 0 1) false ∧ changing.ingress.link = .up
        ∧ changing.gap (senseOf (senseWords 3 42 [0, 0, 0] 0 0 1)) = 255) := by
  unfold soundCell State.senseFits soundCell
  refine ⟨⟨⟨rfl, rfl⟩, rfl⟩, by decide +kernel, by decide +kernel, by decide +kernel, ⟨by decide +kernel, by decide +kernel,
    by decide +kernel, ?_⟩, ⟨by decide +kernel, by decide +kernel, .inl (by decide +kernel)⟩, by decide +kernel,
    by decide +kernel⟩
  intro p h
  obtain rfl : p = ⟨4, [.f1, .f2]⟩ := (Option.some.inj h).symm
  decide +kernel

/-- Accepted in DOWN; in UP with no gap, at gap 15, at gaps 16 and 254 as breaks; under the active and the pending epoch. -/
theorem meets_AcceptanceAndTheGapComeBeforeTheCellsWork :
    (changing.acts ∧ changing.work = none)
    ∧ changing.senseFits (senseWords 3 43 [0, 0, 0] 0 0 1) false ∧ changing.senseFits (senseWords 4 43 [0, 0, 0] 0 0 2) true
    ∧ changing.admits (senseOf (senseWords 3 43 [0, 0, 0] 0 0 1)) 0 false
    ∧ changing.admits (senseOf (senseWords 3 58 [0, 0, 0] 0 0 1)) 15 false
    ∧ changing.admits (senseOf (senseWords 3 59 [0, 0, 0] 0 0 1)) 0 true
    ∧ changing.admits (senseOf (senseWords 3 41 [0, 0, 0] 0 0 1)) 0 true
    ∧ ({ changing with ingress := Ingress.reset }).admits (senseOf (senseWords 3 43 [0, 0, 0] 0 0 1)) 0 false := by
  unfold State.senseFits State.admits soundCell
  refine ⟨⟨⟨rfl, rfl⟩, rfl⟩, ⟨by decide +kernel, by decide +kernel, .inl (by decide +kernel)⟩,
    ⟨by decide +kernel, by decide +kernel, .inr ⟨rfl, by decide +kernel, ⟨4, [.f1, .f2]⟩, by decide +kernel⟩⟩,
    .inr (.inl (by decide +kernel)), .inr (.inl (by decide +kernel)), .inr (.inr (by decide +kernel)),
    .inr (.inr (by decide +kernel)), .inl (by decide +kernel)⟩

/-- A housekeeping word with a reading and one with none, and a counter that stands at its end (R17, R18). -/
theorem meets_AcceptanceAndTheGapComeBeforeTheCellsWork_of_the_counters :
    housekeepingReading (senseOf (senseWords 3 43 [0, 0, 0] 0 0x0000 1)).housekeeping ≠ none
    ∧ housekeepingReading (senseOf (senseWords 3 43 [0, 0, 0] 0 0x8000 1)).housekeeping = none
    ∧ (let s := { changing with ingress := { changing.ingress with counters := ⟨0, 0, 0, 0, 0, 0, 65535, 0⟩ } }
      LinkCounter.all.map s.ingress.counters.get = [0, 0, 0, 0, 0, 0, 65535, 0]) := by decide +kernel

/-- The accepted cell's work with missing cells before it. -/
def gapped (missing : Nat) : Work := { begun Bank.default ⟨0, 0, 0⟩ with missing := missing }

/-- The last missing cell before a switch, in NORMAL with no feeder driving and with one RELEASING. -/
theorem meets_AcceptanceAndTheGapComeBeforeTheCellsWork_in_the_gap :
    ∀ x ∈ [FeederState.standby, .releasing],
      let w := { gapped 1 with switches := true }
      let s := working { changing with engines := (having announced .f1 x).engines } w
      s.work = some w ∧ w.stage = .accepted ∧ w.missing = 0 + 1 ∧ w.commitDuring = false ∧ s.management.engine ≠ .deferred
      ∧ s.management.echoWaits = none ∧ s.loader.state ≠ .waiting ∧ s.maps.pending = some ⟨4, [.f1, .f2]⟩
      ∧ (s.engines.get .f1).state = x := by decide +kernel

/-- A missing cell with samples in two windows and none in the third: what each holds after it, and the root taken. -/
theorem meets_AcceptanceAndTheGapComeBeforeTheCellsWork_of_the_windows :
    let s := working { up with monitor := { up.monitor with windows := ⟨[3], [2, -5], []⟩, sums := ⟨9, 29, 0⟩ } } (gapped 1)
    let m := s.advance.monitor
    (∀ p ∈ [Phase.a, .b, .c], s.monitor.sums.get p = squares (s.monitor.windows.get p))
    ∧ m.windows = ⟨[3, 3], [2, -5, -5], []⟩ ∧ 3 * 3 ≤ m.sums.a / 2 ∧ m.sums.a / 2 < (3 + 1) * (3 + 1)
    ∧ 4 * 4 ≤ m.sums.b / 3 ∧ m.sums.b / 3 < (4 + 1) * (4 + 1) := by decide +kernel

/-- A cell of the pending epoch with no missing cell before it: the switch is made at its acceptance (R131). -/
theorem meets_AcceptanceAndTheGapComeBeforeTheCellsWork_of_the_switch :
    let t := run (.cellArrival (senseWords 4 43 [0, 0, 0] 0 0 2) (.gap 15)) changing
    t.maps.epoch = 4 ∧ t.maps.active = [.f1, .f2] ∧ (t.engines.get .f2).state = .checking ∧ t.flags.changed.get .f2 = true := by
  decide +kernel

theorem meets_AcceptedSenseCellIsWorkedToItsEnd :
    let s := { changing with egress := { changing.egress with onLink := some (.drive [1]) } }
    (s.acts ∧ s.work = none) ∧ s.senseFits (senseWords 3 43 [0, 0, 0] 0 0 1) false
    ∧ s.admits (senseOf (senseWords 3 43 [0, 0, 0] 0 0 1)) 0 false ∧ s.egress.onLink ≠ none := by
  unfold State.senseFits State.admits soundCell
  exact ⟨⟨⟨rfl, rfl⟩, rfl⟩, ⟨by decide +kernel, by decide +kernel, .inl (by decide +kernel)⟩,
    .inr (.inl (by decide +kernel)), by decide⟩

/-- A free link and sound maps. -/
theorem meets_AcceptedSenseCellIsWorkedToItsEnd_with_a_free_link :
    mapsSound changing ∧ changing.loader.state ≠ .waiting ∧ changing.management.echoWaits = none
    ∧ changing.egress.onLink = none ∧ changing.management.engine ≠ .deferred := by
  refine ⟨⟨by decide, fun p h => ?_, fun h => absurd h (by decide), fun f h => ?_, fun h => absurd h (by decide)⟩, by decide, rfl,
    rfl, by decide⟩
  · obtain rfl : p = ⟨4, [.f1, .f2]⟩ := (Option.some.inj h).symm
    decide
  · exact absurd h (by cases f <;> decide)

/-- Taken at once; eighth in the queue; dropped where eight wait. -/
theorem meets_ManageCellJoinsTheQueue :
    soundCell (manageWords 7 0x01 15 []) ∧ headerKind (wordAt (manageWords 7 0x01 15 []) 0) = 2
    ∧ (manageWords 7 0x01 15 []).length = 4 + (wordAt (manageWords 7 0x01 15 []) 2).toNat
    ∧ (up.acts ∧ up.work = none ∧ up.management.engine = .idle ∧ up.ingress.queue = [] ∧ up.loader.state.loading = false)
    ∧ (∀ n, n = 7 ∨ n = 8 →
        let s := { up with ingress := { up.ingress with queue := List.replicate n (ask 0x01 15 []) } }
        s.acts ∧ s.work = none ∧ s.ingress.queue.length = n ∧ s.ingress.queue ≠ []) := by
  unfold soundCell
  refine ⟨by decide +kernel, by decide +kernel, by decide +kernel, ⟨⟨rfl, rfl⟩, by decide⟩, ?_⟩
  rintro n (rfl | rfl) <;> exact ⟨⟨rfl, rfl⟩, by decide⟩

/-- Every operand at the end of its range. -/
theorem meets_ReferenceChainStaysInItsRanges :
    let v := { worked ⟨-32768, 32767, 0⟩ false with
      amplitudeRef := 36862, settings := { FeederBank.default with scale := 16383 } }
    v.amplitudeRef ≤ 36862 ∧ 4096 ≤ 4096 ∧ v.settings.scale ≤ 16383 ∧ -32768 ≤ v.supply.a ∧ v.supply.b ≤ 32767 := by decide

/-- An engine that ends its cell INJECTING and one that does not; at the verifier step a slot that shows the bypass open, with and
without a fault, and one that shows it closed. -/
theorem meets_ReferenceChainStaysInItsRanges_of_the_accumulators :
    let w := { standing (begun Bank.default ⟨0, 0, 0⟩) .referenced with
      outputs := (PerFeeder.fill (SlotOutput.closed .offline)).set .f1 ⟨false, true, ⟨5, -6, 0⟩, .injecting⟩ }
    let u := { w with faults := (PerFeeder.fill false).set .f1 true }
    (({ Engine.reset with state := .injecting, drive := .full, gain := 4096 }).work (worked ⟨0, 0, 0⟩ false)
      Check.start).engine.state = .injecting
    ∧ (({ Engine.reset with state := .lockout }).work (worked ⟨0, 0, 0⟩ false) Check.start).engine.state = .lockout
    ∧ .f1 ∈ (working failing w).maps.active ∧ (w.outputs.get .f1).bypassClosed = false
    ∧ (((working failing w).verifyCell w).engines.get .f1).state = .injecting
    ∧ (((working failing u).verifyCell u).engines.get .f1).state = .lockout
    ∧ (SlotOutput.closed .standby).bypassClosed = true := by decide +kernel

/-- A feeder before the last cell of its check: in ACQUIRING, in NORMAL, in SUSPECT, and in NORMAL with echo on. -/
theorem meets_SlotOutputsFollowTheFeederState :
    ∀ x ∈ [SagState.acquiring, .normal, .suspect],
      let v := { worked ⟨0, 0, 0⟩ false with sag := x }
      { Engine.reset with state := .checking }.state = .checking ∧ (⟨30, ⟨0, 0, 0⟩⟩ : Check).cell ≠ 31
      ∧ (((v.sag = .acquiring ∨ v.sag = .normal) ∧ v.echo = false) ∨ (v.sag ≠ .acquiring ∧ v.sag ≠ .normal))
      ∧ { v with echo := true }.echo = true := by decide

theorem meets_StoreAccountLevelsAndHeatStates :
    Bank.default.storeFloor < Bank.default.storeFull ∧ 16000 ≤ Bank.default.storeFloor ∧ Bank.default.storeFull ≤ 32000
    ∧ Bank.default.storeFloor < 16001 ∧ 31999 < Bank.default.storeFull := by decide

/-- The last valid channel and the first invalid one, each at the ends of the reading. -/
theorem meets_StoreAccountLevelsAndHeatStates_of_the_readings :
    (∀ v, v = 0 ∨ v = 4095 → v < 4096 ∧ BitVec.ofNat 16 (4096 * 4 + v) = (if v = 0 then 0x4000#16 else 0x4FFF))
    ∧ 5 * 4096 ≤ (0x5000 : Word).toNat ∧ 5 * 4096 ≤ (0xFFFF : Word).toNat := by
  refine ⟨?_, by decide, by decide⟩
  rintro v (rfl | rfl) <;> decide

theorem meets_HeldReferenceFollowsOrCoasts :
    (begun Bank.default ⟨0, 0, 0⟩).commitDuring = false
    ∧ ((up.settled (begun Bank.default ⟨0, 0, 0⟩)).monitor.sag = .suspect)
    ∧ (((sagging up .acquiring).settled (begun Bank.default ⟨0, 0, 0⟩)).monitor.sag = .acquiring)
    ∧ (∀ f, (up.engines.get f).state ≠ .injecting ∧ (up.engines.get f).state ≠ .releasing)
    ∧ ((releasing .recovery).engines.get .f1).state = .releasing := by
  refine ⟨rfl, by decide +kernel, by decide +kernel, ?_, by decide +kernel⟩
  intro f; cases f <;> decide

/-- The last cell of the acquire count, and after a link return; the burst timer at its last count. -/
theorem meets_AcquireEndAndBurstTimerExpiry :
    (working (sagging up .acquiring) (begun brief ⟨0, 0, 0⟩)).beginsCell (begun brief ⟨0, 0, 0⟩)
    ∧ brief.acquireCells ≤ (if (begun brief ⟨0, 0, 0⟩).linkReturn then 0 else (sagging up .acquiring).monitor.acquireCount) + 1
    ∧ (working { up with monitor := { up.monitor with burstTimer := 1 } } (begun Bank.default ⟨0, 0, 0⟩)).beginsCell
        (begun Bank.default ⟨0, 0, 0⟩) :=
  ⟨⟨⟨rfl, rfl⟩, rfl, rfl, rfl⟩, by decide, ⟨⟨rfl, rfl⟩, rfl, rfl, rfl⟩⟩

/-- A burst timer that runs out with the last missing cell or with the accepted one, in each sag state, the event's a cell short
of its end; and one with no burst window. -/
theorem meets_AcquireEndAndBurstTimerExpiry_in_events_and_gaps :
    ∀ n ∈ [2, 3],
      let at' := fun x : SagState => { sagging up x with
        monitor := { (sagging up x).monitor with burstTimer := n, recoveryCount := Bank.default.recoveryHold - 2 } }
      (∀ x, (working (at' x) (gapped 2)).standsIn (gapped 2) .accepted) ∧ (at' .sag).monitor.burstTimer ≤ (gapped 2).missing + 1
      ∧ 2 ≤ (gapped 2).bank.recoveryHold
      ∧ (at' .recovering).monitor.recoveryCount + 1 < (gapped 2).bank.recoveryHold
      ∧ { brief with burstWindow := 0 }.burstWindow = 0 := by
  intro n h
  fin_cases h <;> exact ⟨fun _ => ⟨⟨rfl, rfl⟩, rfl, rfl⟩, by decide, by decide, by decide, rfl⟩

/-- From NORMAL at CONFIRM_COUNT 1, and from SUSPECT at the count before the last. -/
theorem meets_ConfirmationOpensAnEvent :
    (working up (begun brief ⟨0, 0, 0⟩)).beginsCell (begun brief ⟨0, 0, 0⟩) ∧ up.monitor.sag = .normal ∧ brief.confirmCount ≤ 1
    ∧ deviating brief up.tracker.amplitudeRef up.tracker.hold (begun brief ⟨0, 0, 0⟩).sense.supply = true
    ∧ (let s := working { up with monitor := { up.monitor with sag := .suspect, deviationCount := 2 } }
        (begun Bank.default ⟨0, 0, 0⟩)
      s.beginsCell (begun Bank.default ⟨0, 0, 0⟩) ∧ Bank.default.confirmCount ≤ s.monitor.deviationCount + 1
      ∧ deviating Bank.default s.tracker.amplitudeRef s.tracker.hold ⟨0, 0, 0⟩ = true) :=
  ⟨⟨⟨rfl, rfl⟩, rfl, rfl, rfl⟩, rfl, by decide, by decide +kernel, ⟨⟨rfl, rfl⟩, rfl, rfl, rfl⟩, by decide, by decide +kernel⟩

/-- Samples 0 against the references 0, 20,089 and -20,018 of the held angle 0: the largest difference, 20,089, is above a
TRIP_DEVIATION of 20,088 and not above one of 20,089. -/
theorem meets_ConfirmationOpensAnEvent_of_the_deviation :
    let r : PerPhase Int := ⟨0, 20089, -20018⟩
    r = ⟨(23170 : Nat) * sineAt 0 / 32768, (23170 : Nat) * sineAt (0 + 1431655765#32) / 32768,
      (23170 : Nat) * sineAt (0 + 2863311530#32) / 32768⟩
    ∧ deviating { Bank.default with tripDeviation := 20088 } 23170 0 ⟨0, 0, 0⟩ = true
    ∧ deviating { Bank.default with tripDeviation := 20089 } 23170 0 ⟨0, 0, 0⟩ = false := by decide +kernel

/-- ACQUIRING a cell before its count and at it; NORMAL with and without a deviation; SUSPECT without one, and with one that is
not the last of the count. -/
theorem meets_ConfirmationOpensAnEvent_of_the_other_cells :
    let b := { Bank.default with tripDeviation := 20089 }
    let at' := fun x : SagState => { up with monitor := { up.monitor with sag := x, deviationCount := 1, acquireCount := 1 } }
    (at' .acquiring).monitor.sag = .acquiring ∧ { b with acquireCells := 2 }.acquireCells = (at' .acquiring).monitor.acquireCount + 1
    ∧ (at' .normal).monitor.sag = .normal ∧ (at' .suspect).monitor.sag = .suspect
    ∧ deviating b (at' .normal).tracker.amplitudeRef (at' .normal).tracker.hold ⟨0, 0, 0⟩ = false
    ∧ deviating Bank.default (at' .normal).tracker.amplitudeRef (at' .normal).tracker.hold ⟨0, 0, 0⟩ = true
    ∧ { b with confirmCount := 2 }.confirmCount = 2
    ∧ (at' .suspect).monitor.deviationCount + 1 < { b with confirmCount := 3 }.confirmCount := by decide +kernel

/-- A link return, and windows that hold exactly HALF_WINDOW samples whose squares the sums are. -/
theorem meets_ConfirmationOpensAnEvent_of_the_windows :
    let x := List.replicate 16 (3 : Int)
    let m := { up.monitor with windows := ⟨x, x, x⟩, sums := ⟨144, 144, 144⟩ }
    { begun brief ⟨0, 0, 0⟩ with linkReturn := true }.linkReturn = true ∧ (begun brief ⟨0, 0, 0⟩).linkReturn = false
    ∧ m.sums.a = squares m.windows.a ∧ m.windows.a.length = brief.halfWindow
    ∧ (({ up with monitor := m }).trackCell (begun brief ⟨7, 0, 0⟩)).monitor.windows.a = List.replicate 15 3 ++ [7] := by
  decide +kernel

/-- A cell with the confirmation mark: no provisional mode; E at the shed level, in echo mode and not, and one below it. -/
theorem meets_ConfirmationStartsOrShedsAStandbyFeeder :
    let v := { worked ⟨0, 0, 0⟩ false with marks := { Marks.clear with confirmation := true }, energy := 200 }
    { Engine.reset with state := .standby }.state = .standby ∧ v.marks.confirmation = true
    ∧ v.settings.provisionalMode ≠ .none ∧ v.shedLevel ≤ v.energy ∧ v.echo = false
    ∧ { v with energy := 199 }.energy < v.shedLevel ∧ { v with echo := true }.echo = true
    ∧ { v.settings with provisionalMode := .none }.provisionalMode = .none := by decide

/-- A cell after the classification point, its class answered by the Response Table, at the support level and one below it; the
gain step of a feeder that drives and of one whose release ends; an envelope row at its duration. -/
theorem meets_ConfirmationStartsOrShedsAStandbyFeeder_of_the_decisions :
    let v := { worked ⟨0, 0, 0⟩ false with
      sag := .sag, classified := true, published := some 15, settings := track, elapsed := 0, minRetained := 549 }
    v.marks.returnToSag = false ∧ v.marks.confirmation = false ∧ v.settings.response[15]? = some (track.response.getD 15 .full)
    ∧ v.minRetained < min 1000 (envelopeFloor v.settings.envelope v.elapsed + v.settings.margin)
    ∧ ¬ 550 < min 1000 (envelopeFloor v.settings.envelope v.elapsed + v.settings.margin)
    ∧ { v with marks := { Marks.clear with returnToSag := true } }.marks.returnToSag = true
    ∧ (∀ x ∈ [FeederState.standby, .injecting, .releasing, .shed, .lockout, .retiring],
        { Engine.reset with state := x }.state = x)
    ∧ ((({ Engine.reset with state := .releasing, gain := 1, cause := some .shed }).work v Check.start).engine.gain = 0)
    ∧ (track.envelope.map EnvelopeRow.duration).Pairwise (· < ·) ∧ ⟨128, 700⟩ ∈ track.envelope
    ∧ ∀ q ∈ track.envelope, q.duration ≤ 128 → q.duration ≤ 128 := by decide +kernel

/-- No class published: a SHED feeder in NORMAL at its rearm level and one below it; an INJECTING feeder in a provisional period,
its E at the shed level and one below it. -/
theorem meets_ConfirmationStartsOrShedsAStandbyFeeder_without_a_class :
    let v := { worked ⟨0, 0, 0⟩ false with sag := .normal, published := none, energy := 600 }
    let u := { worked ⟨0, 0, 0⟩ false with classified := false, published := none, energy := 199 }
    v.published = none ∧ v.sag = .normal ∧ v.burstExpired = true ∧ v.rearmLevel = v.energy
    ∧ ¬ v.rearmLevel ≤ { v with energy := 599 }.energy
    ∧ u.published = none ∧ (u.marks.classificationPoint || u.marks.classRise) = false ∧ u.energy < u.shedLevel
    ∧ ¬ { u with energy := 200 }.energy < u.shedLevel
    ∧ (({ Engine.reset with state := .injecting, gain := 4096 }).decision u Check.start).engine.cause = some .shed := by decide +kernel

/-- The feeders a confirmation finds elsewhere, and one that holds no slot. -/
theorem meets_ConfirmationStartsOrShedsAStandbyFeeder_of_the_readiness :
    let w := { standing (begun Bank.default ⟨0, 0, 0⟩) .tracked with marks := { Marks.clear with confirmation := true } }
    w.marks.confirmation = true ∧ (begun Bank.default ⟨0, 0, 0⟩).marks.confirmation = false
    ∧ (∀ x ∈ [FeederState.shed, .lockout, .checking, .retiring, .injecting], { Engine.reset with state := x }.state = x)
    ∧ ((releasing .shed).engines.get .f1).cause = some .shed ∧ ((releasing .recovery).engines.get .f1).cause ≠ some .shed
    ∧ .f0 ∉ (releasing .shed).maps.active := by decide +kernel

theorem meets_ClassificationPointPublishesTheClass :
    (working inSag (begun brief ⟨0, 0, 0⟩)).beginsCell (begun brief ⟨0, 0, 0⟩) ∧ inSag.monitor.sag = .sag
    ∧ inSag.monitor.classified = false ∧ brief.halfWindow = min 65535 (inSag.monitor.elapsed + 1)
    ∧ (run .classificationPoint (working inSag (begun brief ⟨0, 0, 0⟩))).monitor.sag ≠ .normal
    ∧ (run .classificationPoint (working inSag (begun brief ⟨30000, 30000, 30000⟩))).monitor.sag = .normal :=
  ⟨⟨⟨rfl, rfl⟩, rfl, rfl, rfl⟩, rfl, rfl, by decide, by decide +kernel, by decide +kernel⟩

/-- A classification point whose cell takes the monitor to RECOVERING. -/
theorem meets_ClassificationPointPublishesTheClass_in_recovery :
    let w := begun { brief with recoveryHold := 2 } ⟨30000, 30000, 30000⟩
    (working inSag w).beginsCell w ∧ w.bank.halfWindow = min 65535 (inSag.monitor.elapsed + 1)
    ∧ (run .classificationPoint (working inSag w)).monitor.sag = .recovering :=
  ⟨⟨⟨rfl, rfl⟩, rfl, rfl, rfl⟩, by decide, by decide +kernel⟩

/-- A cell whose min retained is 610, at a RECOVERY_LEVEL of 610 and of 611: in SAG before the classification point; in SAG and
in RECOVERING after it, with RECOVERY_HOLD 2. The class then stands at 4, above a published 3 and not above a published 4. -/
theorem meets_ClassificationPointPublishesTheClass_in_every_other_cell :
    let b := { brief with recoveryHold := 2, recoveryLevel := 610, jumpThreshold := 16384, unbalanceThreshold := 1 }
    let w := begun b ⟨10000, 10000, 10000⟩
    let after := fun (x : SagState) (level : Nat) => { inSag with
      monitor := { inSag.monitor with sag := x, classified := true, published := some level,
                                      worst := ⟨⟨610, 610, 610⟩, 610, 0, false⟩ } }
    (∀ x ∈ [SagState.sag, .recovering], ∀ level ∈ [3, 4],
      (((after x level).trackCell w).monitor.minRetained = b.recoveryLevel ∧ (after x level).monitor.sag = x
        ∧ (after x level).monitor.recoveryCount + 1 < b.recoveryHold ∧ (after x level).monitor.classified = true
        ∧ (((after x level).trackCell w).work.map (fun w => w.marks.classRise)) = some (decide (level = 3))))
    ∧ (∀ x ∈ [SagState.sag, .recovering],
        ((after x 4).trackCell { w with bank := { b with recoveryLevel := 611 } }).monitor.minRetained < 611)
    ∧ inSag.monitor.classified = false ∧ min 65535 (inSag.monitor.elapsed + 1) < { b with halfWindow := 17 }.halfWindow := by
  decide +kernel

theorem meets_EventEndClosesTheRecord :
    let w := begun brief ⟨30000, 30000, 30000⟩
    let s := working { sagging inSag .recovering with
      recorder := { inSag.recorder with queue := (List.range 16).map record } } w
    s.beginsCell w ∧ s.monitor.sag = .recovering ∧ s.recorder.openRecord = some ⟨1, 0, 5, 900, 900, [.f1]⟩
    ∧ w.bank.recoveryLevel ≤ (s.monitor.measure w.bank w.linkReturn w.sense.supply).minRetained
    ∧ w.bank.recoveryHold ≤ s.monitor.recoveryCount + 1 ∧ 16 ≤ s.recorder.queue.length :=
  ⟨⟨⟨rfl, rfl⟩, rfl, rfl, rfl⟩, rfl, rfl, by decide +kernel, by decide, by decide⟩

/-- An end straight from SAG with RECOVERY_HOLD 1, in the classification point's cell and after it. -/
theorem meets_EventEndClosesTheRecord_from_sag :
    let w := begun brief ⟨30000, 30000, 30000⟩
    (working inSag w).beginsCell w ∧ inSag.monitor.sag = .sag ∧ w.bank.recoveryHold ≤ 1
    ∧ inSag.recorder.openRecord = some ⟨1, 0, 5, 900, 900, [.f1]⟩
    ∧ w.bank.recoveryLevel ≤ ((working inSag w).monitor.measure w.bank w.linkReturn w.sense.supply).minRetained
    ∧ w.bank.halfWindow = min 65535 (inSag.monitor.elapsed + 1)
    ∧ { inSag.monitor with classified := true }.classified = true :=
  ⟨⟨⟨rfl, rfl⟩, rfl, rfl, rfl⟩, rfl, by decide, rfl, by decide +kernel, by decide, rfl⟩

theorem meets_ReleaseEndLeavesStandbyOrShed :
    let w := standing (begun Bank.default ⟨0, 0, 0⟩) .tracked
    let s := working (releasing .recovery) w
    let u := working (releasing .shed) w
    s.standsIn w .tracked ∧ .f1 ∈ s.maps.active ∧ (s.engines.get .f1).state = .releasing ∧ w.marks.confirmation = false
    ∧ w.marks.returnToSag = false ∧ s.monitor.sag ≠ .sag ∧ s.loader.state ≠ .waiting ∧ (s.tripped w).get .f1 = false
    ∧ (s.engines.get .f1).gain = (w.bank.feeder .f1).decay
    ∧ u.standsIn w .tracked ∧ (u.engines.get .f1).cause = some .shed
    ∧ (u.engines.get .f1).gain ≤ (w.bank.feeder .f1).shedDecay :=
  ⟨⟨⟨rfl, rfl⟩, rfl, rfl⟩, by decide, by decide, rfl, rfl, by decide, by decide, by decide +kernel, by decide,
    ⟨⟨rfl, rfl⟩, rfl, rfl⟩, by decide, by decide⟩

/-- In SAG: cause SHED with the class's response looked up, and cause RECOVERY with no need for support. -/
theorem meets_ReleaseEndLeavesStandbyOrShed_in_sag :
    let w := { standing (begun { Bank.default with feeders := PerFeeder.fill track } ⟨0, 0, 0⟩) .tracked with published := some 5 }
    let s := working { sagging (releasing .shed) .sag with
      monitor := { (sagging up .sag).monitor with classified := true, minRetained := 549 } } w
    let u := working { sagging (releasing .recovery) .sag with
      monitor := { (sagging up .sag).monitor with classified := true, minRetained := 550 } } w
    s.standsIn w .tracked ∧ (s.tripped w).get .f1 = false ∧ (s.engines.get .f1).cause = some .shed
    ∧ (s.engines.get .f1).gain ≤ (w.bank.feeder .f1).shedDecay ∧ (s.view w .f1).needsSupport = true
    ∧ (w.bank.feeder .f1).response[5]?.isSome = true
    ∧ u.standsIn w .tracked ∧ (u.tripped w).get .f1 = false ∧ (u.engines.get .f1).cause = some .recovery
    ∧ (u.view w .f1).needsSupport = false :=
  ⟨⟨⟨rfl, rfl⟩, rfl, rfl⟩, by decide +kernel, by decide, by decide, by decide +kernel, by decide, ⟨⟨rfl, rfl⟩, rfl, rfl⟩,
    by decide +kernel, by decide, by decide +kernel⟩

/-- Two mismatches on phase A pass, three do not. -/
theorem meets_PathCheckVerdictPassesOrLocksOut :
    let w := followed .tracked
    ∀ n, n = 2 ∨ n = 3 →
      let s := working (checked n) w
      s.standsIn w .tracked ∧ .f1 ∈ s.maps.active ∧ (s.engines.get .f1).state = .checking ∧ s.monitor.sag = .normal
      ∧ s.egress.echo = false ∧ s.loader.state ≠ .waiting ∧ (s.tripped w).get .f1 = false ∧ (s.maps.checks.get .f1).cell = 31
      ∧ (((s.view w .f1).compareCheck (s.maps.checks.get .f1)).mismatches = ⟨n, 0, 0⟩) := by
  rintro w n (rfl | rfl) <;>
    exact ⟨⟨⟨rfl, rfl⟩, rfl, rfl⟩, by decide, by decide, rfl, rfl, by decide, by decide +kernel, by decide,
      by decide +kernel⟩

/-- A cell at index D - 1 and at index D, the check running and suspended, and a feeder in another state. -/
theorem meets_PathCheckVerdictPassesOrLocksOut_of_the_comparison :
    let v := { worked ⟨0, 0, 0⟩ false with sag := .normal }
    (∀ k p, (fun k p => (if k % 2 = 0 then 1 else -1) * (if p = .b then -1 else 1) : Nat → Phase → Int) k p
      = (if k % 2 = 0 then 1 else -1) * (if p = .b then -1 else 1))
    ∧ (⟨1, ⟨0, 0, 0⟩⟩ : Check).cell < v.settings.verifyDelay ∧ v.settings.verifyDelay = (⟨2, ⟨0, 0, 0⟩⟩ : Check).cell
    ∧ { Engine.reset with state := .checking }.state = .checking ∧ v.sag = .normal ∧ v.echo = false
    ∧ (⟨2, ⟨0, 0, 0⟩⟩ : Check).cell ≠ 31 ∧ { v with echo := true }.echo = true ∧ { v with sag := .suspect }.sag ≠ .normal
    ∧ { Engine.reset with state := .standby }.state ≠ .checking :=
  ⟨fun _ _ => rfl, by decide, by decide, rfl, rfl, rfl, by decide, rfl, by decide, by decide⟩

theorem meets_VerifyFailureLocksTheFeederOut :
    let w := standing (begun Bank.default ⟨0, 0, 0⟩) .tracked
    (working failing w).standsIn w .tracked ∧ ((working failing w).compared w).failed = some .f1
    ∧ failing.loader.state ≠ .waiting ∧ failing.recorder.openRecord.isSome = true :=
  ⟨⟨⟨rfl, rfl⟩, rfl, rfl⟩, by decide +kernel, by decide, rfl⟩

/-- Pair F1A chosen in ROTATE, from the pointer F0C, and in FIXED 4; no pair where every bypass is closed. -/
theorem meets_VerifyFailureLocksTheFeederOut_of_the_choice :
    let outputs := (PerFeeder.fill (SlotOutput.closed .offline)).set .f1 ⟨false, true, ⟨0, 0, 0⟩, .injecting⟩
    let fixed := { Bank.default with verifyMode := 4 }
    Bank.default.verifyMode = 0 ∧ failing.verifier.chosen Bank.default outputs = some ⟨.f1, .a⟩
    ∧ failing.verifier.chosen fixed outputs = some ⟨.f1, .a⟩
    ∧ failing.verifier.chosen fixed (PerFeeder.fill (SlotOutput.closed .offline)) = none
    ∧ ((failing.verifier.histories.get .f1).get .a)[((failing.verifier.histories.get .f1).get .a).length
        - (Bank.default.feeder .f1).verifyDelay]? = some (some 8000) := by decide +kernel

/-- A winding current one above TRIP_CURRENT trips the feeder in each state that may stand in a map, and one at it does not. -/
theorem meets_VerifyFailureLocksTheFeederOut_of_the_overcurrent :
    let w := fun i : Int => { standing (begun { Bank.default with
      feeders := PerFeeder.fill { FeederBank.default with tripCurrent := 100 } } ⟨0, 0, 0⟩) .tracked with
      sense := { quietSense ⟨0, 0, 0⟩ with slots := [⟨⟨0, 0, 0⟩, ⟨0, i, 0⟩⟩] } }
    ∀ x ∈ [FeederState.checking, .standby, .injecting, .releasing, .shed, .lockout, .retiring],
      (working (mapped failing x) (w (-101))).standsIn (w (-101)) .tracked
      ∧ ((working (mapped failing x) (w (-101))).tripped (w (-101))).get .f1 = true
      ∧ ((working (mapped failing x) (w 100)).tripped (w 100)).get .f1 = false
      ∧ ((mapped failing x).engines.get .f1).state = x ∧ (mapped failing x).loader.state ≠ .waiting
      ∧ (mapped failing x).recorder.openRecord.isSome = true ∧ (mapped failing x).maps.pending = none := by
  intro w x h
  refine ⟨⟨⟨rfl, rfl⟩, rfl, rfl⟩, ?_⟩
  fin_cases h <;> decide +kernel

theorem meets_MapChangeAbandonRestoresTheFeeders :
    let w := standing (begun Bank.default ⟨0, 0, 0⟩) .engined
    let s := working { announced with
      engines := announced.engines.set .f3 { Engine.reset with state := .retiring, prior := some .shed } } w
    s.standsIn w .engined ∧ s.maps.pending = some ⟨4, [.f1, .f2]⟩ ∧ w.bank.mapChangeLimit = s.maps.age
    ∧ s.loader.state ≠ .waiting ∧ (s.engines.get .f2).state = .enlisting
    ∧ (s.engines.get .f3).state = .retiring ∧ (s.engines.get .f3).prior = some .shed
    ∧ (s.engines.get .f1).state ≠ .enlisting ∧ (s.engines.get .f1).state ≠ .retiring :=
  ⟨⟨⟨rfl, rfl⟩, rfl, rfl⟩, rfl, by decide, by decide, by decide, by decide, by decide, by decide, by decide⟩

/-- A COMMIT SYNC at a zero crossing in NORMAL; the same in SAG at the age before its limit. -/
theorem meets_DeferredCommitsTakeEffectOrExpire :
    let s := working (deferred 0x07) ending
    let u := { sagging s .sag with management := { s.management with deferralAge := Bank.default.commitDeferLimit - 1 } }
    s.standsIn ending .engined ∧ s.management.engine = .deferred ∧ s.management.inFlight = some (ask 0x07 15 [])
    ∧ s.maps.pending = none ∧ s.loader.state ≠ .waiting ∧ s.monitor.sag = .normal
    ∧ (∀ f, (s.engines.get f).state ≠ .injecting ∧ (s.engines.get f).state ≠ .releasing)
    ∧ ending.zeroCrossing = true ∧ ending.syncBarred = false
    ∧ u.standsIn ending .engined ∧ u.monitor.sag ≠ .acquiring ∧ u.monitor.sag ≠ .normal
    ∧ u.tables.active.commitDeferLimit = min 65535 (u.management.deferralAge + 1) := by
  refine ⟨⟨⟨rfl, rfl⟩, rfl, rfl⟩, rfl, rfl, rfl, by decide, rfl, ?_, rfl, rfl, ⟨⟨rfl, rfl⟩, rfl, rfl⟩, by decide, by decide,
    by decide⟩
  intro f; cases f <;> decide

/-- A COMMIT NOW at the end of a cell that is no zero crossing; a COMMIT NOW, and a COMMIT SYNC at a zero crossing, at the end of a
missing cell. -/
theorem meets_DeferredCommitsTakeEffectOrExpire_of_commit_now :
    (let w := standing (begun Bank.default ⟨0, 0, 0⟩) .engined;
      (working (deferred 0x06) w).standsIn w .engined ∧ (ask 0x06 15 []).command = some .commitNow ∧ w.zeroCrossing = false)
    ∧ ∀ code : BitVec 8, code = 0x06 ∨ code = 0x07 →
      let s := working { deferred code with tracker := { up.tracker with live := 0xFFFFFFFF } } (gapped 1)
      s.standsIn (gapped 1) .accepted ∧ 1 ≤ (gapped 1).missing ∧ s.management.engine = .deferred
      ∧ s.management.inFlight = some (ask code 15 []) ∧ s.loader.state ≠ .waiting ∧ s.monitor.sag = .normal
      ∧ (∀ f, (s.engines.get f).state ≠ .injecting ∧ (s.engines.get f).state ≠ .releasing) ∧ (gapped 1).syncBarred = false
      ∧ (s.tracker.live + BitVec.ofInt 32 ((gapped 1).bank.nominalStep + s.tracker.offset)).toNat < s.tracker.live.toNat := by
  refine ⟨⟨⟨⟨rfl, rfl⟩, rfl, rfl⟩, rfl, rfl⟩, ?_⟩
  rintro code (rfl | rfl) <;>
    exact ⟨⟨⟨rfl, rfl⟩, rfl, rfl⟩, by decide, rfl, rfl, by decide, rfl, fun f => by cases f <;> decide, rfl, by decide⟩

theorem meets_QuietEntryActsOnEveryBlock :
    failing.acts ∧ failing.work = none ∧ failing.ingress.link = .up ∧ failing.ingress.quietTimer ≠ none
    ∧ (failing.engines.get .f1).state = .injecting ∧ failing.recorder.openRecord = some ⟨1, 0, 5, 900, 900, [.f1]⟩
    ∧ failing.management.engine ≠ .deferred
    ∧ ((deferred 0x06).acts ∧ (deferred 0x06).management.engine = .deferred
        ∧ (ask 0x06 15 []).command = some .commitNow ∧ (deferred 0x06).ingress.quietTimer ≠ none) :=
  ⟨⟨rfl, rfl⟩, rfl, rfl, by decide, by decide, rfl, by decide, ⟨rfl, rfl⟩, rfl, rfl, by decide⟩

/-- A deferred COMMIT SYNC, and an open record with the queue full. -/
theorem meets_QuietEntryActsOnEveryBlock_of_the_others :
    ((deferred 0x07).acts ∧ (deferred 0x07).management.engine = .deferred
      ∧ (deferred 0x07).management.inFlight = some (ask 0x07 15 []) ∧ (ask 0x07 15 []).command ≠ some .commitNow
      ∧ (deferred 0x07).ingress.link = .up ∧ (deferred 0x07).ingress.quietTimer ≠ none)
    ∧ (let s := { failing with recorder := { failing.recorder with queue := (List.range 16).map record } }
      s.acts ∧ s.work = none ∧ s.recorder.openRecord ≠ none ∧ 16 ≤ s.recorder.queue.length) :=
  ⟨⟨⟨rfl, rfl⟩, rfl, rfl, by decide, rfl, by decide⟩, ⟨rfl, rfl⟩, rfl, by decide, by decide⟩

theorem meets_SelfTimedCellIsMadeReady :
    idle.acts ∧ idle.egress.cellTimer ≠ none ∧ idle.egress.onLink = none := ⟨⟨rfl, rfl⟩, by decide, rfl⟩

theorem meets_SentCellsFreeTheLinkAndLeaveTheBuffer :
    let s := { sending with egress := { sending.egress with onLink := some (.reply [3]) } }
    let u := { s with management := { s.management with replies := [⟨7, .done, [], true⟩] } }
    sending.acts ∧ sending.egress.onLink = some (.drive [1])
    ∧ s.acts ∧ s.egress.onLink = some (.reply [3]) ∧ s.management.replies = [⟨7, .done, [], false⟩]
    ∧ u.acts ∧ u.egress.onLink = some (.reply [3]) ∧ u.management.replies = [⟨7, .done, [], true⟩]
    ∧ u.management.held = none :=
  ⟨⟨rfl, rfl⟩, rfl, ⟨rfl, rfl⟩, rfl, rfl, ⟨rfl, rfl⟩, rfl, rfl, rfl⟩

theorem meets_SentCellsFreeTheLinkAndLeaveTheBuffer_with_a_reset_due :
    ({ failing with due := some .managementReset }).inReset = false
    ∧ ({ failing with due := some .managementReset }).due = some .managementReset ∧ Instr.enquire ≠ .powerOnReset := by decide

theorem meets_MalformedEntriesAreAnsweredMalformed :
    let r := { ask 0x09 15 [] with malformed := true }
    let s := { up with ingress := { up.ingress with queue := [r] } }
    s.acts ∧ s.nextRequest = some r ∧ r.malformed = true := ⟨⟨rfl, rfl⟩, rfl, rfl⟩

theorem meets_EnquireAndReadLiveReportTheState :
    (asked up 0x01 15 []).acts ∧ (asked up 0x01 15 []).requests .enquire (ask 0x01 15 [])
    ∧ (asked up 0x12 15 []).requests .readLive (ask 0x12 15 []) := ⟨⟨rfl, rfl⟩, ⟨rfl, rfl⟩, ⟨rfl, rfl⟩⟩

/-- Indices 7 and 8 stand on the two sides of the last counter. -/
theorem meets_CountersAreReadAndWritten :
    (asked up 0x0E 15 []).acts ∧ (asked up 0x0E 15 []).requests .readCounters (ask 0x0E 15 [])
    ∧ (asked up 0x0F 15 [7, 1]).requests .writeCounter (ask 0x0F 15 [7, 1])
    ∧ ((ask 0x0F 15 [7, 1]).payload.getD 0 0).toNat = 7
    ∧ (asked up 0x0F 15 [8, 1]).requests .writeCounter (ask 0x0F 15 [8, 1])
    ∧ 7 < ((ask 0x0F 15 [8, 1]).payload.getD 0 0).toNat :=
  ⟨⟨rfl, rfl⟩, ⟨rfl, rfl⟩, ⟨rfl, rfl⟩, by decide, ⟨rfl, rfl⟩, by decide⟩

/-- Items 25, 26, 45, 46 and 49 at the ends of the catalogue; selectors 0, 1 and 2; targets 3, 4 and 15. -/
theorem meets_ReadSettingReadsTheNamedBank :
    (∀ r ∈ [ask 0x02 15 [26, 0], ask 0x02 0 [25, 1], ask 0x02 15 [45, 0], ask 0x02 15 [25, 2], ask 0x02 15 [25, 1],
        ask 0x02 3 [45, 0], ask 0x02 3 [48, 1], ask 0x02 3 [49, 0]],
      ({ up with ingress := { up.ingress with queue := [r] } }).acts
      ∧ ({ up with ingress := { up.ingress with queue := [r] } }).requests .readSetting r)
    ∧ 26 ∉ (List.range' 1 25 ++ List.range' 32 14 ++ [48, 49]) ∧ 46 ∉ (List.range' 1 25 ++ List.range' 32 14 ++ [48, 49])
    ∧ 45 ∈ (List.range' 32 14 ++ [48, 49]) ∧ DeviceItem.number .mapChangeLimit = 25 ∧ FeederItem.number .checkLevel = 45 := by
  unfold State.acts State.requests
  decide +kernel

theorem meets_WriteSettingStoresInTheShadowBank :
    (∀ r ∈ [ask 0x03 15 [48, 0, 0], ask 0x03 0 [25, 0, 1], ask 0x03 15 [45, 0, 1], ask 0x03 15 [25, 0, 1],
        ask 0x03 3 [45, 1, 0]],
      ({ up with ingress := { up.ingress with queue := [r] } }).acts
      ∧ ({ up with ingress := { up.ingress with queue := [r] } }).requests .writeSetting r)
    ∧ 48 ∉ (List.range' 1 25 ++ List.range' 32 14) ∧ 26 ∉ (List.range' 1 25 ++ List.range' 32 14) := by
  unfold State.acts State.requests
  decide +kernel

theorem meets_StoredValuesLieInTheCatalogue :
    DeviceItem.cellPeriod ≠ .housekeepingAverage ∧ DeviceItem.cellPeriod ≠ .autoEnlist := by decide

/-- Floors 1000 and 1001; class 15 and mode code 3, class 16, and mode code 4. -/
theorem meets_LoadedTablesReplaceTheShadowTables :
    (asked up 0x04 3 [2, 0, 1000, 1, 1001]).acts
    ∧ (asked up 0x04 3 [2, 0, 1000, 1, 1001]).requests .loadEnvelope (ask 0x04 3 [2, 0, 1000, 1, 1001])
    ∧ (ask 0x04 3 [2, 0, 1000, 1, 1001]).target.toNat = Feeder.f3.number
    ∧ (ask 0x04 3 [2, 0, 1000, 1, 1001]).payload
        = 2 :: [(⟨0, 1000⟩ : EnvelopeRow), ⟨1, 1001⟩].flatMap
            (fun x => [BitVec.ofNat 16 x.duration, BitVec.ofNat 16 x.floor])
    ∧ (asked up 0x05 3 [15, 3]).requests .loadResponse (ask 0x05 3 [15, 3])
    ∧ (∀ x ∈ [(⟨15, .decline⟩ : ResponseEntry)], x.eventClass ≤ 15 ∧ x.mode ≠ .none)
    ∧ (asked up 0x05 3 [0, 0, 16, 3]).requests .loadResponse (ask 0x05 3 [0, 0, 16, 3])
    ∧ (ask 0x05 3 [0, 0, 16, 3]).payload = [0, 0] ++ 16 :: 3 :: [] ∧ 15 < (16 : Word).toNat
    ∧ (asked up 0x05 3 [15, 4]).requests .loadResponse (ask 0x05 3 [15, 4]) ∧ 3 < (4 : Word).toNat :=
  ⟨⟨rfl, rfl⟩, ⟨rfl, rfl⟩, by decide, by decide, ⟨rfl, rfl⟩, by decide, ⟨rfl, rfl⟩, by decide, by decide, ⟨rfl, rfl⟩,
    by decide⟩

theorem meets_DiscardShadowCopiesTheActiveBank :
    (asked up 0x08 15 []).acts ∧ (asked up 0x08 15 []).requests .discardShadow (ask 0x08 15 []) := ⟨⟨rfl, rfl⟩, ⟨rfl, rfl⟩⟩

/-- A shadow bank that fails; one that passes, in NORMAL between cells, and in SAG. -/
theorem meets_CommitsAreValidatedThenTakenOrDeferred :
    let bad := { asked up 0x06 15 [] with tables := { up.tables with shadow := { Bank.default with storeFull := 16000 } } }
    let s := asked up 0x06 15 []
    bad.acts ∧ bad.requests .commitNow (ask 0x06 15 []) ∧ bad.tables.shadow.fault = some ⟨17, 15⟩
    ∧ s.acts ∧ s.requests .commitNow (ask 0x06 15 []) ∧ s.tables.shadow.fault = none ∧ s.work = none ∧ s.monitor.sag = .normal
    ∧ (∀ f, (s.engines.get f).state ≠ .injecting ∧ (s.engines.get f).state ≠ .releasing)
    ∧ (sagging s .sag).requests .commitNow (ask 0x06 15 []) ∧ (sagging s .sag).monitor.sag ≠ .acquiring
    ∧ (sagging s .sag).monitor.sag ≠ .normal ∧ (asked up 0x07 15 []).requests .commitSync (ask 0x07 15 []) := by
  refine ⟨⟨rfl, rfl⟩, ⟨rfl, rfl⟩, by decide, ⟨rfl, rfl⟩, ⟨rfl, rfl⟩, by decide, rfl, rfl, ?_, ⟨rfl, rfl⟩, by decide, by decide,
    ⟨rfl, rfl⟩⟩
  intro f; cases f <;> decide

/-- Before a missing cell, at the acceptance, and in a cell's own work. -/
theorem meets_CommitsAreValidatedThenTakenOrDeferred_during_the_work :
    (∀ n, n = 0 ∨ n = 15 →
      let s := working (asked up 0x06 15 []) (gapped n)
      s.acts ∧ s.requests .commitNow (ask 0x06 15 []) ∧ ∀ w, s.work = some w → w.stage = .accepted)
    ∧ (let s := working (asked up 0x06 15 []) ending
      s.requests .commitNow (ask 0x06 15 []) ∧ ∃ w, s.work = some w ∧ w.stage ≠ .accepted) := by
  refine ⟨?_, ⟨rfl, rfl⟩, ending, rfl, by decide⟩
  rintro n (rfl | rfl) <;> exact ⟨⟨rfl, rfl⟩, ⟨rfl, rfl⟩, fun w h => by cases h; rfl⟩

/-- Levels that meet; an envelope whose durations repeat; one that starts at 1; REARM_LEVEL equal to SHED_LEVEL. -/
theorem meets_ValidationNamesTheFirstFailingCheck :
    { Bank.default with storeFull := 16000 }.storeFull ≤ Bank.default.storeFloor
    ∧ Bank.default.storeFloor < Bank.default.storeFull
    ∧ (∀ g : Feeder, ((Bank.default.feeder g).envelope.map EnvelopeRow.duration).Pairwise (· < ·)
        ∧ ((Bank.default.feeder g).envelope.head?.map EnvelopeRow.duration) = some 0
        ∧ (Bank.default.feeder g).shedLevel < (Bank.default.feeder g).rearmLevel)
    ∧ ¬ ([(⟨0, 1⟩ : EnvelopeRow), ⟨0, 2⟩].map EnvelopeRow.duration).Pairwise (· < ·)
    ∧ [(⟨1, 1⟩ : EnvelopeRow)].head?.map EnvelopeRow.duration ≠ some 0
    ∧ { FeederBank.default with rearmLevel := 200 }.rearmLevel ≤ FeederBank.default.shedLevel := by
  refine ⟨by decide, by decide, ?_, by decide, by decide, by decide⟩
  intro g; cases g <;> decide

theorem meets_EnlistAnnouncesAMapWithTheFeeder :
    let r := ask 0x09 2 []
    let s := asked (mapped up .standby) 0x09 2 []
    s.acts ∧ s.requests .enlist r ∧ r.target.toNat = Feeder.f2.number ∧ (s.engines.get .f2).state = .offline
    ∧ s.egress.echo = false ∧ s.maps.pending = none ∧ s.monitor.sag = .normal
    ∧ ((asked announced 0x09 3 []).requests .enlist (ask 0x09 3 []) ∧ (announced.engines.get .f3).state = .offline
        ∧ announced.maps.pending ≠ none)
    ∧ ((sagging s .suspect).requests .enlist r ∧ (sagging s .suspect).monitor.sag ≠ .normal)
    ∧ (asked (mapped up .standby) 0x09 1 []).requests .enlist (ask 0x09 1 []) :=
  ⟨⟨rfl, rfl⟩, ⟨rfl, rfl⟩, by decide, by decide, rfl, rfl, rfl, ⟨⟨rfl, rfl⟩, by decide, by decide⟩, ⟨⟨rfl, rfl⟩, by decide⟩,
    ⟨rfl, rfl⟩⟩

/-- Before a missing cell, at the acceptance, and in a cell's own work, after which the feeder is as it was. -/
theorem meets_EnlistAnnouncesAMapWithTheFeeder_during_the_work :
    (∀ n, n = 0 ∨ n = 15 →
      let s := working (asked (mapped up .standby) 0x09 2 []) (gapped n)
      s.acts ∧ s.requests .enlist (ask 0x09 2 []) ∧ ∀ w, s.work = some w → w.stage = .accepted)
    ∧ (let s := working (asked (mapped up .standby) 0x09 2 []) ending
      s.acts ∧ s.requests .enlist (ask 0x09 2 []) ∧ (s.finishWork.engines.get .f2).state = .offline
      ∧ s.finishWork.maps.pending = none ∧ ∃ w, s.work = some w ∧ w.stage ≠ .accepted) := by
  refine ⟨?_, ⟨rfl, rfl⟩, ⟨rfl, rfl⟩, by decide +kernel, by decide +kernel, ending, rfl, by decide⟩
  rintro n (rfl | rfl) <;> exact ⟨⟨rfl, rfl⟩, ⟨rfl, rfl⟩, fun w h => by cases h; rfl⟩

theorem meets_RetireAnnouncesAMapWithoutTheFeeder :
    let r := ask 0x0A 1 []
    ∀ x ∈ [FeederState.injecting, .checking, .standby, .shed, .lockout],
      let s := asked (mapped up x) 0x0A 1 []
      s.acts ∧ s.requests .retire r ∧ r.target.toNat = Feeder.f1.number ∧ (s.engines.get .f1).state = x
      ∧ s.maps.pending = none ∧ (asked announced 0x0A 1 []).requests .retire r ∧ announced.maps.pending ≠ none := by
  unfold State.acts State.requests
  decide +kernel

/-- Before a missing cell, at the acceptance, and in a cell's own work, after which the feeder is as it was. -/
theorem meets_RetireAnnouncesAMapWithoutTheFeeder_during_the_work :
    (∀ n, n = 0 ∨ n = 15 →
      let s := working (asked (mapped up .standby) 0x0A 1 []) (gapped n)
      s.acts ∧ s.requests .retire (ask 0x0A 1 []) ∧ ∀ w, s.work = some w → w.stage = .accepted)
    ∧ (let s := working (asked (mapped up .standby) 0x0A 1 []) ending
      s.acts ∧ s.requests .retire (ask 0x0A 1 []) ∧ (s.finishWork.engines.get .f1).state = .standby
      ∧ s.finishWork.maps.pending = none ∧ ∃ w, s.work = some w ∧ w.stage ≠ .accepted) := by
  refine ⟨?_, ⟨rfl, rfl⟩, ⟨rfl, rfl⟩, by decide +kernel, by decide +kernel, ending, rfl, by decide⟩
  rintro n (rfl | rfl) <;> exact ⟨⟨rfl, rfl⟩, ⟨rfl, rfl⟩, fun w h => by cases h; rfl⟩

theorem meets_ForceBypassLocksTheFeederOut :
    let r := ask 0x0B 1 []
    ∀ x ∈ [FeederState.offline, .lockout, .checking, .injecting, .releasing],
      let s := asked (mapped up x) 0x0B 1 []
      s.acts ∧ s.requests .forceBypass r ∧ r.target.toNat = Feeder.f1.number ∧ (s.engines.get .f1).state = x := by
  unfold State.acts State.requests
  decide +kernel

/-- In a state with the link DOWN and nothing HOT or over current no condition holds. -/
theorem meets_ClearFlagsKeepsHeldConditions :
    let s := asked (mapped idle .lockout) 0x0C 15 [0xFFFF, 0xFFFF]
    s.acts ∧ s.requests .clearFlags (ask 0x0C 15 [0xFFFF, 0xFFFF]) ∧ (s.engines.get .f1).state = .lockout
    ∧ (∀ i, (fun _ => false : Nat → Bool) i = true ↔ (i = 0 ∧ s.ingress.link = .quiet) ∨ (i = 8 ∧ s.store.storeHot = true)
      ∨ (∃ f : Feeder, i = 11 + 5 * f.number ∧ s.verifier.overcurrent.get f = true)
      ∨ ∃ f : Feeder, i = 15 + 5 * f.number ∧ s.store.sinkHot.get f = true) := by
  refine ⟨⟨rfl, rfl⟩, ⟨rfl, rfl⟩, by decide, fun i => ⟨fun h => Bool.noConfusion h, ?_⟩⟩
  rintro (⟨-, h⟩ | ⟨-, h⟩ | ⟨f, -, h⟩ | ⟨f, -, h⟩)
  · exact absurd h (by decide)
  · exact absurd h (by decide)
  · exact absurd h (by cases f <;> decide)
  · exact absurd h (by cases f <;> decide)

theorem meets_SetReportSetsTheMasks :
    (asked up 0x0D 15 [1, 0x8000]).acts ∧ (asked up 0x0D 15 [1, 0x8000]).requests .setReport (ask 0x0D 15 [1, 0x8000]) :=
  ⟨⟨rfl, rfl⟩, ⟨rfl, rfl⟩⟩

/-- FEEDER_CHANGE latched and reported for feeder 1 alone: the last cause of the order. -/
theorem meets_AttentionNamesTheHighestPriority :
    let u := FlagUnit.reset.raiseChange .f1
    (u.latched.getLsbD 31 = false) ∧ (u.latched.getLsbD 10 && u.reported.getLsbD 10) = true
    ∧ (∀ i, i < 32 → i ≠ 10 → (u.latched.getLsbD i && u.reported.getLsbD i) = false)
    ∧ u.changed.get .f1 = true ∧ (∀ g : Feeder, g.number < Feeder.f1.number → u.changed.get g = false)
    ∧ FlagUnit.reset.latched = 0 := by
  refine ⟨by decide, by decide, by decide, by decide, ?_, by decide⟩
  intro g; cases g <;> decide

/-- The last place of a full queue, the index after it, the open record and none, and the place after a queue's end. -/
theorem meets_ReadEventReturnsTheNamedRecord :
    let s := recorded inSag (List.range 16)
    (asked s 0x10 15 [15]).acts ∧ (asked s 0x10 15 [15]).requests .readEvent (ask 0x10 15 [15])
    ∧ s.recorder.queue[15]? = some (record 15)
    ∧ (asked s 0x10 15 [255]).requests .readEvent (ask 0x10 15 [255])
    ∧ s.recorder.openRecord = some ⟨1, 0, 5, 900, 900, [.f1]⟩
    ∧ (asked s 0x10 15 [16]).requests .readEvent (ask 0x10 15 [16])
    ∧ (asked up 0x10 15 [255]).requests .readEvent (ask 0x10 15 [255]) ∧ up.recorder.openRecord = none
    ∧ (asked (recorded up [1]) 0x10 15 [1]).requests .readEvent (ask 0x10 15 [1]) ∧ (recorded up [1]).recorder.queue.length = 1 :=
  ⟨⟨rfl, rfl⟩, ⟨rfl, rfl⟩, rfl, ⟨rfl, rfl⟩, rfl, ⟨rfl, rfl⟩, ⟨rfl, rfl⟩, rfl, ⟨rfl, rfl⟩, rfl⟩

theorem meets_ReleaseEventRemovesOnlyTheOldest :
    (asked (recorded up [9]) 0x11 15 [9]).acts
    ∧ (asked (recorded up [9]) 0x11 15 [9]).requests .releaseEvent (ask 0x11 15 [9])
    ∧ (asked (recorded up [9]) 0x11 15 [9]).recorder.queue = record 9 :: [] ∧ (record 9).number = 9
    ∧ (asked (recorded up [8]) 0x11 15 [9]).requests .releaseEvent (ask 0x11 15 [9]) ∧ (record 8).number ≠ 9
    ∧ (asked up 0x11 15 [9]).requests .releaseEvent (ask 0x11 15 [9]) ∧ up.recorder.queue = [] :=
  ⟨⟨rfl, rfl⟩, ⟨rfl, rfl⟩, rfl, rfl, ⟨rfl, rfl⟩, by decide, ⟨rfl, rfl⟩, rfl⟩

/-- A SET_ECHO whose setting waits for the end of the cell's work. -/
def echoing : State :=
  working
    { up with
      management :=
        { up.management with
          engine := .executing, inFlight := some (ask 0x13 15 [1]), carriedOut := true, echoWaits := some true } } ending

/-- Words 0, 1 and 2 between cells, a feeder that bars echo, a request in a cell's work, and the end of that cell. -/
theorem meets_SetEchoWaitsForTheCell :
    (asked up 0x13 15 [0]).acts ∧ (asked up 0x13 15 [0]).requests .setEcho (ask 0x13 15 [0])
    ∧ (asked up 0x13 15 [1]).requests .setEcho (ask 0x13 15 [1]) ∧ (asked up 0x13 15 [2]).requests .setEcho (ask 0x13 15 [2])
    ∧ (asked up 0x13 15 [0]).work = none
    ∧ (failing.engines.get .f1).state ∈ [FeederState.checking, .injecting, .releasing]
    ∧ (working (asked up 0x13 15 [1]) ending).requests .setEcho (ask 0x13 15 [1])
    ∧ echoing.standsIn ending .engined ∧ echoing.management.engine = .executing ∧ echoing.management.echoWaits = some true
    ∧ echoing.management.inFlight = some (ask 0x13 15 [1]) ∧ echoing.maps.pending = none ∧ echoing.loader.state ≠ .waiting :=
  ⟨⟨rfl, rfl⟩, ⟨rfl, rfl⟩, ⟨rfl, rfl⟩, ⟨rfl, rfl⟩, rfl, by decide, ⟨rfl, rfl⟩, ⟨⟨rfl, rfl⟩, rfl, rfl⟩, rfl, rfl, rfl, rfl,
    by decide⟩

/-- A request before a missing cell and at the acceptance. -/
theorem meets_SetEchoWaitsForTheCell_in_a_gap :
    ∀ n, n = 0 ∨ n = 15 →
      let s := working (asked up 0x13 15 [1]) (gapped n)
      s.acts ∧ s.requests .setEcho (ask 0x13 15 [1]) ∧ ∀ w, s.work = some w → w.stage = .accepted := by
  rintro n (rfl | rfl) <;> exact ⟨⟨rfl, rfl⟩, ⟨rfl, rfl⟩, fun w h => by cases h; rfl⟩

theorem meets_SaveImageWritesPageByPage :
    (asked up 0x14 15 []).acts ∧ (asked up 0x14 15 []).requests .saveImage (ask 0x14 15 [])
    ∧ saving.acts ∧ saving.loader.state = .writing ∧ saving.loader.writes = [⟨0, [0x5A, 0x3C]⟩]
    ∧ saving.management.engine = .saving ∧ saving.management.inFlight = some (ask 0x14 15 [])
    ∧ (let s := { saving with loader := { saving.loader with writes := [⟨32, [1]⟩, ⟨0, [0x5A, 0x3C]⟩] } }
      s.acts ∧ s.loader.state = .writing ∧ s.loader.writes = ⟨32, [1]⟩ :: [⟨0, [0x5A, 0x3C]⟩]
      ∧ [(⟨0, [0x5A, 0x3C]⟩ : PageWrite)] ≠ []) :=
  ⟨⟨rfl, rfl⟩, ⟨rfl, rfl⟩, ⟨rfl, rfl⟩, rfl, rfl, rfl, rfl, ⟨rfl, rfl⟩, rfl, rfl, by decide⟩

/-- One reply buffered, and two. -/
theorem meets_DeviceResetStaysInFlight :
    ∀ n, n = 1 ∨ n = 2 →
      let s := { asked up 0x15 15 [] with management := { up.management with replies := List.replicate n ⟨7, .done, [], false⟩ } }
      s.acts ∧ s.requests .deviceReset (ask 0x15 15 []) ∧ s.management.replies.length = n := by
  rintro n (rfl | rfl) <;> exact ⟨⟨rfl, rfl⟩, ⟨rfl, rfl⟩, rfl⟩

/-- AUTO_ENLIST 0 and 15. -/
theorem meets_ManagementResetKeepsConfigurationAndRecords :
    ({ failing with due := some .managementReset }).inReset = false
    ∧ ({ failing with due := some .managementReset }).due = some .managementReset
    ∧ failing.tables.active.autoEnlist % 16 = 0 ∧ { Bank.default with autoEnlist := 15 }.autoEnlist % 16 ≠ 0 := by decide +kernel

/-- An erased memory; an image with no record; and one with a single record that makes the store levels meet. -/
theorem meets_ImageReadDecidesTheLoad :
    reading.acts ∧ reading.loader.state = .reading ∧ reading.memory.imageBank reading.tables.shadow = none
    ∧ ((Memory.ofBytes (wordBytes (imageWords []))).imageBank reading.tables.shadow = some Bank.default
        ∧ Bank.default.fault = none)
    ∧ (let b := { Bank.default with storeFull := 16000 }
      (Memory.ofBytes (wordBytes (imageWords (Machine.record 0x03 15 [17, 0, 16000])))).imageBank reading.tables.shadow = some b
      ∧ b.fault ≠ none) :=
  ⟨⟨rfl, rfl⟩, rfl, by decide +kernel, by decide +kernel, by decide +kernel⟩

/-- A wrong signature, a version 2, a count of 2,049, a wrong check word and a record of an unknown item make no bank; a load with a
cell accepted and with one in its own work. -/
theorem meets_ImageReadDecidesTheLoad_of_each_fault :
    (∀ words ∈ [[0x5A3D, 1, 0, 0], [0x5A3C, 2, 0, 0], [0x5A3C, 1, 2049, 0], [0x5A3C, 1, 0, 0],
        imageWords (Machine.record 0x03 15 [26, 0, 1])],
      (Memory.ofBytes (wordBytes words)).imageBank Bank.default = none)
    ∧ ((working reading (gapped 0)).acts ∧ ((working reading (gapped 0)).work.all fun w => decide (w.stage = .accepted)) = true)
    ∧ (working reading ending).acts ∧ ((working reading ending).work.all fun w => decide (w.stage = .accepted)) = false :=
  ⟨by decide +kernel, ⟨⟨rfl, rfl⟩, rfl⟩, ⟨rfl, rfl⟩, rfl⟩

theorem meets_ImageCommitFinishesTheLoad :
    waiting.inReset = false ∧ waiting.due = some .imageCommit ∧ waiting.work = none
    ∧ waiting.tables.shadow.autoEnlist.testBit Feeder.f2.number = true ∧ (waiting.engines.get .f2).state = .offline
    ∧ waiting.tables.shadow.autoEnlist.testBit Feeder.f1.number = false ∧ waiting.tables.shadow.autoEnlist % 16 ≠ 0
    ∧ (let s := working { waiting with due := none } ending
      s.standsIn ending .engined ∧ s.loader.state = .waiting ∧ s.monitor.sag = .acquiring ∧ s.maps.pending = none
      ∧ s.management.engine ≠ .deferred) :=
  ⟨rfl, rfl, rfl, by decide, by decide, by decide, by decide, ⟨⟨rfl, rfl⟩, rfl, rfl⟩, rfl, rfl, rfl, by decide⟩

/-! The invariants that every step keeps hold in a state in the middle of an event, with a step that leads somewhere. -/

/-- A state in the middle of an event: feeder 1 INJECTING, a record open, a cell waiting to be worked. -/
def midEvent : State := { failing with pending := [.quietTimerExpiry] }

theorem meets_EveryStepKeepsGainsSound : gainsSound midEvent ∧ step midEvent = .next (run .quietTimerExpiry failing) := by
  refine ⟨fun f => ?_, rfl⟩
  cases f <;> decide

theorem meets_EveryStepKeepsWindowSumsExact :
    windowSumsExact { midEvent with
      monitor := { midEvent.monitor with windows := ⟨[3, -4], [], [0]⟩, sums := ⟨25, 0, 0⟩ } } := by
  intro p
  cases p <;> decide

theorem meets_EveryStepKeepsBanksSound : banksSound (deferred 0x07) := ⟨by decide, fun _ => by decide⟩

/-- The default bank lies in the catalogue. -/
theorem default_inCatalogue : Bank.default.inCatalogue := by
  refine ⟨fun d => ?_, by decide, fun f => ⟨fun i => ?_, ?_, ?_, ?_, ?_, ?_, ?_⟩⟩
  · cases d <;> decide
  · cases f <;> cases i <;> decide
  all_goals cases f <;> decide

/-- Default banks, with a LOAD_ENVELOPE of eight rows and an entry tagged MALFORMED that has none in the queue, and a commit in
flight. -/
theorem meets_EveryStepKeepsBanksSound_of_the_catalogue :
    let bad := { ask 0x04 0 [] with malformed := true }
    let s := { deferred 0x07 with
      ingress := { up.ingress with queue := [ask 0x04 0 (8 :: List.replicate 16 0), bad] }
      tables := up.tables }
    tablesInCatalogue s ∧ s.management.inFlight = some (ask 0x07 15 []) := by
  refine ⟨⟨default_inCatalogue, default_inCatalogue, fun r h => ?_, fun r h => ?_⟩, rfl⟩
  · simp only [List.mem_cons, List.not_mem_nil, or_false] at h
    rcases h with rfl | rfl
    · exact fun _ => by decide
    · exact fun h => Bool.noConfusion h
  · obtain rfl := Option.some.inj h
    exact fun _ => by decide

theorem meets_EveryStepKeepsMapsSound : mapsSound midEvent := by
  refine ⟨by decide, ?_, fun _ f => ?_, fun f h => ?_, fun h => absurd h (by decide)⟩
  · intro p h
    exact absurd (show none = some p from h) nofun
  · cases f <;> decide
  · exact absurd h (by cases f <;> decide)

theorem meets_EveryStepKeepsAmplitudeInBand : amplitudeInBand (working midEvent ending) :=
  ⟨by decide, by decide, fun w h _ => by cases h; rfl, fun h => absurd h (by decide)⟩

theorem meets_EveryStepKeepsRecordSound : recordSound midEvent ∧ recordSound (working midEvent ending) :=
  ⟨rfl, rfl, fun h => Bool.noConfusion h⟩

theorem meets_EveryStepKeepsBoundsAndMemory : queuesBounded midEvent ∧ flagsSound midEvent ∧ memoryCanonical midEvent := by
  refine ⟨⟨by decide, by decide, by decide, fun k => ?_⟩, ⟨by decide, by decide⟩, by unfold memoryCanonical; decide⟩
  cases k <;> decide

/-- The default bank lies in the catalogue, and its Response Tables hold 16 entries. -/
theorem meets_SavedImageLoadsBack :
    Bank.default.inCatalogue ∧ (∀ f, (Bank.default.feeder f).response.length = 16) ∧ Memory.wf [] = true :=
  ⟨default_inCatalogue, fun f => by cases f <;> rfl, rfl⟩

theorem meets_InterruptedSaveIsCorrupt : 1 < Bank.default.saveWrites.length := by decide +kernel

end Sys2Proof.Tests
end

section
/-! Cells and links: what the commands of the two links do to a state on which they act (sections 1.2 to 1.6). -/
open Sys2Proof Sys2Proof.Machine
namespace Sys2Proof.Machine

/-! ### The step -/

theorem step_of_cons {s : State} {c : Instr} {rest : List Instr} (h : s.pending = c :: rest) :
    step s = exec c { s with pending := rest } := by
  unfold step
  rw [h]

theorem step_of_nil {s : State} (h : s.pending = []) : step s = .next s.idle := by
  unfold step
  rw [h]

theorem State.finishWork_of_none {s : State} (h : s.work = none) : s.finishWork = s := by
  simp [State.finishWork, State.workTo, h]

theorem State.workTo_of_none {s : State} (h : s.work = none) (p : WorkPoint) : s.workTo p = s := by
  simp [State.workTo, h]

theorem State.carryDue_of_none {s : State} (h : s.due = none) : s.carryDue = s := by
  simp [State.carryDue, h]

theorem State.idle_of_none {s : State} (hw : s.work = none) (hd : s.due = none) : s.idle = s := by
  simp [State.idle, State.ready, State.carryDue_of_none hd, State.finishWork_of_none hw]

/-- Settles O1. -/
theorem stepTakesTheFrontCommand : Obligations.StepTakesTheFrontCommand :=
  ⟨fun _ _ _ h => step_of_cons h, fun s h hw hd => by rw [step_of_nil h, State.idle_of_none hw hd]⟩

/-! ### A cell arrives -/

/-- With no cell being worked, an arriving cell is checked and worked up to the point named. -/
theorem exec_cellArrival_of_acts {s : State} (h : s.acts) (hw : s.work = none) (words : List Word) (p : WorkPoint) :
    exec (.cellArrival words p) s = .next ((s.arrive words).workTo p) := by
  change Host.Outcome.next _ = _
  rw [State.ready_acts h, State.finishWork_of_none hw]

/-- A cell that is dropped leaves no cell being worked, so the point named does not matter. -/
theorem exec_cellArrival_of_arrive {s t : State} (h : s.acts) (hw : s.work = none) {words : List Word}
    (ht : s.arrive words = t) (htw : t.work = none) (p : WorkPoint) : exec (.cellArrival words p) s = .next t := by
  rw [exec_cellArrival_of_acts h hw, ht, State.workTo_of_none htw]

/-- Counting 1 and latching a flag is what dropping a cell does (R5, R7, R15). -/
theorem State.latch_count_one (s : State) (k : LinkCounter) (d : DeviceFlag) : (s.count k 1).latch d = s.dropped k d.index :=
  rfl

theorem State.shapeError_eq (s : State) : s.shapeError = s.dropped .shapeErrors 2 := s.latch_count_one _ _
theorem State.crcError_eq (s : State) : s.crcError = s.dropped .crcErrors 1 := s.latch_count_one _ _
theorem State.epochError_eq (s : State) : s.epochError = s.dropped .epochErrors 3 := s.latch_count_one _ _

theorem lengthBounds_iff (n : Nat) : lengthBounds n = true ↔ 3 ≤ n ∧ n ≤ 52 := by
  unfold lengthBounds
  rw [Bool.and_eq_true, decide_eq_true_eq, decide_eq_true_eq]
  rfl

theorem crcMatches_iff (words : List Word) : crcMatches words = true ↔ words.getLast? = some (crc16 words.dropLast) := by
  simp [crcMatches]

/-- The first two checks pass exactly for a sound cell, which then goes to its kind's own checks (R5). -/
theorem State.arrive_of_sound (s : State) {words : List Word} (h : soundCell words) :
    s.arrive words =
      if headerKind (wordAt words 0) = 1 then s.arriveSense words
      else if headerKind (wordAt words 0) = 2 then s.arriveManage words
      else s.shapeError := by
  obtain ⟨low, high, crc⟩ := h
  unfold State.arrive
  rw [if_pos ((lengthBounds_iff _).2 ⟨low, high⟩), if_pos ((crcMatches_iff _).2 crc)]
  rfl

theorem State.arrive_of_badLength (s : State) {words : List Word} (h : words.length < 3 ∨ 52 < words.length) :
    s.arrive words = s.shapeError := by
  unfold State.arrive
  rw [if_neg]
  rw [lengthBounds_iff]
  omega

theorem State.arrive_of_badCrc (s : State) {words : List Word} (low : 3 ≤ words.length) (high : words.length ≤ 52)
    (crc : words.getLast? ≠ some (crc16 words.dropLast)) : s.arrive words = s.crcError := by
  unfold State.arrive
  rw [if_pos ((lengthBounds_iff _).2 ⟨low, high⟩), if_neg (mt (crcMatches_iff _).1 crc)]

/-- Settles O5. -/
theorem firstThreeChecksDropACell : Obligations.FirstThreeChecksDropACell := by
  intro s words upTo h hw
  refine ⟨fun bad => ?_, fun low high crc => ?_, fun sound sense manage => ?_⟩
  · exact exec_cellArrival_of_arrive h hw ((s.arrive_of_badLength bad).trans s.shapeError_eq) (by exact hw) upTo
  · exact exec_cellArrival_of_arrive h hw ((s.arrive_of_badCrc low high crc).trans s.crcError_eq) (by exact hw) upTo
  · refine exec_cellArrival_of_arrive h hw ?_ (by exact hw) upTo
    rw [s.arrive_of_sound sound, if_neg sense, if_neg manage, s.shapeError_eq]

/-! ### The checks of each kind -/

theorem State.arrive_manage (s : State) {words : List Word} (h : soundCell words) (kind : headerKind (wordAt words 0) = 2) :
    s.arrive words = s.arriveManage words := by
  rw [s.arrive_of_sound h, if_neg (by rw [kind]; decide), if_pos kind]

theorem State.arrive_sense (s : State) {words : List Word} (h : soundCell words) (kind : headerKind (wordAt words 0) = 1) :
    s.arrive words = s.arriveSense words := by
  rw [s.arrive_of_sound h, if_pos kind]

/-- The active map is named (R6). -/
theorem State.mapNamed_active {s : State} {e : BitVec 4} (h : e = s.maps.epoch) : s.mapNamed e = some (s.maps.active, false) := by
  simp [State.mapNamed, h]

/-- The pending map is named (R6, R7). -/
theorem State.mapNamed_pending {s : State} {e : BitVec 4} {p : PendingMap} (h : e ≠ s.maps.epoch) (hp : s.maps.pending = some p)
    (he : e = p.epoch) : s.mapNamed e = some (p.feeders, true) := by
  simp [State.mapNamed, hp, he, show p.epoch ≠ s.maps.epoch from he ▸ h]

/-- No map is named (R7). -/
theorem State.mapNamed_none {s : State} {e : BitVec 4} (h : e ≠ s.maps.epoch) (hp : ∀ p, s.maps.pending = some p → e ≠ p.epoch) :
    s.mapNamed e = none := by
  unfold State.mapNamed
  rw [if_neg h]
  cases hq : s.maps.pending with
  | none => rfl
  | some p => exact if_neg (hp p hq)

/-- A SENSE cell whose epoch names a map is checked for that map's length, then for its number (R6, R8). -/
theorem State.arriveSense_of_named {s : State} {words : List Word} {map : List Feeder} {switches : Bool}
    (h : s.mapNamed (headerEpoch (wordAt words 0)) = some (map, switches)) :
    s.arriveSense words
      = if words.length = 7 + 6 * map.length then s.checkSequence (senseOf words) switches else s.shapeError := by
  unfold State.arriveSense
  change (match s.mapNamed (headerEpoch (wordAt words 0)) with | none => _ | some (map, switches) => _) = _
  rw [h]
  rfl

theorem State.arriveSense_of_unnamed {s : State} {words : List Word} (h : s.mapNamed (headerEpoch (wordAt words 0)) = none) :
    s.arriveSense words = s.epochError := by
  unfold State.arriveSense
  change (match s.mapNamed (headerEpoch (wordAt words 0)) with | none => _ | some (map, switches) => _) = _
  rw [h]

/-- A SENSE cell that fits its map comes to the sixth check (R8). -/
theorem State.arrive_of_senseFits {s : State} {words : List Word} {switches : Bool} (h : s.senseFits words switches) :
    s.arrive words = s.checkSequence (senseOf words) switches := by
  obtain ⟨sound, kind, ⟨rfl, epoch, length⟩ | ⟨rfl, other, p, hp, epoch, length⟩⟩ := h
  · rw [s.arrive_sense sound kind, State.arriveSense_of_named (State.mapNamed_active epoch), if_pos length]
  · rw [s.arrive_sense sound kind, State.arriveSense_of_named (State.mapNamed_pending other hp epoch), if_pos length]

/-- The sixth check on a repeated number (R8). -/
theorem State.checkSequence_duplicate {s : State} {c : Sense} {switches : Bool} (up : s.ingress.link = .up) (gap : s.gap c = 255) :
    s.checkSequence c switches = s.duplicate := by
  unfold State.checkSequence
  rw [show sequenceGap c.sequence s.ingress.expected = 255 from gap, up]
  rfl

/-- The sixth check on a number that is accepted (R8 to R10). -/
theorem State.checkSequence_of_admits {s : State} {c : Sense} {missing : Nat} {breaks : Bool} (h : s.admits c missing breaks)
    (switches : Bool) : s.checkSequence c switches = s.accept c missing breaks switches := by
  unfold State.checkSequence sequenceCheck
  change (match if _ then if s.gap c = 255 then _ else if s.gap c ≤ 15 then SequenceCheck.accepted (s.gap c) else _ else _ with
    | .accepted m => _ | .duplicate => _ | .sequenceBreak => _) = _
  rcases h with ⟨down, rfl, rfl⟩ | ⟨up, rfl, few, rfl⟩ | ⟨up, rfl, low, high, rfl⟩
  · rw [if_neg down]
  · rw [if_pos up, if_neg (by omega), if_pos few]
  · rw [if_pos up, if_neg (by omega), if_neg (by omega)]

/-- Settles O6. -/
theorem laterChecksDropACell : Obligations.LaterChecksDropACell := by
  intro s words upTo h hw sound
  refine ⟨fun kind bad => ?_, fun kind epoch bad => ?_, fun p kind other hp epoch bad => ?_, fun kind other none => ?_,
    fun switches fits up gap => ?_⟩
  · refine exec_cellArrival_of_arrive h hw ?_ (by exact hw) upTo
    rw [s.arrive_manage sound kind, ← s.shapeError_eq]
    exact if_neg bad
  · refine exec_cellArrival_of_arrive h hw ?_ (by exact hw) upTo
    rw [s.arrive_sense sound kind, State.arriveSense_of_named (State.mapNamed_active epoch), if_neg bad, s.shapeError_eq]
  · refine exec_cellArrival_of_arrive h hw ?_ (by exact hw) upTo
    rw [s.arrive_sense sound kind, State.arriveSense_of_named (State.mapNamed_pending other hp epoch), if_neg bad, s.shapeError_eq]
  · refine exec_cellArrival_of_arrive h hw ?_ (by exact hw) upTo
    rw [s.arrive_sense sound kind, State.arriveSense_of_unnamed (State.mapNamed_none other none), s.epochError_eq]
  · refine exec_cellArrival_of_arrive h hw ?_ (by exact hw) upTo
    rw [State.arrive_of_senseFits fits, State.checkSequence_duplicate up gap]
    rfl

end Sys2Proof.Machine
end

section
open Sys2Proof Sys2Proof.Machine
namespace Sys2Proof.Machine

/-! ### The management queue and the command table -/

/-- A row of the command table as its command's code (R16). -/
def Command.code : Command → BitVec 8
  | .enquire => 0x01
  | .readSetting => 0x02
  | .writeSetting => 0x03
  | .loadEnvelope => 0x04
  | .loadResponse => 0x05
  | .commitNow => 0x06
  | .commitSync => 0x07
  | .discardShadow => 0x08
  | .enlist => 0x09
  | .retire => 0x0A
  | .forceBypass => 0x0B
  | .clearFlags => 0x0C
  | .setReport => 0x0D
  | .readCounters => 0x0E
  | .writeCounter => 0x0F
  | .readEvent => 0x10
  | .releaseEvent => 0x11
  | .readLive => 0x12
  | .setEcho => 0x13
  | .saveImage => 0x14
  | .deviceReset => 0x15

theorem Command.ofCode_code (c : Command) : Command.ofCode c.code.toNat = some c := by cases c <;> rfl

/-- A code names the command whose code it is, and no other (R16). -/
theorem Command.ofCode_eq_some_iff (code : BitVec 8) (c : Command) :
    Command.ofCode code.toNat = some c ↔ code = c.code := by
  refine ⟨fun h => BitVec.eq_of_toNat_eq ?_, fun h => h ▸ c.ofCode_code⟩
  unfold Command.ofCode at h
  split at h
  case h_22 => cases h
  all_goals
    obtain rfl := Option.some.inj h
    assumption

/-- An entry passes the command table exactly where its code names a command that allows its target and its length (R16). -/
theorem commandTableAllows_iff (code : BitVec 8) (target : BitVec 4) (payload : List Word) :
    commandTableAllows code target payload = true
      ↔ ∃ c : Command, code = c.code ∧ c.allowsTarget target = true ∧ c.allowsLength payload = true := by
  simp only [← Command.ofCode_eq_some_iff]
  unfold commandTableAllows
  cases Command.ofCode code.toNat with
  | none => simp
  | some c => simp

/-- What the command table asks of a command's target and payload (R16). -/
def Command.row (target : BitVec 4) (payload : List Word) : Command → Prop
  | .enquire | .commitNow | .commitSync | .discardShadow | .readCounters | .readLive | .saveImage | .deviceReset =>
    target = 15 ∧ payload.length = 0
  | .readSetting => (target.toNat ≤ 3 ∨ target = 15) ∧ payload.length = 2
  | .writeSetting => (target.toNat ≤ 3 ∨ target = 15) ∧ payload.length = 3
  | .loadEnvelope =>
    target.toNat ≤ 3 ∧ ∃ r rest, payload = r :: rest ∧ 1 ≤ r.toNat ∧ r.toNat ≤ 8 ∧ payload.length = 1 + 2 * r.toNat
  | .loadResponse => target.toNat ≤ 3 ∧ payload.length % 2 = 0 ∧ 2 ≤ payload.length ∧ payload.length ≤ 32
  | .enlist | .retire | .forceBypass => target.toNat ≤ 3 ∧ payload.length = 0
  | .clearFlags | .setReport | .writeCounter => target = 15 ∧ payload.length = 2
  | .readEvent | .releaseEvent | .setEcho => target = 15 ∧ payload.length = 1

/-- LOAD_ENVELOPE's length follows its first word, which is 1 to 8 (R16). -/
theorem Command.allowsLength_loadEnvelope_iff (payload : List Word) :
    Command.loadEnvelope.allowsLength payload = true
      ↔ ∃ r rest, payload = r :: rest ∧ 1 ≤ r.toNat ∧ r.toNat ≤ 8 ∧ payload.length = 1 + 2 * r.toNat := by
  cases payload with
  | nil => simp [Command.allowsLength]
  | cons r rest => simp [Command.allowsLength, and_assoc]

theorem Command.row_iff (c : Command) (target : BitVec 4) (payload : List Word) :
    c.allowsTarget target = true ∧ c.allowsLength payload = true ↔ c.row target payload := by
  cases c
  case loadEnvelope => simp [Command.allowsLength_loadEnvelope_iff, Command.allowsTarget, Command.row]
  all_goals simp [Command.allowsTarget, Command.allowsLength, Command.row, ← show deviceTarget = 15#4 from rfl, and_assoc]

/-- The command table row by row (R16). -/
theorem commandTableAllows_iff_row (code : BitVec 8) (target : BitVec 4) (payload : List Word) :
    commandTableAllows code target payload = true ↔
      (code ∈ [0x01#8, 0x06, 0x07, 0x08, 0x0E, 0x12, 0x14, 0x15] ∧ target = 15 ∧ payload.length = 0)
      ∨ (code = 0x02 ∧ (target.toNat ≤ 3 ∨ target = 15) ∧ payload.length = 2)
      ∨ (code = 0x03 ∧ (target.toNat ≤ 3 ∨ target = 15) ∧ payload.length = 3)
      ∨ (code = 0x04 ∧ target.toNat ≤ 3 ∧ ∃ r rest, payload = r :: rest ∧ 1 ≤ r.toNat ∧ r.toNat ≤ 8
          ∧ payload.length = 1 + 2 * r.toNat)
      ∨ (code = 0x05 ∧ target.toNat ≤ 3 ∧ payload.length % 2 = 0 ∧ 2 ≤ payload.length ∧ payload.length ≤ 32)
      ∨ (code ∈ [0x09#8, 0x0A, 0x0B] ∧ target.toNat ≤ 3 ∧ payload.length = 0)
      ∨ (code ∈ [0x0C#8, 0x0D, 0x0F] ∧ target = 15 ∧ payload.length = 2)
      ∨ (code ∈ [0x10#8, 0x11, 0x13] ∧ target = 15 ∧ payload.length = 1) := by
  simp only [commandTableAllows_iff, Command.row_iff, List.mem_cons, List.not_mem_nil, or_false]
  constructor
  · rintro ⟨c, rfl, h⟩
    cases c <;> simp_all [Command.code, Command.row]
  · rintro (⟨rfl | rfl | rfl | rfl | rfl | rfl | rfl | rfl, h⟩ | ⟨rfl, h⟩ | ⟨rfl, h⟩ | ⟨rfl, h⟩ | ⟨rfl, h⟩ | ⟨rfl | rfl | rfl, h⟩
      | ⟨rfl | rfl | rfl, h⟩ | ⟨rfl | rfl | rfl, h⟩)
    exacts [⟨.enquire, rfl, h⟩, ⟨.commitNow, rfl, h⟩, ⟨.commitSync, rfl, h⟩, ⟨.discardShadow, rfl, h⟩, ⟨.readCounters, rfl, h⟩,
      ⟨.readLive, rfl, h⟩, ⟨.saveImage, rfl, h⟩, ⟨.deviceReset, rfl, h⟩, ⟨.readSetting, rfl, h⟩, ⟨.writeSetting, rfl, h⟩,
      ⟨.loadEnvelope, rfl, h⟩, ⟨.loadResponse, rfl, h⟩, ⟨.enlist, rfl, h⟩, ⟨.retire, rfl, h⟩, ⟨.forceBypass, rfl, h⟩,
      ⟨.clearFlags, rfl, h⟩, ⟨.setReport, rfl, h⟩, ⟨.writeCounter, rfl, h⟩, ⟨.readEvent, rfl, h⟩, ⟨.releaseEvent, rfl, h⟩,
      ⟨.setEcho, rfl, h⟩]

/-- An entry is taken on its arrival, joins the queue's tail, or is dropped (R15, R169, R193). -/
theorem State.offer_eq (s : State) (r : Request) :
    s.offer r
      = if s.management.engine = .idle ∧ s.ingress.queue = [] ∧ s.loader.state.loading = false then
          { s with management := { s.management with engine := .executing, inFlight := some r, carriedOut := false } }
        else if s.ingress.queue.length < 8 then { s with ingress := { s.ingress with queue := s.ingress.queue ++ [r] } }
        else s.dropped .managementOverruns 5 := by
  unfold State.offer
  have taken : s.takesOnArrival = true
      ↔ s.management.engine = .idle ∧ s.ingress.queue = [] ∧ s.loader.state.loading = false := by
    simp [State.takesOnArrival, and_assoc]
  rw [if_congr taken rfl rfl]
  by_cases h : s.management.engine = .idle ∧ s.ingress.queue = [] ∧ s.loader.state.loading = false
  · rw [if_pos h, if_pos h]
    obtain ⟨idle, empty, -⟩ := h
    unfold State.take
    rw [if_pos idle, empty, List.tail_nil, ← empty]
  · rw [if_neg h, if_neg h]
    rfl

theorem State.offer_work (s : State) (r : Request) : (s.offer r).work = s.work := by
  rw [State.offer_eq]
  split
  · rfl
  · split <;> rfl

/-- Settles O9. -/
theorem manageCellJoinsTheQueue : Obligations.ManageCellJoinsTheQueue := by
  refine ⟨fun s words upTo h hw sound kind length => ?_, fun _ => ⟨rfl, rfl, rfl, rfl, rfl⟩, commandTableAllows_iff_row⟩
  rw [exec_cellArrival_of_acts h hw, s.arrive_manage sound kind, State.arriveManage, if_pos length,
    State.workTo_of_none (by rw [State.offer_work, hw]), State.offer_eq]

end Sys2Proof.Machine
end

section
open Sys2Proof Sys2Proof.Machine
namespace Sys2Proof.Machine

/-! ### Cells being sent -/

/-- A DRIVE cell of n slots has 3 + 4n words (R4). -/
theorem length_driveCell (epoch : BitVec 4) (sequence : BitVec 8) (status : Word) (map : List Feeder) (g : Feeder → List Word)
    (h : ∀ f, (g f).length = 4) : (driveCell epoch sequence status (map.flatMap g)).length = 3 + 4 * map.length := by
  have slots : (map.flatMap g).length = 4 * map.length := by
    induction map with
    | nil => rfl
    | cons f map ih => simp only [List.flatMap_cons, List.length_append, h, ih, List.length_cons]; omega
  simp only [driveCell, withCrc, List.length_append, List.length_cons, slots, List.length_nil]
  omega

theorem length_slotWords (x : PerPhase Int) (control : Word) : (slotWords x control).length = 4 := rfl

/-- A DRIVE cell made ready goes to a free link, and waits, in place of any earlier one, for one that is not (R20). -/
theorem State.readyDrive_eq (s : State) (d : List Word) (n : BitVec 8) :
    s.readyDrive d n = { s with egress := { s.egress with
      lastSequence := n
      waiting := if s.egress.onLink = none then none else some d
      onLink := if s.egress.onLink = none then some (.drive d) else s.egress.onLink } } := by
  unfold State.readyDrive State.chooseNext
  by_cases h : s.egress.onLink = none
  · rw [State.nextEgress_free (by exact h), if_pos h, if_pos h]
    rfl
  · rw [State.nextEgress_busy (by exact h), if_neg h, if_neg h]

/-- Settles O25. -/
theorem selfTimedCellIsMadeReady : Obligations.SelfTimedCellIsMadeReady := by
  intro s h running
  refine ⟨s.selfTimedDrive (s.egress.lastSequence + 1), rfl, length_driveCell _ _ _ _ _ fun f => length_slotWords _ _, ?_⟩
  change Host.Outcome.next _ = _
  rw [State.ready_acts h, if_pos (Option.isSome_iff_ne_none.2 running), State.selfTimed, State.readyDrive_eq]
  rfl

/-- The Egress Port's choice on a free link (R20, R21). -/
theorem State.chooseNext_free {s : State} (h : s.egress.onLink = none) :
    s.chooseNext = { s with egress := { s.egress with
      waiting := none
      onLink := nextSent s.egress.waiting s.management.replies s.maps.epoch s.flags.attention } } := by
  unfold State.chooseNext
  rw [State.nextEgress_free h]

theorem State.chooseNext_busy {s : State} (h : s.egress.onLink ≠ none) : s.chooseNext = s := by
  unfold State.chooseNext
  rw [State.nextEgress_busy h]

/-- The buffer once its oldest reply has left: a held reply has joined its tail (R170). -/
theorem Management.replyLeaves_eq (m : Management) :
    m.replyLeaves = { m with
      replies := m.replies.tail ++ m.held.toList
      held := none
      engine :=
        match m.held with
        | some h => if h.answersReset then .executing else .idle
        | none => m.engine } := by
  unfold Management.replyLeaves
  cases h : m.held with
  | none => simp
  | some x => rfl

/-- A due management reset leaves the part out of reset with nothing due (R188). -/
theorem State.manageReset_acts (s : State) : s.manageReset.acts := by
  simp [State.acts, State.manageReset, State.manageValues, State.reset]

/-- Out of reset, every command but POWER_ON_RESET carries out what is due first (R187, assumption 4). -/
theorem exec_carryDue {s : State} (h : s.inReset = false) (out : s.carryDue.acts) {c : Instr} (hc : c ≠ .powerOnReset) :
    exec c s = exec c s.carryDue := by
  have ready : ∀ act : State → State, s.ready act = s.carryDue.ready act := fun act => by
    rw [State.ready_acts out]
    simp [State.ready, h]
  cases c
  case powerOnReset => exact absurd rfl hc
  case resetRelease straps =>
    change Host.Outcome.next (if s.inReset then _ else _) = Host.Outcome.next (if s.carryDue.inReset then _ else _)
    rw [h, out.1, State.carryDue_of_none out.2]
    rfl
  all_goals exact congrArg Host.Outcome.next (ready _)

/-- Settles O26. -/
theorem sentCellsFreeTheLinkAndLeaveTheBuffer : Obligations.SentCellsFreeTheLinkAndLeaveTheBuffer := by
  refine ⟨⟨fun s d h link => ?_, fun s x r rest h link replies plain => ?_, fun s x r rest h link replies reset held => ?_⟩,
    fun s out due => ?_⟩
  · change Host.Outcome.next _ = _
    rw [State.ready_acts h, State.driveSent, link]
    exact congrArg _ (State.chooseNext_free rfl)
  · change Host.Outcome.next _ = _
    have sends : s.management.sendsReset = false := by simp [Management.sendsReset, replies, plain]
    rw [State.ready_acts h, State.replySent, link]
    simp only [sends, Management.replyLeaves_eq, replies, Bool.false_eq_true, if_false]
    exact congrArg _ (State.chooseNext_free rfl)
  · change Host.Outcome.next _ = _
    have sends : s.management.sendsReset = true := by simp [Management.sendsReset, replies, reset]
    rw [State.ready_acts h, State.replySent, link]
    simp only [sends, Management.replyLeaves_eq, replies, held, if_true, List.tail_cons, Option.toList_none, List.append_nil]
    rw [← held]
    rfl
  · have carried : s.carryDue = s.manageReset := by rw [State.carryDue, due]
    have acts : s.carryDue.acts := carried ▸ s.manageReset_acts
    refine ⟨s.carryDue, ?_, acts.2, acts.1, fun c hc => exec_carryDue out acts hc⟩
    rw [exec_carryDue out acts (by decide)]
    exact congrArg _ (State.ready_acts acts id)

/-! ### Requests that change nothing, and SET_ECHO -/

/-- Settles O27. -/
theorem malformedEntriesAreAnsweredMalformed : Obligations.MalformedEntriesAreAnsweredMalformed := by
  intro s r h next malformed
  refine ⟨(s.take r).answer r .malformed [], ?_, s.answered_answer r .malformed []⟩
  change Host.Outcome.next _ = _
  simp only [State.ready_acts h, State.refuseMalformed, next, malformed, if_true]

/-- The Egress Port's choice leaves the cell timer, the last number and the echo setting (R20). -/
theorem State.chooseNext_egress (s : State) :
    s.chooseNext.egress
      = { s.egress with waiting := s.chooseNext.egress.waiting, onLink := s.chooseNext.egress.onLink } :=
  s.nextEgress_frame

/-- An answer leaves the cell timer, the last number and the echo setting (R170). -/
theorem State.answer_egress (s : State) (r : Request) (result : Result) (payload : List Word) :
    (s.answer r result payload).egress
      = { s.egress with
          waiting := (s.answer r result payload).egress.waiting, onLink := (s.answer r result payload).egress.onLink } := by
  unfold State.answer State.buffer
  split
  · exact State.chooseNext_egress _
  · rfl

@[simp] theorem State.answer_echo (s : State) (r : Request) (result : Result) (payload : List Word) :
    (s.answer r result payload).egress.echo = s.egress.echo := by
  rw [State.answer_egress]

@[simp] theorem State.answer_cellTimer (s : State) (r : Request) (result : Result) (payload : List Word) :
    (s.answer r result payload).egress.cellTimer = s.egress.cellTimer := by
  rw [State.answer_egress]

@[simp] theorem State.answer_lastSequence (s : State) (r : Request) (result : Result) (payload : List Word) :
    (s.answer r result payload).egress.lastSequence = s.egress.lastSequence := by
  rw [State.answer_egress]

/-- Echo mode is barred exactly where some feeder is CHECKING, INJECTING or RELEASING (R23). -/
theorem State.echoBarred_iff (s : State) :
    s.echoBarred = true ↔ ∃ f, (s.engines.get f).state ∈ [FeederState.checking, .injecting, .releasing] := by
  have one : ∀ x : FeederState, (x.driving || decide (x = .checking)) = decide (x ∈ [FeederState.checking, .injecting, .releasing]) :=
    fun x => by cases x <;> rfl
  simp only [State.echoBarred, one, List.any_eq_true, Feeder.mem_all, true_and, decide_eq_true_eq]

/-- A SET_ECHO that is refused changes nothing but its answering (R23). -/
theorem State.answered_setEcho_refused {s : State} (r : Request) {on : Bool} (h : (on && s.echoBarred) = true) :
    answered s ((s.take r).setEcho r on) r .refusedState [] := by
  have barred : (on && (s.take r).echoBarred) = true := h
  rw [State.setEcho, if_pos barred]
  exact s.answered_answer r .refusedState []

/-- A SET_ECHO that is carried out makes its setting and is answered DONE (R23). -/
theorem State.answered_setEcho_done {s : State} (r : Request) {on : Bool} (h : (on && s.echoBarred) = false) :
    answered { s with egress := { s.egress with echo := on } } ((s.take r).setEcho r on) r .done [] := by
  have free : (on && (s.take r).echoBarred) = false := h
  rw [State.setEcho, free, if_neg Bool.false_ne_true]
  exact State.answered_answer { s with egress := { s.egress with echo := on } } r .done []

/-- The echo setting after a SET_ECHO's test and change (R23). -/
theorem State.setEcho_echo (s : State) (r : Request) (on : Bool) :
    (s.setEcho r on).egress.echo = if on && s.echoBarred then s.egress.echo else on := by
  unfold State.setEcho
  split <;> simp

/-- A SET_ECHO between two cells' work is carried out at once (R23). -/
theorem State.echoRequest_between {s : State} {r : Request} (between : ∀ w, s.work = some w → w.stage = .accepted)
    (small : (r.word 0).toNat ≤ 1) :
    (s.take r).echoRequest r = (s.take r).setEcho r (decide ((r.word 0).toNat = 1)) := by
  have free : (s.take r).betweenCells = true := (s.take r).betweenCells_iff.2 between
  rw [State.echoRequest, if_pos small, if_pos free]

/-- A SET_ECHO inside a cell's own work waits for its end (R23). -/
theorem State.echoRequest_working {s : State} {r : Request} (working : ∃ w, s.work = some w ∧ w.stage ≠ .accepted)
    (small : (r.word 0).toNat ≤ 1) :
    (s.take r).echoRequest r = { s.take r with management := { (s.take r).management with
      carriedOut := true, echoWaits := some (decide ((r.word 0).toNat = 1)) } } := by
  have busy : ¬ (s.take r).betweenCells = true := by
    rw [State.betweenCells_iff]
    obtain ⟨w, hw, stage⟩ := working
    exact fun h => stage (h w hw)
  rw [State.echoRequest, if_pos small, if_neg busy]

/-! ### What waits for the end of a cell's work -/

theorem State.ageCommit_of_ne {s : State} (h : s.management.engine ≠ .deferred) (zero : Bool) : s.ageCommit zero = s := by
  unfold State.ageCommit
  split
  · contradiction
  · rfl

theorem State.waitImage_of_ne {s : State} (h : s.loader.state ≠ .waiting) : s.waitImage = s := by
  simp [State.waitImage, h]

theorem State.settleEcho_of_none {s : State} (h : s.management.echoWaits = none) : s.settleEcho = s := by
  simp [State.settleEcho, h]

theorem State.settleEcho_of_some {s : State} {on : Bool} {r : Request} (h : s.management.echoWaits = some on)
    (hr : s.management.inFlight = some r) : s.settleEcho = s.setEcho r on := by
  simp [State.settleEcho, h, hr]

/-- What a commit in flight comes to at the end of a cell's work: it takes effect, expires, waits on, or there is none deferred
(R182 to R184). -/
theorem State.ageCommit_cases (s : State) (zero : Bool) :
    (∃ r, s.ageCommit zero = s.growOlder.takeCommit r) ∨ (∃ r, s.ageCommit zero = s.growOlder.expireCommit r)
      ∨ s.ageCommit zero = s.growOlder ∨ s.ageCommit zero = s := by
  unfold State.ageCommit
  split
  · rename_i r _ _
    unfold State.testCommit
    split
    · exact .inl ⟨r, rfl⟩
    · split
      · exact .inr (.inl ⟨r, rfl⟩)
      · exact .inr (.inr (.inl rfl))
  · exact .inr (.inr (.inr rfl))

/-- What an image that waits comes to at the end of a cell's work: it is committed, or nothing happens (R192). -/
theorem State.waitImage_cases (s : State) : s.waitImage = s.commitImage ∨ s.waitImage = s := by
  unfold State.waitImage
  split
  · exact .inl rfl
  · exact .inr rfl

/-- What a SET_ECHO that waits comes to at the end of a cell's work: it is settled, or there is none (R23). -/
theorem State.settleEcho_cases (s : State) : (∃ r on, s.settleEcho = s.setEcho r on) ∨ s.settleEcho = s := by
  unfold State.settleEcho
  split
  · exact .inl ⟨_, _, rfl⟩
  · exact .inr rfl

/-- What a QUIET entry's commit can do: a commit's effect or nothing. -/
theorem State.quietCommit_cases (s : State) : s.quietCommit = s ∨ ∃ r, s.quietCommit = s.takeCommit r := by
  unfold State.quietCommit
  split
  · rename_i r _ _
    split
    · exact .inr ⟨r, rfl⟩
    · exact .inl rfl
  · exact .inl rfl

theorem State.abandonChange_of_none {s : State} (h : s.maps.pending = none) (b : Bank) : s.abandonChange b = s := by
  simp [State.abandonChange, h]

@[simp] theorem State.sendDrive_echo (s : State) (before : PerFeeder Engine) (w : Work) :
    (s.sendDrive before w).egress.echo = s.egress.echo := by
  simp [State.sendDrive, State.readyDrive_eq]

/-- With no commit deferred, no image waiting and no change pending, the last stage settles a waiting SET_ECHO on the feeders as
the work left them (R23). -/
theorem State.finishCell_echo {s : State} (w : Work) {on : Bool} {r : Request} (engine : s.management.engine ≠ .deferred)
    (echo : s.management.echoWaits = some on) (flight : s.management.inFlight = some r) (pending : s.maps.pending = none)
    (image : s.loader.state ≠ .waiting) :
    (s.finishCell w).egress.echo = if on && s.echoBarred then s.egress.echo else on := by
  have settled : ∀ u : State, u.management = s.management → u.loader = s.loader → u.engines = s.engines →
      u.egress.echo = s.egress.echo → ∀ zero, (u.endCell zero).egress.echo = if on && s.echoBarred then s.egress.echo else on := by
    intro u management loader engines setting zero
    have barred : u.echoBarred = s.echoBarred := by
      rw [Bool.eq_iff_iff, State.echoBarred_iff, State.echoBarred_iff, engines]
    rw [State.endCell, State.ageCommit_of_ne (by rwa [management]), State.waitImage_of_ne (by rwa [loader]),
      State.settleEcho_of_some (by rwa [management]) (by rwa [management]), State.setEcho_echo, setting, barred]
  refine settled _ ?_ ?_ ?_ ?_ _ <;> simp [State.abandonChange_of_none, pending]

/-- Settles O45. -/
theorem setEchoWaitsForTheCell : Obligations.SetEchoWaitsForTheCell := by
  refine ⟨fun s r h req => ⟨(s.take r).echoRequest r, ?_, fun large => ?_, fun between off => ?_, fun between on free => ?_,
    fun between on busy => ?_, fun working small => ?_⟩, fun s w r on ⟨_, hw, stage⟩ engine echo flight pending image => ?_⟩
  · change Host.Outcome.next _ = _
    rw [State.ready_acts h, State.request_requests req]
  · have : ¬ (r.word 0).toNat ≤ 1 := by simpa [Request.word] using large
    rw [State.echoRequest, if_neg this]
    exact s.answered_answer r .malformed []
  · rw [State.echoRequest_between between (by simpa [Request.word] using off.le.trans zero_le_one)]
    have : (r.word 0).toNat = 0 := off
    rw [this]
    exact State.answered_setEcho_done r rfl
  · have one : (r.word 0).toNat = 1 := on
    rw [State.echoRequest_between between one.le, one]
    refine State.answered_setEcho_done r ?_
    simpa [← Bool.not_eq_true, State.echoBarred_iff] using free
  · have one : (r.word 0).toNat = 1 := on
    rw [State.echoRequest_between between one.le, one]
    exact State.answered_setEcho_refused r (by simpa [State.echoBarred_iff] using busy)
  · rw [State.echoRequest_working working small]
    exact ⟨rfl, rfl⟩
  · rw [State.finishWork_engined hw stage,
      State.finishCell_echo w (by rw [engine]; decide) echo flight pending image]
    refine ⟨fun turned busy => ?_, fun free => ?_⟩
    · rw [turned, (s.echoBarred_iff).2 busy]; rfl
    · rcases free with rfl | free
      · rfl
      · have : s.echoBarred = false := by
          rw [← Bool.not_eq_true, State.echoBarred_iff]
          exact fun ⟨f, hf⟩ => free f hf
        simp [this]

end Sys2Proof.Machine
end

section
/-! The bounds of the queues and the counters, the flag that does not exist, and the memory's form: what every operation keeps of
them, and that every step does (R15, R17, R150, R163, R170). -/
open Sys2Proof Sys2Proof.Machine
namespace Sys2Proof.Machine

/-! ### The bounds, block by block -/

/-- At most 8 requests wait, and no counter is past 65,535 (R15, R17). -/
def Ingress.bounded (x : Ingress) : Prop := x.queue.length ≤ 8 ∧ ∀ k, x.counters.get k ≤ 65535

/-- Index 31 names no flag (R150). -/
def FlagUnit.sound (u : FlagUnit) : Prop := u.latched.getLsbD 31 = false ∧ u.reported.getLsbD 31 = false

/-- The bounds of every block together, one field for each block that has one. -/
structure Bounded (s : State) : Prop where
  ingress : s.ingress.bounded
  replies : s.management.replies.length ≤ 2
  records : s.recorder.queue.length ≤ 16
  flags : s.flags.sound
  memory : s.memory.wf = true

theorem bounded_iff (s : State) : Bounded s ↔ queuesBounded s ∧ flagsSound s ∧ memoryCanonical s :=
  ⟨fun h => ⟨⟨h.ingress.1, h.replies, h.records, h.ingress.2⟩, h.flags, h.memory⟩,
    fun ⟨⟨queue, replies, records, counters⟩, flags, memory⟩ => ⟨⟨queue, counters⟩, replies, records, flags, memory⟩⟩

/-! ### The Flag Unit -/

theorem FlagUnit.sound.latchIndex {u : FlagUnit} (h : u.sound) {i : Nat} (hi : i < 31) : (u.latchIndex i).sound := by
  refine ⟨?_, h.2⟩
  have bit : (flagBit i).getLsbD 31 = false := by interval_cases i <;> decide
  simpa only [FlagUnit.latchIndex, BitVec.getLsbD_or, bit, Bool.or_false] using h.1

theorem DeviceFlag.index_lt (k : DeviceFlag) : k.index < 31 := by cases k <;> decide

theorem FeederFlag.index_lt (k : FeederFlag) (f : Feeder) : k.index f < 31 := by cases k <;> cases f <;> decide

theorem FlagUnit.sound.latch {u : FlagUnit} (h : u.sound) (k : DeviceFlag) : (u.latch k).sound := h.latchIndex k.index_lt

theorem FlagUnit.sound.latchFeeder {u : FlagUnit} (h : u.sound) (k : FeederFlag) (f : Feeder) : (u.latchFeeder k f).sound :=
  h.latchIndex (k.index_lt f)

theorem FlagUnit.sound.latchIf {u : FlagUnit} (h : u.sound) (condition : Bool) (k : DeviceFlag) :
    (u.latchIf condition k).sound := by
  unfold FlagUnit.latchIf
  split
  · exact h.latch k
  · exact h

theorem FlagUnit.sound.latchFeeders {u : FlagUnit} (h : u.sound) (k : FeederFlag) (on : PerFeeder Bool) :
    (u.latchFeeders k on).sound := by
  refine List.foldlRecOn _ _ h fun v hv f _ => ?_
  split
  · exact hv.latchFeeder k f
  · exact hv

theorem FlagUnit.sound.raiseChanges {u : FlagUnit} (h : u.sound) (before after : PerFeeder Engine) :
    (u.raiseChanges before after).sound := by
  refine List.foldlRecOn _ _ h fun v hv f _ => ?_
  split
  · exact hv
  · exact hv.latch .feederChange

theorem FlagUnit.sound.heatEntries {u : FlagUnit} (h : u.sound) (before after : StoreAccount) :
    (u.heatEntries before after).sound :=
  (h.latchIf _ _).latchFeeders _ _

/-- Unlatching latches nothing. -/
theorem FlagUnit.sound.unlatch {u : FlagUnit} (h : u.sound) (kept : BitVec 32) (changed : PerFeeder Bool) :
    FlagUnit.sound { u with latched := u.latched &&& kept, changed := changed } :=
  ⟨by simp only [BitVec.getLsbD_and, h.1, Bool.false_and], h.2⟩

theorem FlagUnit.sound.report {u : FlagUnit} (h : u.sound) (named : BitVec 32) : (u.report named).sound := by
  refine ⟨h.1, ?_⟩
  have bit : allFlags.getLsbD 31 = false := by decide
  simp only [FlagUnit.report, BitVec.getLsbD_and, bit, Bool.and_false]

theorem FlagUnit.sound_reset {reported : BitVec 32} (h : reported.getLsbD 31 = false) :
    FlagUnit.sound { FlagUnit.reset with reported := reported } :=
  ⟨show (0 : BitVec 32).getLsbD 31 = false by decide, h⟩

/-! ### The queues and the counters -/

theorem Ingress.bounded_reset : Ingress.reset.bounded := ⟨Nat.zero_le _, fun k => by cases k <;> decide⟩

theorem Counters.bounded_advance {c : Counters} (h : ∀ k, c.get k ≤ 65535) (j : LinkCounter) (n : Nat) :
    ∀ k, (c.advance j n).get k ≤ 65535 := by
  intro k
  rw [Counters.advance, Counters.get_set]
  split
  · exact min_le_left _ _
  · exact h k

theorem Counters.bounded_acceptance {c : Counters} (h : ∀ k, c.get k ≤ 65535) (missing : Nat) (breaks : Bool) (w : Word) :
    ∀ k, (acceptanceCounters c missing breaks w).get k ≤ 65535 := by
  have counted := Counters.bounded_advance h .missingCells missing
  have broken : ∀ k, (if breaks then (c.advance .missingCells missing).advance .sequenceBreaks 1
      else c.advance .missingCells missing).get k ≤ 65535 := by
    split
    · exact Counters.bounded_advance counted _ _
    · exact counted
  unfold acceptanceCounters
  dsimp only
  split
  · exact Counters.bounded_advance broken _ _
  · exact broken

theorem Recorder.length_join_le (r : Recorder) (x : EventRecord) : (r.join x).queue.length ≤ 16 := by
  simp only [Recorder.join, List.length_append, List.length_drop, List.length_singleton, Config.recordQueueSize]
  omega

namespace Bounded

variable {s : State}

/-- A state whose bounded blocks are those of another has its bounds. -/
theorem congr {t : State} (h : Bounded s) (ingress : t.ingress = s.ingress)
    (replies : t.management.replies = s.management.replies) (recorder : t.recorder = s.recorder) (flags : t.flags = s.flags)
    (memory : t.memory = s.memory) : Bounded t :=
  ⟨ingress ▸ h.ingress, replies ▸ h.replies, recorder ▸ h.records, flags ▸ h.flags, memory ▸ h.memory⟩

/-! ### Replies and requests -/

theorem chooseNext (h : Bounded s) : Bounded s.chooseNext := h.congr rfl rfl rfl rfl rfl

theorem readyDrive (h : Bounded s) (d : List Word) (n : BitVec 8) : Bounded (s.readyDrive d n) := h.congr rfl rfl rfl rfl rfl

theorem buffer (h : Bounded s) (r : Reply) : Bounded (s.buffer r) := by
  unfold State.buffer
  split
  next room =>
    have few : s.management.replies.length < 2 := by simpa [Management.hasRoom, Config.replyBufferSize] using room
    exact ⟨h.ingress, by simpa [Management.join] using few, h.records, h.flags, h.memory⟩
  next => exact h.congr rfl rfl rfl rfl rfl

theorem answer (h : Bounded s) (r : Request) (result : Result) (payload : List Word) : Bounded (s.answer r result payload) :=
  h.buffer _

theorem take (h : Bounded s) (r : Request) : Bounded (s.take r) := by
  refine ⟨⟨?_, h.ingress.2⟩, h.replies, h.records, h.flags, h.memory⟩
  change (if s.management.engine = .idle then s.ingress.queue.tail else s.ingress.queue).length ≤ 8
  split
  · rw [List.length_tail]
    exact (Nat.sub_le _ _).trans h.ingress.1
  · exact h.ingress.1

theorem request (h : Bounded s) (c : Command) {act : Request → State → State} (hact : ∀ r u, Bounded u → Bounded (act r u)) :
    Bounded (s.request c act) := by
  unfold State.request
  split
  · exact h
  · split
    · exact hact _ _ (h.take _)
    · exact h

theorem replyLeaves (m : Management) (h : m.replies.length ≤ 2) : m.replyLeaves.replies.length ≤ 2 := by
  rw [Management.replyLeaves_eq]
  have held : m.held.toList.length ≤ 1 := by cases m.held <;> simp
  simp only [List.length_append, List.length_tail]
  omega

theorem count (h : Bounded s) (k : LinkCounter) (n : Nat) : Bounded (s.count k n) :=
  ⟨⟨h.ingress.1, Counters.bounded_advance h.ingress.2 k n⟩, h.replies, h.records, h.flags, h.memory⟩

theorem latch (h : Bounded s) (k : DeviceFlag) : Bounded (s.latch k) :=
  ⟨h.ingress, h.replies, h.records, h.flags.latch k, h.memory⟩

/-! ### Feeders, banks and records -/

theorem moveEngines (h : Bounded s) (after : PerFeeder Engine) : Bounded (s.moveEngines after) := h.congr rfl rfl rfl rfl rfl

theorem moveEnginesRaising (h : Bounded s) (after : PerFeeder Engine) : Bounded (s.moveEnginesRaising after) :=
  ⟨h.ingress, h.replies, h.records, h.flags.raiseChanges _ _, h.memory⟩

theorem restartChecks (h : Bounded s) : Bounded s.restartChecks := h.congr rfl rfl rfl rfl rfl

theorem commitBank (h : Bounded s) : Bounded s.commitBank := h.congr rfl rfl rfl rfl rfl

theorem autoEnlist (h : Bounded s) : Bounded s.autoEnlist := by
  unfold State.autoEnlist
  split
  · exact h
  · exact moveEnginesRaising (s := s.announce _ _) (h.congr rfl rfl rfl rfl rfl) _

theorem commitImage (h : Bounded s) : Bounded s.commitImage := autoEnlist (h.congr rfl rfl rfl rfl rfl)

theorem closeRecord (h : Bounded s) (b : Bank) (cause : EndCause) : Bounded (s.closeRecord b cause) := by
  unfold State.closeRecord
  split
  · exact h
  · exact ⟨h.ingress, h.replies, Recorder.length_join_le _ _, h.flags.latchIf _ _, h.memory⟩

/-! ### Resets and what is due -/

theorem powerOn (h : Bounded s) : Bounded s.powerOn :=
  ⟨Ingress.bounded_reset, Nat.zero_le _, Nat.zero_le _, FlagUnit.sound_reset (by decide), h.memory⟩

theorem manageReset (h : Bounded s) : Bounded s.manageReset :=
  autoEnlist (s := s.manageValues)
    ⟨Ingress.bounded_reset, Nat.zero_le _, h.records, FlagUnit.sound_reset h.flags.2, h.memory⟩

theorem carryDue (h : Bounded s) : Bounded s.carryDue := by
  unfold State.carryDue
  split
  · exact h
  · exact h.manageReset
  · exact h.commitImage

theorem ready (h : Bounded s) {act : State → State} (hact : ∀ u, Bounded u → Bounded (act u)) : Bounded (s.ready act) := by
  unfold State.ready
  split
  · exact h
  · exact hact _ h.carryDue

/-! ### The work of a cell -/

theorem takeCommit (h : Bounded s) (r : Request) : Bounded (s.takeCommit r) :=
  answer (s := s.commitBank.note _) (h.congr rfl rfl rfl rfl rfl) _ _ _

theorem expireCommit (h : Bounded s) (r : Request) : Bounded (s.expireCommit r) :=
  answer (s := s.note _) (h.congr rfl rfl rfl rfl rfl) _ _ _

theorem ageCommit (h : Bounded s) (zero : Bool) : Bounded (s.ageCommit zero) := by
  have older : Bounded s.growOlder := h.congr rfl rfl rfl rfl rfl
  rcases s.ageCommit_cases zero with ⟨r, e⟩ | ⟨r, e⟩ | e | e <;> rw [e]
  · exact older.takeCommit r
  · exact older.expireCommit r
  · exact older
  · exact h

theorem waitImage (h : Bounded s) : Bounded s.waitImage := by
  rcases s.waitImage_cases with e | e <;> rw [e]
  · exact h.commitImage
  · exact h

theorem setEcho (h : Bounded s) (r : Request) (on : Bool) : Bounded (s.setEcho r on) := by
  unfold State.setEcho
  split
  · exact h.answer _ _ _
  · exact answer (by exact h.congr rfl rfl rfl rfl rfl) _ _ _

theorem settleEcho (h : Bounded s) : Bounded s.settleEcho := by
  rcases s.settleEcho_cases with ⟨r, on, e⟩ | e <;> rw [e]
  · exact h.setEcho r on
  · exact h

theorem endCell (h : Bounded s) (zero : Bool) : Bounded (s.endCell zero) := (h.ageCommit zero).waitImage.settleEcho

theorem workMissing (h : Bounded s) (w : Work) : Bounded (s.workMissing w) :=
  endCell (s := (s.passMissing w).restartChecks) ⟨h.ingress, h.replies, h.records, h.flags, h.memory⟩ _

theorem switchEpoch (h : Bounded s) : Bounded s.switchEpoch := by
  unfold State.switchEpoch
  split
  · exact h
  · exact moveEnginesRaising (by exact h.congr rfl rfl rfl rfl rfl) _

theorem settleSwitch (h : Bounded s) : Bounded s.settleSwitch := by
  unfold State.settleSwitch
  split
  · exact h
  · split
    · exact switchEpoch (h.congr rfl rfl rfl rfl rfl)
    · exact h

theorem trackCell (h : Bounded s) (w : Work) : Bounded (s.trackCell w) := by
  refine ⟨h.ingress, h.replies, ?_, h.flags.heatEntries _ _, h.memory⟩
  change (s.recorderOpened w).queue.length ≤ 16
  unfold State.recorderOpened
  split
  · exact h.records
  · exact h.records

theorem engageCell (h : Bounded s) (w : Work) : Bounded (s.engageCell w) :=
  ⟨h.ingress, h.replies, h.records,
    (((h.flags.latchFeeders _ _).raiseChanges _ _).latchFeeders _ _).latchFeeders _ _, h.memory⟩

theorem verifyCell (h : Bounded s) (w : Work) : Bounded (s.verifyCell w) :=
  (h.moveEnginesRaising (s.enginesAccounted w)).congr rfl rfl rfl rfl rfl

theorem recordCell (h : Bounded s) (w : Work) : Bounded (s.recordCell w) := by
  have kept : Bounded s.keepLowest := ⟨h.ingress, h.replies, h.records, h.flags, h.memory⟩
  unfold State.recordCell
  split
  · exact kept.closeRecord _ _
  · exact kept

theorem abandonChange (h : Bounded s) (b : Bank) : Bounded (s.abandonChange b) := by
  unfold State.abandonChange
  split
  · have moved := h.moveEnginesRaising (s.engines.map Engine.abandon)
    exact ⟨moved.ingress, moved.replies, moved.records, moved.flags.latch _, moved.memory⟩
  · exact h

theorem lateRestart (h : Bounded s) (w : Work) : Bounded (s.lateRestart w) := by
  unfold State.lateRestart
  split
  · exact h.restartChecks
  · exact h

theorem finishCell (h : Bounded s) (w : Work) : Bounded (s.finishCell w) :=
  have sent := ((h.recordCell w).abandonChange w.bank).readyDrive
    (State.cellDrive _ { w with outputs := restoreCodes (s.recordCell w).engines _ w.outputs }) w.sense.sequence
  ((sent.lateRestart w).endCell w.zeroCrossing).congr rfl rfl rfl rfl rfl

theorem advance (h : Bounded s) : Bounded s.advance := by
  unfold State.advance
  split
  · exact h
  · split
    · split
      · exact h.trackCell _
      · exact (h.workMissing _).settleSwitch
    · exact h.engageCell _
    · exact h.verifyCell _
    · exact h.finishCell _

theorem advanceTo (p : WorkPoint) (n : Nat) (h : Bounded s) : Bounded (State.advanceTo p n s) := by
  induction n generalizing s with
  | zero => exact h
  | succ n ih =>
    unfold State.advanceTo
    split
    · exact h
    · split
      · exact h
      · exact ih h.advance

theorem workTo (h : Bounded s) (p : WorkPoint) : Bounded (s.workTo p) := by
  unfold State.workTo
  split
  · exact h
  · exact h.advanceTo p _

theorem finishWork (h : Bounded s) : Bounded s.finishWork := h.workTo _

theorem comesAbout (x : Occurrence) (h : Bounded s) : Bounded (State.comesAbout x s) := by
  unfold State.comesAbout
  split
  · exact finishWork (h.congr rfl rfl rfl rfl rfl)
  · exact h

theorem requestBetween (h : Bounded s) (c : Command) {act : Request → State → State}
    (hact : ∀ r u, Bounded u → Bounded (act r u)) : Bounded (s.requestBetween c act) := by
  have between : Bounded s.toBetween := by
    unfold State.toBetween
    split
    · exact h
    · exact h.finishWork
  unfold State.requestBetween
  split
  · exact h
  · split
    · exact hact _ _ (between.take _)
    · exact h

/-! ### Arriving cells -/

theorem offer (h : Bounded s) (r : Request) : Bounded (s.offer r) := by
  unfold State.offer
  split
  · exact h.take r
  · split
    next room =>
      have room : s.ingress.queue.length < 8 := room
      exact ⟨⟨by simpa using room, h.ingress.2⟩, h.replies, h.records, h.flags, h.memory⟩
    next => exact (h.count _ _).latch _

theorem breakMarks (h : Bounded s) (marked : Bool) : Bounded (s.breakMarks marked) := by
  unfold State.breakMarks
  split
  · exact h.congr rfl rfl rfl rfl rfl
  · exact h

theorem accept (h : Bounded s) (c : Sense) (missing : Nat) (breaks switches : Bool) :
    Bounded (s.accept c missing breaks switches) := by
  have marked := h.breakMarks (breaks || decide (s.ingress.link ≠ .up))
  exact settleSwitch (s := s.enterCell c missing breaks switches)
    ⟨⟨h.ingress.1, Counters.bounded_acceptance h.ingress.2 missing breaks c.housekeeping⟩, marked.replies, marked.records,
      h.flags.latchIf _ _, marked.memory⟩

theorem checkSequence (h : Bounded s) (c : Sense) (switches : Bool) : Bounded (s.checkSequence c switches) := by
  unfold State.checkSequence
  split
  · exact h.accept _ _ _ _
  · exact h.count _ _
  · exact h.accept _ _ _ _

theorem arrive (h : Bounded s) (words : List Word) : Bounded (s.arrive words) := by
  have shape : Bounded s.shapeError := (h.count _ _).latch _
  have sense : Bounded (s.arriveSense words) := by
    unfold State.arriveSense
    dsimp only
    split
    · exact (h.count _ _).latch _
    · split
      · exact h.checkSequence _ _
      · exact shape
  have manage : Bounded (s.arriveManage words) := by
    unfold State.arriveManage
    split
    · exact h.offer _
    · exact shape
  unfold State.arrive
  split
  · split
    · split
      · exact sense
      · split
        · exact manage
        · exact shape
    · exact (h.count _ _).latch _
  · exact shape

/-! ### The commands of the links -/

theorem quietCommit (h : Bounded s) : Bounded s.quietCommit := by
  rcases s.quietCommit_cases with e | ⟨r, e⟩ <;> rw [e]
  · exact h
  · exact h.takeCommit r

theorem quietEntry (h : Bounded s) : Bounded s.quietEntry := by
  have lost : Bounded s.loseLink := ⟨h.ingress, h.replies, h.records, h.flags.latch _, h.memory⟩
  have closed := (lost.moveEnginesRaising (s.loseLink.engines.map Engine.quietEntry)).closeRecord s.tables.active .linkLost
  exact quietCommit (closed.congr rfl rfl rfl rfl rfl)

theorem driveSent (h : Bounded s) : Bounded s.driveSent := by
  unfold State.driveSent
  split
  · exact h.congr rfl rfl rfl rfl rfl
  · exact h
  · exact h

theorem replySent (h : Bounded s) : Bounded s.replySent := by
  have left := replyLeaves s.management h.replies
  unfold State.replySent
  split
  · split
    · exact ⟨h.ingress, left, h.records, h.flags, h.memory⟩
    · exact ⟨h.ingress, left, h.records, h.flags, h.memory⟩
  · exact h
  · exact h

/-! ### The requests -/

theorem refuseMalformed (h : Bounded s) : Bounded s.refuseMalformed := by
  unfold State.refuseMalformed
  split
  · exact h
  · split
    · exact (h.take _).answer _ _ _
    · exact h

theorem enquire (r : Request) (h : Bounded s) : Bounded (s.enquire r) :=
  answer (s := { s with flags := s.flags.clearChange }) ⟨h.ingress, h.replies, h.records, h.flags.unlatch _ _, h.memory⟩ _ _ _

theorem writeCounter (r : Request) (h : Bounded s) : Bounded (s.writeCounter r) := by
  unfold State.writeCounter
  split
  next => exact h.answer _ _ _
  next k _ =>
    have written : ∀ j, (s.ingress.counters.set k (r.word 1).toNat).get j ≤ 65535 := fun j => by
      rw [Counters.get_set]
      split
      · exact Nat.le_of_lt_succ (r.word 1).isLt
      · exact h.ingress.2 j
    exact answer (by exact ⟨⟨h.ingress.1, written⟩, h.replies, h.records, h.flags, h.memory⟩) _ _ _

theorem clearFlags (r : Request) (h : Bounded s) : Bounded (s.clearFlags r) :=
  answer (s := (s.unlatch _).lockoutExit) ⟨h.ingress, h.replies, h.records, h.flags.unlatch _ _, h.memory⟩ _ _ _

theorem setReport (r : Request) (named : BitVec 32) (h : Bounded s) :
    Bounded (State.answer { s with flags := s.flags.report named } r .done []) :=
  answer (s := { s with flags := s.flags.report named }) ⟨h.ingress, h.replies, h.records, h.flags.report named, h.memory⟩ _ _ _

theorem readEvent (r : Request) (h : Bounded s) : Bounded (s.readEvent r) := by
  unfold State.readEvent
  split
  · exact h.answer _ _ _
  · exact h.answer _ _ _

theorem releaseEvent (r : Request) (h : Bounded s) : Bounded (s.releaseEvent r) := by
  have dropped : Bounded s.dropOldest :=
    ⟨h.ingress, h.replies, by simpa [State.dropOldest] using Nat.le_succ_of_le h.records, h.flags, h.memory⟩
  unfold State.releaseEvent
  split
  · exact dropped.answer _ _ _
  · exact h.answer _ _ _

theorem echoRequest (r : Request) (h : Bounded s) : Bounded (s.echoRequest r) := by
  unfold State.echoRequest
  split
  · split
    · exact h.setEcho _ _
    · exact h.congr rfl rfl rfl rfl rfl
  · exact h.answer _ _ _

theorem settleWrite (r : Request) (w : Written) (h : Bounded s) : Bounded (s.settleWrite r w) := by
  cases w with
  | refused result => exact h.answer _ _ _
  | stored bank result payload => exact answer (by exact h.congr rfl rfl rfl rfl rfl) r result payload

theorem discardShadow (r : Request) (h : Bounded s) :
    Bounded (State.answer { s with tables := { s.tables with shadow := s.tables.active } } r .done []) :=
  answer (by exact h.congr rfl rfl rfl rfl rfl) r _ _

theorem readSetting (r : Request) (h : Bounded s) : Bounded (s.readSetting r) := by
  unfold State.readSetting
  split
  · exact h.answer _ _ _
  · split
    · exact h.answer _ _ _
    · exact h.answer _ _ _

theorem commitNow (r : Request) (h : Bounded s) : Bounded (s.commitNow r) := by
  unfold State.commitNow
  split
  · exact h.answer _ _ _
  · split
    · exact takeCommit (by exact h.congr rfl rfl rfl rfl rfl) _
    · exact h.congr rfl rfl rfl rfl rfl

theorem commitSync (r : Request) (h : Bounded s) : Bounded (s.commitSync r) := by
  unfold State.commitSync
  split
  · exact h.answer _ _ _
  · exact h.congr rfl rfl rfl rfl rfl

theorem forFeeder (r : Request) {act : Feeder → State} (h : Bounded s) (hact : ∀ f, Bounded (act f)) :
    Bounded (s.forFeeder r act) := by
  unfold State.forFeeder
  split
  · exact hact _
  · exact h.answer _ _ _

theorem acceptChange (r : Request) (map : List Feeder) (after : PerFeeder Engine) (h : Bounded s) :
    Bounded (s.acceptChange r map after) :=
  answer (s := (s.announce _ _).moveEngines after) (h.congr rfl rfl rfl rfl rfl) _ _ _

theorem enlist (r : Request) (f : Feeder) (h : Bounded s) : Bounded (s.enlist r f) := by
  unfold State.enlist
  split
  · split
    · split
      · exact h.acceptChange _ _ _
      · exact h.answer _ _ _
    · exact h.answer _ _ _
  · exact h.answer _ _ _

theorem retire (r : Request) (f : Feeder) (h : Bounded s) : Bounded (s.retire r f) := by
  unfold State.retire
  split
  · exact h.answer _ _ _
  · split
    · split
      · exact h.acceptChange _ _ _
      · exact h.answer _ _ _
    · exact h.answer _ _ _

theorem forceBypass (r : Request) (f : Feeder) (h : Bounded s) : Bounded (s.forceBypass r f) := by
  have locked : Bounded ((s.lockFeeder f).setOperator f) :=
    ⟨h.ingress, h.replies, h.records, h.flags.latchFeeder _ _, h.memory⟩
  have marked : Bounded (s.setOperator f) := ⟨h.ingress, h.replies, h.records, h.flags.latchFeeder _ _, h.memory⟩
  unfold State.forceBypass
  split
  · exact locked.answer _ _ _
  · split
    · exact marked.answer _ _ _
    · exact h.answer _ _ _

/-! ### Saving and loading -/

theorem saveImage (h : Bounded s) : Bounded s.saveImage := h.congr rfl rfl rfl rfl rfl

theorem endSave (result : Result) (h : Bounded s) : Bounded (s.endSave result) := by
  have stopped : Bounded s.stopWriting := h.congr rfl rfl rfl rfl rfl
  unfold State.endSave
  split
  · exact stopped.answer _ _ _
  · exact stopped

theorem pageWritten (h : Bounded s) : Bounded s.pageWritten := by
  have stored : ∀ x rest, Bounded (s.storePage x rest) := fun x rest =>
    ⟨h.ingress, h.replies, h.records, h.flags, Memory.wf_writeFrom h.memory x.address x.bytes⟩
  unfold State.pageWritten
  split
  · exact h
  · split
    · exact (stored _ _).endSave _
    · exact stored _ _

theorem failLoad (outcome : LoadOutcome) (h : Bounded s) : Bounded (s.failLoad outcome) :=
  autoEnlist ⟨h.ingress, h.replies, h.records, h.flags.latch .imageFault, h.memory⟩

theorem loadImage (h : Bounded s) : Bounded s.loadImage := by
  unfold State.loadImage
  split
  · exact h.failLoad _
  · split
    · exact h.congr rfl rfl rfl rfl rfl
    · exact h.failLoad _

theorem readEnds (a : MemoryAnswer) (h : Bounded s) : Bounded (s.readEnds a) := by
  cases a with
  | silent => exact h.failLoad _
  | stored => exact h.loadImage
  | replaced bytes => exact loadImage ⟨h.ingress, h.replies, h.records, h.flags, Memory.wf_ofBytes bytes⟩

/-! ### Every command and every step -/

theorem ite {c : Prop} [Decidable c] {t : State} (hs : Bounded s) (ht : Bounded t) : Bounded (if c then s else t) := by
  split
  · exact hs
  · exact ht

theorem next {t : State} (h : Bounded s) (e : (Host.Outcome.next s : Host.Outcome State Fault Refusal) = .next t) : Bounded t :=
  Host.Outcome.next.inj e ▸ h

/-- The step of a request keeps the bounds where its act does. -/
theorem readyRequest (h : Bounded s) (c : Command) {act : Request → State → State}
    (hact : ∀ r u, Bounded u → Bounded (act r u)) : Bounded (s.ready fun u => u.request c act) :=
  h.ready fun _ hu => hu.request c hact

theorem exec {c : Instr} {t : State} (h : Bounded s) (e : exec c s = .next t) : Bounded t := by
  cases c
  case cellArrival words p => exact (h.ready fun u hu => (hu.finishWork.arrive words).workTo p).next e
  case acquireEnd => exact (h.ready fun _ => comesAbout _).next e
  case confirmation => exact (h.ready fun _ => comesAbout _).next e
  case classificationPoint => exact (h.ready fun _ => comesAbout _).next e
  case eventEnd => exact (h.ready fun _ => comesAbout _).next e
  case burstTimerExpiry => exact (h.ready fun _ => comesAbout _).next e
  case releaseEnd => exact (h.ready fun _ => comesAbout _).next e
  case pathCheckVerdict => exact (h.ready fun _ => comesAbout _).next e
  case verifyFailure => exact (h.ready fun _ => comesAbout _).next e
  case mapChangeAbandon => exact (h.ready fun _ => comesAbout _).next e
  case commitTakesEffect => exact (h.ready fun _ => comesAbout _).next e
  case commitExpired => exact (h.ready fun _ => comesAbout _).next e
  case imageCommit => exact (h.ready fun _ => comesAbout _).next e
  case quietTimerExpiry => exact (h.ready fun _ hu => hu.finishWork.quietEntry.ite hu).next e
  case selfTimedCell =>
    exact (h.ready fun u hu => (readyDrive (s := u.restartTimer) (hu.congr rfl rfl rfl rfl rfl) _ _).ite hu).next e
  case driveCellSent => exact (h.ready fun _ => driveSent).next e
  case replySent => exact (h.ready fun _ => replySent).next e
  case malformed => exact (h.ready fun _ => refuseMalformed).next e
  case enquire => exact (h.readyRequest _ fun r _ => enquire r).next e
  case readSetting => exact (h.readyRequest _ fun r _ => readSetting r).next e
  case writeSetting => exact (h.readyRequest _ fun r _ => settleWrite r _).next e
  case loadEnvelope => exact (h.readyRequest _ fun r _ => settleWrite r _).next e
  case loadResponse => exact (h.readyRequest _ fun r _ => settleWrite r _).next e
  case commitNow => exact (h.readyRequest _ fun r _ => commitNow r).next e
  case commitSync => exact (h.readyRequest _ fun r _ => commitSync r).next e
  case discardShadow => exact (h.readyRequest _ fun r _ => discardShadow r).next e
  case enlist => exact (h.ready fun _ hu => hu.requestBetween _ fun r _ hv => hv.forFeeder r fun f => hv.enlist r f).next e
  case retire => exact (h.ready fun _ hu => hu.requestBetween _ fun r _ hv => hv.forFeeder r fun f => hv.retire r f).next e
  case forceBypass => exact (h.readyRequest _ fun r _ hv => hv.forFeeder r fun f => hv.forceBypass r f).next e
  case clearFlags => exact (h.readyRequest _ fun r _ => clearFlags r).next e
  case setReport => exact (h.readyRequest _ fun r _ => setReport r _).next e
  case readCounters => exact (h.readyRequest _ fun r _ hu => hu.answer r _ _).next e
  case writeCounter => exact (h.readyRequest _ fun r _ => writeCounter r).next e
  case readEvent => exact (h.readyRequest _ fun r _ => readEvent r).next e
  case releaseEvent => exact (h.readyRequest _ fun r _ => releaseEvent r).next e
  case readLive => exact (h.readyRequest _ fun r _ hu => hu.answer r _ _).next e
  case setEcho => exact (h.readyRequest _ fun r _ => echoRequest r).next e
  case saveImage => exact (h.readyRequest _ fun _ _ => saveImage).next e
  case savePageAck => exact (h.ready fun _ hu => hu.pageWritten.ite hu).next e
  case savePollTimeout => exact (h.ready fun _ hu => (hu.endSave _).ite hu).next e
  case deviceReset => exact (h.readyRequest _ fun _ _ hu => hu.buffer _).next e
  case managementReset => exact (h.ready fun _ hu => hu).next e
  case powerOnReset => exact h.powerOn.next e
  case resetRelease straps => exact (ite (s := s.release straps) (h.congr rfl rfl rfl rfl rfl) h.carryDue).next e
  case imageReadComplete a => exact (h.ready fun _ hu => (hu.readEnds a).ite hu).next e

theorem step {t : State} (h : Bounded s) (e : step s = .next t) : Bounded t := by
  cases hp : s.pending with
  | nil => exact (h.ready fun _ => finishWork).next (step_of_nil hp ▸ e)
  | cons c rest => exact exec (s := { s with pending := rest }) (h.congr rfl rfl rfl rfl rfl) (step_of_cons hp ▸ e)

end Bounded

/-- Settles O57: every operation keeps the bounds of every block, so every step does. -/
theorem everyStepKeepsBoundsAndMemory : Obligations.EveryStepKeepsBoundsAndMemory := fun s t h e =>
  (bounded_iff t).1 (((bounded_iff s).2 h).step e)

end Sys2Proof.Machine
end

section
/-! A QUIET entry: what each block's part of it does, and what a deferred COMMIT NOW adds (R13, R14, R57, R94, R161, R182). -/
open Sys2Proof Sys2Proof.Machine
namespace Sys2Proof.Machine

/-! ### Flags latched -/

theorem flagBit_getLsbD {i j : Nat} (hi : i < 32) : (flagBit i).getLsbD j = decide (j = i) := by
  rw [flagBit, BitVec.getLsbD_shiftLeft]
  by_cases h : j = i
  · subst h; simp [hi]
  · by_cases lt : j < i
    · simp [h, lt]
    · have : j - i ≠ 0 := by omega
      simp [h, this]

theorem FlagUnit.latchIndex_getLsbD (u : FlagUnit) {i : Nat} (hi : i < 32) (j : Nat) :
    (u.latchIndex i).latched.getLsbD j = (u.latched.getLsbD j || decide (j = i)) := by
  rw [FlagUnit.latchIndex, BitVec.getLsbD_or, flagBit_getLsbD hi]

theorem FlagUnit.latch_getLsbD (u : FlagUnit) (k : DeviceFlag) (j : Nat) :
    (u.latch k).latched.getLsbD j = (u.latched.getLsbD j || decide (j = k.index)) :=
  u.latchIndex_getLsbD (by cases k <;> decide) j

theorem FlagUnit.latchIf_getLsbD (u : FlagUnit) (condition : Bool) (k : DeviceFlag) (j : Nat) :
    (u.latchIf condition k).latched.getLsbD j = (u.latched.getLsbD j || (condition && decide (j = k.index))) := by
  cases condition with
  | false => simp [FlagUnit.latchIf]
  | true => simpa [FlagUnit.latchIf] using u.latch_getLsbD k j

theorem FlagUnit.latchIf_changed (u : FlagUnit) (condition : Bool) (k : DeviceFlag) : (u.latchIf condition k).changed = u.changed := by
  cases condition <;> rfl

/-! ### Feeders, the record and the commit at a QUIET entry -/

/-- A feeder that is INJECTING or RELEASING goes to STANDBY with the link-lost mark (R94). -/
theorem Engine.quietEntry_of_driving {e : Engine} (h : e.state.driving = true) :
    e.quietEntry = { e with state := .standby, gain := 0, cause := none, marks := { e.marks with linkLost := true } } := by
  rw [Engine.quietEntry, if_pos h]
  rfl

theorem Engine.quietEntry_of_idle {e : Engine} (h : e.state.driving = false) : e.quietEntry = e := by
  rw [Engine.quietEntry, h, if_neg Bool.false_ne_true]

theorem FeederState.driving_iff (x : FeederState) : x.driving = true ↔ x = .injecting ∨ x = .releasing := by
  cases x <;> decide

/-- The flags after the open record, if there is one, is closed (R163). -/
theorem State.closeRecord_flags (s : State) (b : Bank) (cause : EndCause) :
    (s.closeRecord b cause).flags = s.flags.latchIf (s.eventOpen && s.recorder.discards) .eventDiscard := by
  unfold State.closeRecord State.eventOpen
  cases s.recorder.openRecord <;> rfl

theorem State.closeRecord_of_none {s : State} (h : s.recorder.openRecord = none) (b : Bank) (cause : EndCause) :
    s.closeRecord b cause = s := by
  simp [State.closeRecord, h]

theorem State.closeRecord_recorder {s : State} {o : OpenRecord} (h : s.recorder.openRecord = some o) (b : Bank)
    (cause : EndCause) : (s.closeRecord b cause).recorder
      = s.recorder.join (o.gather b s.monitor.worst s.engines s.ingress.cellTime cause) := by
  simp [State.closeRecord, h]

/-- An answer leaves no request in flight (R169). -/
theorem State.answer_inFlight (s : State) (r : Request) (result : Result) (payload : List Word) :
    (s.answer r result payload).management.inFlight = none := by
  unfold State.answer State.buffer
  split <;> rfl

/-- An answer for which there is room joins the buffer's tail, and the engine is IDLE (R169, R170). -/
theorem State.answer_management_of_room {s : State} (h : s.management.replies.length < 2) (r : Request) (result : Result)
    (payload : List Word) :
    (s.answer r result payload).management.engine = .idle
      ∧ (s.answer r result payload).management.replies = s.management.replies ++ [r.reply result payload] := by
  have room : s.management.hasRoom = true := by simpa [Management.hasRoom, Config.replyBufferSize] using h
  rw [State.answer, State.buffer, if_pos room]
  exact ⟨rfl, rfl⟩

/-- A commit that takes effect makes the active bank a copy of the shadow bank (R185). -/
theorem State.takeCommit_tables (s : State) (r : Request) :
    (s.takeCommit r).tables = { active := s.tables.shadow, shadow := s.tables.shadow } := by
  rw [State.takeCommit, State.answer_tables]
  rfl

/-- A commit's effect on the monitor is the trimming of its windows (R44). -/
theorem State.sameMeasures_takeCommit (s : State) (r : Request) : sameMeasures s.monitor (s.takeCommit r).monitor := by
  rw [State.takeCommit, State.answer_monitor]
  rfl

theorem State.takeCommit_mismatches (s : State) (r : Request) :
    (s.takeCommit r).verifier.mismatches = s.verifier.mismatches := by
  rw [State.takeCommit, State.answer_verifier]
  rfl

theorem State.takeCommit_cellTimer (s : State) (r : Request) : (s.takeCommit r).egress.cellTimer = s.egress.cellTimer := by
  rw [State.takeCommit, State.answer_cellTimer]
  rfl

/-- A deferred COMMIT NOW takes effect at a QUIET entry (R182). -/
theorem State.quietCommit_takes {s : State} {r : Request} (engine : s.management.engine = .deferred)
    (flight : s.management.inFlight = some r) (now : r.command = some .commitNow) : s.quietCommit = s.takeCommit r := by
  simp [State.quietCommit, engine, flight, Request.commitsNow, now]

/-- No other commit takes effect at a QUIET entry (R182). -/
theorem State.quietCommit_waits {s : State}
    (h : s.management.engine ≠ .deferred ∨ ∃ r, s.management.inFlight = some r ∧ r.command ≠ some .commitNow) :
    s.quietCommit = s := by
  unfold State.quietCommit
  split
  · rename_i r engine flight
    obtain engine' | ⟨q, flight', other⟩ := h
    · contradiction
    · obtain rfl := Option.some.inj (flight.symm.trans flight')
      exact if_neg (by simpa [Request.commitsNow] using other)
  · rfl

/-- The part of a QUIET entry before a deferred COMMIT NOW takes effect. -/
def State.quietBlocks (s : State) : State :=
  (s.loseLink.quietFeeders.closeRecord s.tables.active .linkLost).quietMonitor

theorem State.quietEntry_eq (s : State) : s.quietEntry = s.quietBlocks.quietCommit := rfl

theorem State.quietBlocks_engines (s : State) : s.quietBlocks.engines = s.engines.map Engine.quietEntry := by
  simp [State.quietBlocks]
  rfl

theorem State.quietBlocks_flags (s : State) :
    s.quietBlocks.flags
      = ((s.flags.latch .linkQuiet).raiseChanges s.engines (s.engines.map Engine.quietEntry)).latchIf
          (s.eventOpen && s.recorder.discards) .eventDiscard := by
  simp [State.quietBlocks, State.closeRecord_flags]
  rfl

theorem State.quietBlocks_ingress (s : State) : s.quietBlocks.ingress = { s.ingress with link := .quiet, quietTimer := none } := by
  simp [State.quietBlocks]
  rfl

theorem State.quietBlocks_cellTimer (s : State) : s.quietBlocks.egress.cellTimer = some s.tables.active.cellPeriod := by
  simp [State.quietBlocks]
  rfl

theorem State.quietBlocks_monitor (s : State) : s.quietBlocks.monitor = s.monitor.quietEntry := by
  change Monitor.quietEntry _ = _
  simp

theorem State.quietBlocks_verifier (s : State) :
    s.quietBlocks.verifier = s.verifier.left s.engines (s.engines.map Engine.quietEntry) := by
  simp [State.quietBlocks]
  rfl

theorem State.quietBlocks_tables (s : State) : s.quietBlocks.tables = s.tables := by
  simp [State.quietBlocks]

theorem State.quietBlocks_tracker (s : State) : s.quietBlocks.tracker = s.tracker := by
  simp [State.quietBlocks]

theorem State.quietBlocks_management (s : State) : s.quietBlocks.management = s.management := by
  simp [State.quietBlocks]

theorem State.quietBlocks_recorder_of_none {s : State} (h : s.recorder.openRecord = none) :
    s.quietBlocks.recorder = s.recorder := by
  have closed : s.loseLink.quietFeeders.recorder.openRecord = none := by simpa using h
  simp [State.quietBlocks, State.closeRecord_of_none closed]

theorem State.quietBlocks_recorder {s : State} {o : OpenRecord} (h : s.recorder.openRecord = some o) :
    s.quietBlocks.recorder
      = s.recorder.join (o.gather s.tables.active s.monitor.worst s.quietBlocks.engines s.ingress.cellTime .linkLost) := by
  have opened : s.loseLink.quietFeeders.recorder.openRecord = some o := by simpa using h
  rw [State.quietBlocks_engines, State.quietBlocks, State.quietMonitor_recorder, State.closeRecord_recorder opened]
  rfl

/-- What a QUIET entry's commit leaves alone: every block but the banks, the tracker, the windows, the histories, the running
checks, the engine and the link (R182, R185). -/
theorem State.quietCommit_frame (s : State) :
    s.quietCommit.ingress = s.ingress ∧ s.quietCommit.engines = s.engines ∧ s.quietCommit.flags = s.flags
      ∧ s.quietCommit.recorder = s.recorder ∧ s.quietCommit.egress.cellTimer = s.egress.cellTimer
      ∧ s.quietCommit.verifier.mismatches = s.verifier.mismatches ∧ sameMeasures s.monitor s.quietCommit.monitor := by
  obtain h | ⟨r, h⟩ := s.quietCommit_cases
  · rw [h]
    exact ⟨rfl, rfl, rfl, rfl, rfl, rfl, sameMeasures.refl _⟩
  · rw [h]
    exact ⟨s.takeCommit_ingress r, s.takeCommit_engines r, s.takeCommit_flags r, s.takeCommit_recorder r,
      s.takeCommit_cellTimer r, s.takeCommit_mismatches r, s.sameMeasures_takeCommit r⟩

/-- What a QUIET entry does to a feeder that was INJECTING or RELEASING (R94, R149, R156). -/
theorem State.quietBlocks_driving (s : State) {f : Feeder}
    (h : (s.engines.get f).state = .injecting ∨ (s.engines.get f).state = .releasing) :
    s.quietBlocks.engines.get f = { s.engines.get f with
        state := .standby, gain := 0, cause := none, marks := { (s.engines.get f).marks with linkLost := true } }
      ∧ s.quietBlocks.verifier.mismatches.get f = ⟨0, 0, 0⟩
      ∧ s.quietBlocks.flags.latched.getLsbD 10 = true ∧ s.quietBlocks.flags.changed.get f = true := by
  have driving := (FeederState.driving_iff _).2 h
  have lost := Engine.quietEntry_of_driving driving
  have moved : (s.engines.get f).state ≠ ((s.engines.map Engine.quietEntry).get f).state := by
    rw [PerFeeder.get_map, lost]
    rcases h with h | h <;> simp [h]
  refine ⟨?_, ?_, ?_, ?_⟩
  · rw [State.quietBlocks_engines, PerFeeder.get_map, lost]
  · have idle : FeederState.standby.driving = false := rfl
    simp [State.quietBlocks_verifier, Verifier.left, driving, lost, idle]
  · rw [State.quietBlocks_flags, FlagUnit.latchIf_getLsbD, FlagUnit.raiseChanges_latched _ _ _ _ (by decide)]
    have some_moved : (Feeder.all.any fun g => decide ((s.engines.get g).state
        ≠ ((s.engines.map Engine.quietEntry).get g).state)) = true :=
      List.any_eq_true.2 ⟨f, Feeder.mem_all f, decide_eq_true moved⟩
    rw [some_moved]
    simp
  · rw [State.quietBlocks_flags, FlagUnit.latchIf_changed, FlagUnit.raiseChanges_changed, decide_eq_true moved, Bool.or_true]

theorem exec_quietTimerExpiry {s : State} (h : s.acts) (hw : s.work = none) (up : s.ingress.link = .up)
    (running : s.ingress.quietTimer ≠ none) : exec .quietTimerExpiry s = .next s.quietEntry := by
  have due : s.quietDue = true := by simp [State.quietDue, up, Option.isSome_iff_ne_none, running]
  change Host.Outcome.next _ = _
  rw [State.ready_acts h, if_pos due, State.finishWork_of_none hw]

/-- Settles O24: the blocks act, and a deferred COMMIT NOW that then takes effect leaves what they did. -/
theorem quietEntryActsOnEveryBlock : Obligations.QuietEntryActsOnEveryBlock := by
  intro s h hw up running
  obtain ⟨ingress, engines, flags, recorder, timer, mismatches, measures⟩ := s.quietBlocks.quietCommit_frame
  refine ⟨s.quietEntry, exec_quietTimerExpiry h hw up running, ?_, ?_, ?_, fun f driving => ?_, fun f i r => ?_, ?_, fun o ho => ?_,
    fun ho full => ?_, fun ho => ?_, fun r engine flight now => ?_, fun waits => ?_⟩
  · rw [State.quietEntry_eq, ingress, State.quietBlocks_ingress]
  · rw [State.quietEntry_eq, timer, State.quietBlocks_cellTimer]
  · rw [State.quietEntry_eq, flags, State.quietBlocks_flags, FlagUnit.latchIf_getLsbD,
      FlagUnit.raiseChanges_latched _ _ _ _ (by decide), FlagUnit.latch_getLsbD]
    simp [DeviceFlag.index]
  · rw [State.quietEntry_eq, engines, mismatches, flags]
    exact s.quietBlocks_driving driving
  · have idle : (s.engines.get f).state.driving = false := by
      rw [← Bool.not_eq_true, FeederState.driving_iff]
      exact fun h => h.elim i r
    rw [State.quietEntry_eq, engines, State.quietBlocks_engines, PerFeeder.get_map, Engine.quietEntry_of_idle idle]
  · rw [State.quietBlocks_monitor] at measures
    exact measures
  · rw [State.quietEntry_eq, recorder, engines, State.quietBlocks_recorder ho]
    exact ⟨rfl, rfl⟩
  · rw [State.quietEntry_eq, flags, State.quietBlocks_flags, FlagUnit.latchIf_getLsbD]
    have opened : s.eventOpen = true := Option.isSome_iff_ne_none.2 ho
    have discards : s.recorder.discards = true := decide_eq_true full
    simp [opened, discards, DeviceFlag.index]
  · rw [State.quietEntry_eq, recorder, State.quietBlocks_recorder_of_none ho]
  · rw [← State.quietBlocks_management] at engine flight
    rw [State.quietEntry_eq, State.quietCommit_takes engine flight now, State.takeCommit_tables, State.quietBlocks_tables]
    refine ⟨rfl, State.answer_inFlight _ _ _ _, fun room => ?_⟩
    rw [← s.quietBlocks_management] at room
    have answered := State.answer_management_of_room (s := s.quietBlocks.commitBank.note .commitTakesEffect) room r .done []
    rwa [State.note_management, State.commitBank_management, s.quietBlocks_management] at answered
  · rw [← State.quietBlocks_management] at waits
    rw [State.quietEntry_eq, State.quietCommit_waits waits, State.quietBlocks_tables, State.quietBlocks_tracker,
      State.quietBlocks_management, State.quietBlocks_monitor]
    exact ⟨rfl, rfl, rfl, rfl, rfl⟩

end Sys2Proof.Machine
end

section
/-! The acceptance of a SENSE cell and the missing cells before it (R8 to R14, R131), with what the Phase Tracker, the Sag Monitor
and the Injection Verifier make of a missing cell (R32, R42, R143). -/
open Sys2Proof Sys2Proof.Machine
namespace Sys2Proof.Machine

/-! ### The integer square root -/

/-- Each bit keeps the root's bracket: the square of the root does not exceed n, and that of the root raised by the bits still to
come does. -/
theorem isqrtBits_bracket {n : Nat} : ∀ {k root : Nat}, root * root ≤ n → n < (root + 2 ^ k) * (root + 2 ^ k) →
    isqrtBits n k root * isqrtBits n k root ≤ n ∧ n < (isqrtBits n k root + 1) * (isqrtBits n k root + 1)
  | 0, _, low, high => ⟨low, high⟩
  | k + 1, root, low, high => by
    unfold isqrtBits
    split
    next fits =>
      refine isqrtBits_bracket fits ?_
      rwa [add_assoc, ← two_mul, ← pow_succ']
    next => exact isqrtBits_bracket low (by omega)

theorem isqrt_eq_sqrt (n : Nat) : isqrt n = Nat.sqrt n := by
  have enough : n < 2 ^ (n.log2 / 2 + 1) * 2 ^ (n.log2 / 2 + 1) := by
    rw [← pow_add]
    exact Nat.lt_log2_self.trans_le (Nat.pow_le_pow_right two_pos (by omega))
  exact Nat.eq_sqrt.2 (isqrtBits_bracket (Nat.zero_le _) (by simpa using enough))

/-! ### Windows -/

theorem squares_append (a b : List Int) : squares (a ++ b) = squares a + squares b := by
  induction a with
  | nil => simp [squares]
  | cons x a ih => simp only [List.cons_append, squares, ih, add_assoc]

/-- The oldest samples' squares and the others' make up the whole sum. -/
theorem squares_take_add_drop (n : Nat) (l : List Int) : squares (l.take n) + squares (l.drop n) = squares l := by
  rw [← squares_append, List.take_append_drop]

/-- A window's sum is that of its samples' squares (R42). -/
def Window.exact (w : Window) : Prop := w.sum = squares w.samples

theorem Window.exact.trim {w : Window} (h : w.exact) (size : Nat) : (w.trim size).exact := by
  have split := squares_take_add_drop (w.samples.length - size) w.samples
  simp only [Window.exact, Window.trim, show w.sum = squares w.samples from h]
  omega

theorem Window.exact.join {w : Window} (h : w.exact) (size : Nat) (x : Int) : (w.join size x).exact := by
  refine Window.exact.trim ?_ size
  simp only [Window.exact, squares_append, squares, show w.sum = squares w.samples from h, Nat.add_zero]

theorem Window.join_samples (w : Window) (size : Nat) (x : Int) :
    (w.join size x).samples = (w.samples ++ [x]).drop (w.samples.length + 1 - size) := by
  simp [Window.join, Window.trim]

@[simp] theorem Monitor.window_samples (m : Monitor) (p : Phase) : (m.window p).samples = m.windows.get p := rfl

@[simp] theorem Monitor.window_sum (m : Monitor) (p : Phase) : (m.window p).sum = m.sums.get p := rfl

@[simp] theorem Monitor.window_setWindows (m : Monitor) (w : PerPhase Window) (p : Phase) : (m.setWindows w).window p = w.get p := by
  cases p <;> rfl

/-! ### The retained voltages -/

/-- A measurement is of the retained voltages before and the windows after. -/
theorem measuredFrom.congr {b : Bank} {before before' after after' : Monitor} (h : measuredFrom b before after)
    (retained : before'.retained = before.retained) (windows : after'.windows = after.windows) (sums : after'.sums = after.sums)
    (retained' : after'.retained = after.retained) (least : after'.minRetained = after.minRetained) :
    measuredFrom b before' after' := by
  unfold measuredFrom at *
  rwa [retained, windows, sums, retained', least]

/-- The retained voltages recomputed are measured from the windows as they stand (R43). -/
theorem Monitor.measuredFrom_remeasure (b : Bank) (m : Monitor) : measuredFrom b m (m.remeasure b) := by
  refine ⟨fun p empty => ?_, fun p n root some_sample length low high => ?_, rfl⟩
  · have empty : m.windows.get p = [] := empty
    simp [Monitor.remeasure, empty]
  · have some_sample : m.windows.get p ≠ [] := some_sample
    have length : (m.windows.get p).length = n := length
    have root_eq : root = isqrt (m.sums.get p / n) := by
      rw [isqrt_eq_sqrt]
      exact Nat.eq_sqrt.2 ⟨low, high⟩
    simp [Monitor.remeasure, some_sample, retainedOf, length, root_eq, Bank.nominalRms]

/-! ### The monitor's work on a missing cell -/

theorem SagState.inEvent_iff (x : SagState) : x.inEvent = true ↔ x = .sag ∨ x = .recovering := by cases x <;> decide

theorem SagState.quietState_iff (x : SagState) : x.quietState = true ↔ x = .acquiring ∨ x = .normal := by cases x <;> decide

/-- The elapsed count in an event and outside one (R50). -/
theorem Monitor.countElapsed_eq (m : Monitor) :
    m.countElapsed = { m with elapsed :=
      if m.sag = .sag ∨ m.sag = .recovering then min 65535 (m.elapsed + 1) else m.elapsed } := by
  unfold Monitor.countElapsed
  by_cases h : m.sag = .sag ∨ m.sag = .recovering
  · rw [if_pos ((SagState.inEvent_iff _).2 h), if_pos h]
    rfl
  · rw [if_neg (mt (SagState.inEvent_iff _).1 h), if_neg h]

/-- A missing cell changes the windows and what is measured from them, the elapsed count and the burst timer (R42, R50, R56). -/
theorem Monitor.workMissing_eq (b : Bank) (m : Monitor) :
    m.workMissing b = { m with
      windows := (m.repeatSamples b).windows
      sums := (m.repeatSamples b).sums
      retained := (m.repeatSamples b).retained
      minRetained := (m.repeatSamples b).minRetained
      elapsed := if m.sag = .sag ∨ m.sag = .recovering then min 65535 (m.elapsed + 1) else m.elapsed
      burstTimer := m.burstTimer - 1 } := by
  rw [Monitor.workMissing, Monitor.countElapsed_eq]
  rfl

/-- Each window repeats its last sample in a missing cell, where it has one (R42). -/
theorem Monitor.repeatSamples_window (b : Bank) (m : Monitor) (p : Phase) :
    (m.repeatSamples b).window p =
      match (m.windows.get p).getLast? with
      | none => m.window p
      | some x => (m.window p).join b.halfWindow x := by
  cases p <;> rfl

theorem Monitor.repeatSamples_empty {b : Bank} {m : Monitor} {p : Phase} (h : m.windows.get p = []) :
    (m.repeatSamples b).windows.get p = [] := by
  rw [← Monitor.window_samples, Monitor.repeatSamples_window, h]
  exact h

theorem Monitor.repeatSamples_last {b : Bank} {m : Monitor} {p : Phase} {x : Int} (h : (m.windows.get p).getLast? = some x) :
    (m.repeatSamples b).windows.get p
      = (m.windows.get p ++ [x]).drop ((m.windows.get p).length + 1 - b.halfWindow) := by
  rw [← Monitor.window_samples, Monitor.repeatSamples_window, h]
  exact Window.join_samples _ _ _

theorem Monitor.repeatSamples_exact {b : Bank} {m : Monitor} {p : Phase} (h : m.sums.get p = squares (m.windows.get p)) :
    (m.repeatSamples b).sums.get p = squares ((m.repeatSamples b).windows.get p) := by
  change ((m.repeatSamples b).window p).exact
  have before : (m.window p).exact := h
  rw [Monitor.repeatSamples_window]
  split
  · exact before
  · exact before.join _ _

theorem Monitor.measuredFrom_repeatSamples (b : Bank) (m : Monitor) : measuredFrom b m (m.repeatSamples b) :=
  (Monitor.measuredFrom_remeasure b (m.setWindows _)).congr rfl rfl rfl rfl rfl

/-! ### The tracker's and the verifier's work on a missing cell -/

theorem anyDriving_iff (engines : PerFeeder Engine) :
    anyDriving engines = true ↔ ∃ f, (engines.get f).state = .injecting ∨ (engines.get f).state = .releasing := by
  simp only [anyDriving, List.any_eq_true, Feeder.mem_all, true_and, FeederState.driving_iff]

/-- The follow condition (R34). -/
theorem State.follows_iff (s : State) (settled : SagState) :
    s.follows settled = true ↔ (settled = .acquiring ∨ settled = .normal)
      ∧ ∀ f, (s.engines.get f).state ≠ .injecting ∧ (s.engines.get f).state ≠ .releasing := by
  simp only [State.follows, Bool.and_eq_true, Bool.not_eq_true', SagState.quietState_iff, ← Bool.not_eq_true, anyDriving_iff,
    not_exists, not_or, Ne]

/-- The hold part of a missing cell with no commit in its gap leaves all but the held angle and its offset (R34, R35). -/
theorem Tracker.holdPart_missing (b active : Bank) (follows : Bool) (t : Tracker) :
    t.holdPart b active follows false false
      = { t with
          hold := if follows then t.live else t.hold + BitVec.ofInt 32 (b.nominalStep + t.holdOffset)
          holdOffset := if follows then t.offset else t.holdOffset } := by
  cases follows <;> rfl

theorem Verifier.appendMissing_get (u : Verifier) (f : Feeder) (p : Phase) :
    (u.appendMissing.histories.get f).get p
      = ((u.histories.get f).get p ++ [none]).drop (((u.histories.get f).get p).length + 1 - 8) := by
  simp [Verifier.appendMissing, joinHistory, Config.historySize]

/-! ### The gap before an accepted cell -/

/-- The work stands before the accepted cell c, with so many missing cells still to be worked (R9). -/
def State.inGap (s : State) (c : Sense) (missing : Nat) : Prop :=
  ∃ w, s.work = some w ∧ w.sense = c ∧ w.stage = .accepted ∧ w.missing = missing

theorem State.inGap.congr {s t : State} {c : Sense} {m : Nat} (h : s.inGap c m) (work : t.work = s.work) : t.inGap c m := by
  unfold State.inGap
  rwa [work]

theorem State.inGap.commitBank {s : State} {c : Sense} {m : Nat} (h : s.inGap c m) : s.commitBank.inGap c m := by
  obtain ⟨w, hw, sense, stage, missing⟩ := h
  exact ⟨{ w with commitDuring := true }, by simp [State.commitBank, State.restartChecks, hw], sense, stage, missing⟩

theorem State.inGap.takeCommit {s : State} {c : Sense} {m : Nat} (h : s.inGap c m) (r : Request) : (s.takeCommit r).inGap c m :=
  h.commitBank.congr (State.answer_work _ _ _ _)

theorem State.inGap.endCell {s : State} {c : Sense} {m : Nat} (h : s.inGap c m) (zero : Bool) : (s.endCell zero).inGap c m := by
  have older : s.growOlder.inGap c m := h
  have aged : (s.ageCommit zero).inGap c m := by
    rcases s.ageCommit_cases zero with ⟨r, e⟩ | ⟨r, e⟩ | e | e <;> rw [e]
    · exact older.takeCommit r
    · exact older.congr (State.expireCommit_work _ r)
    · exact older
    · exact h
  have waited : (s.ageCommit zero).waitImage.inGap c m := by
    rcases (s.ageCommit zero).waitImage_cases with e | e <;> rw [e]
    · exact aged.commitBank.congr (State.autoEnlist_work _)
    · exact aged
  exact waited.congr (State.settleEcho_work _)

theorem State.inGap.settleSwitch {s : State} {c : Sense} {m : Nat} (h : s.inGap c m) : s.settleSwitch.inGap c m := by
  obtain ⟨w, hw, sense, stage, missing⟩ := h
  unfold State.settleSwitch
  rw [hw]
  dsimp only
  split
  · exact ⟨{ w with switches := false }, State.switchEpoch_work _, sense, stage, missing⟩
  · exact ⟨w, hw, sense, stage, missing⟩

theorem State.advance_of_missing {s : State} {w : Work} {m : Nat} (hw : s.work = some w) (stage : w.stage = .accepted)
    (missing : w.missing = m + 1) : s.advance = (s.workMissing w).settleSwitch := by
  simp [State.advance, hw, stage, missing]

/-- One advance in the gap works one missing cell (R9). -/
theorem State.inGap.advance {s : State} {c : Sense} {m : Nat} (h : s.inGap c (m + 1)) : s.advance.inGap c m := by
  obtain ⟨w, hw, sense, stage, missing⟩ := h
  rw [State.advance_of_missing hw stage missing]
  have passed : (s.passMissing w).restartChecks.inGap c m := ⟨{ w with missing := w.missing - 1 }, rfl, sense, stage, by simp [missing]⟩
  exact (passed.endCell _).settleSwitch

/-- Carried to a point of its gap, the work has worked the missing cells before that point. -/
theorem State.advanceTo_gap (k : Nat) {n m : Nat} {s : State} {c : Sense} (h : s.inGap c m) (fuel : m - k ≤ n) :
    State.advanceTo (.gap k) n s = State.advance^[m - k] s := by
  induction n generalizing s m with
  | zero =>
    rw [Nat.le_zero.1 fuel]
    rfl
  | succ n ih =>
    have stands : ∃ w, s.work = some w ∧ w.standsAt (.gap k) = decide (m ≤ k) := by
      obtain ⟨w, hw, sense, stage, missing⟩ := h
      exact ⟨w, hw, by simp [Work.standsAt, stage, missing]⟩
    obtain ⟨w, hw, at_gap⟩ := stands
    rw [State.advanceTo, hw]
    dsimp only
    rw [at_gap]
    by_cases le : m ≤ k
    · rw [decide_eq_true le, if_pos rfl, Nat.sub_eq_zero_of_le le]
      rfl
    · obtain ⟨j, rfl⟩ : ∃ j, m = j + 1 := ⟨m - 1, by omega⟩
      rw [decide_eq_false le, if_neg Bool.false_ne_true, ih h.advance (by omega), show j + 1 - k = j - k + 1 by omega]
      rfl

theorem State.workTo_gap (k : Nat) {m : Nat} {s : State} {c : Sense} (h : s.inGap c m) : s.workTo (.gap k) = State.advance^[m - k] s := by
  have start : s.workTo (.gap k) = State.advanceTo (.gap k) (m + 4) s := by
    obtain ⟨w, hw, -, -, missing⟩ := h
    rw [State.workTo, hw, ← missing]
    rfl
  rw [start, State.advanceTo_gap k h (by omega)]

/-! ### The acceptance -/

theorem PerFeeder.build_get {α : Type} (v : PerFeeder α) : (PerFeeder.build fun f => v.get f) = v := rfl

/-- What the acceptance does, but for an epoch switch: a break or a link return empties the histories and restarts the running
checks (R8 to R14, R22, R132, R138, R143). -/
theorem State.enterCell_eq (s : State) (c : Sense) (missing : Nat) (breaks switches : Bool) :
    s.enterCell c missing breaks switches = { s with
      ingress := { s.ingress with
        link := .up, expected := c.sequence + 1, quietTimer := some (4 * s.tables.active.cellPeriod),
        counters := acceptanceCounters s.ingress.counters missing breaks c.housekeeping }
      flags := { s.flags with latched := s.flags.latched ||| (if breaks then 16#32 else 0#32) }
      maps := { s.maps with
        age := if s.maps.pending.isSome ∧ switches = false then s.maps.age + 1 else s.maps.age
        checks := PerFeeder.build fun f =>
          if (breaks = true ∨ s.ingress.link ≠ .up) ∧ (s.engines.get f).state = .checking then ⟨0, ⟨0, 0, 0⟩⟩
          else s.maps.checks.get f }
      verifier := { s.verifier with histories :=
        if breaks = true ∨ s.ingress.link ≠ .up then PerFeeder.fill ⟨[], [], []⟩ else s.verifier.histories }
      egress := { s.egress with cellTimer := none }
      work := some (s.beginWork c missing switches)
      came := [] } := by
  have flags : s.flags.latchIf breaks .seqBreak
      = { s.flags with latched := s.flags.latched ||| (if breaks then 16#32 else 0#32) } := by
    cases breaks with
    | false => simp [FlagUnit.latchIf]
    | true => rfl
  have age : (if s.maps.pending.isSome && !switches then s.maps.age + 1 else s.maps.age)
      = if s.maps.pending.isSome ∧ switches = false then s.maps.age + 1 else s.maps.age := by
    simp
  have marked : (breaks || decide (s.ingress.link ≠ .up)) = true ↔ breaks = true ∨ s.ingress.link ≠ .up := by simp
  unfold State.enterCell
  rw [flags, age]
  by_cases h : breaks = true ∨ s.ingress.link ≠ .up
  · simp only [State.breakMarks, if_pos (marked.2 h), h, true_and]
    rfl
  · simp only [State.breakMarks, if_neg (mt marked.1 h), h, false_and, if_false]
    rfl

/-- The counters after an acceptance (R9, R10, R18). -/
theorem acceptanceCounters_get (c : Counters) (missing : Nat) (breaks : Bool) (w : Word) (k : LinkCounter) :
    (acceptanceCounters c missing breaks w).get k =
      match k with
      | .missingCells => min 65535 (c.missingCells + missing)
      | .sequenceBreaks => if breaks then min 65535 (c.sequenceBreaks + 1) else c.sequenceBreaks
      | .housekeepingErrors =>
        if housekeepingReading w = none then min 65535 (c.housekeepingErrors + 1) else c.housekeepingErrors
      | k => c.get k := by
  have valid : (housekeepingReading w).isNone = true ↔ housekeepingReading w = none := Option.isNone_iff_eq_none
  unfold acceptanceCounters
  rw [if_congr valid rfl rfl]
  by_cases h : housekeepingReading w = none
  · simp only [if_pos h]
    cases breaks <;> cases k <;> rfl
  · simp only [if_neg h]
    cases breaks <;> cases k <;> rfl

/-! ### The epoch switch -/

/-- The switch takes ENLISTING to CHECKING and RETIRING to OFFLINE and leaves every other state (R131). -/
theorem Engine.switch_state (e : Engine) (eventOpen : Bool) :
    (e.switch eventOpen).state
      = if e.state = .enlisting then .checking else if e.state = .retiring then .offline else e.state := by
  unfold Engine.switch
  cases h : e.state <;> cases eventOpen <;> simp [h, Engine.enter, Engine.markNotReady]

theorem Engine.switch_of_enlisting {e : Engine} (h : e.state = .enlisting) (eventOpen : Bool) :
    e.switch eventOpen = { e with state := .checking, gain := 0 } := by
  rw [Engine.switch, h]
  rfl

theorem Engine.switch_of_retiring {e : Engine} (h : e.state = .retiring) (eventOpen : Bool) :
    e.switch eventOpen = { e with
      state := .offline, gain := 0, prior := none, marks := { e.marks with notReady := e.marks.notReady || eventOpen } } := by
  rw [Engine.switch, h]
  cases eventOpen with
  | false => simp [Engine.enter, FeederState.driving]
  | true => simp [Engine.enter, FeederState.driving, Engine.markNotReady]

theorem Engine.switch_of_other {e : Engine} (enlisting : e.state ≠ .enlisting) (retiring : e.state ≠ .retiring)
    (eventOpen : Bool) : e.switch eventOpen = e := by
  unfold Engine.switch
  split <;> simp_all

/-- A feeder's state differs after the switch exactly where it was ENLISTING or RETIRING (R131, R156). -/
theorem Engine.switch_moves_iff (e : Engine) (eventOpen : Bool) :
    e.state ≠ (e.switch eventOpen).state ↔ e.state = .enlisting ∨ e.state = .retiring := by
  rw [Engine.switch_state]
  cases e.state <;> decide

/-- No feeder leaves INJECTING or RELEASING by the switch, so no mismatch counter is set to 0 (R149). -/
theorem Verifier.left_switch (u : Verifier) (engines : PerFeeder Engine) (eventOpen : Bool) :
    u.left engines (engines.map (Engine.switch eventOpen)) = u := by
  have stays : ∀ f, ((engines.get f).state.driving && !((engines.map (Engine.switch eventOpen)).get f).state.driving) = false := by
    intro f
    rw [PerFeeder.get_map, Engine.switch_state]
    cases (engines.get f).state <;> rfl
  simp only [Verifier.left, stays, Bool.false_eq_true, if_false, PerFeeder.build_get]

/-- Raising FEEDER_CHANGE leaves the report masks (R153, R156). -/
theorem FlagUnit.raiseChanges_reported (u : FlagUnit) (before after : PerFeeder Engine) :
    (u.raiseChanges before after).reported = u.reported := by
  refine List.foldlRecOn (motive := fun v : FlagUnit => v.reported = u.reported) _ _ rfl fun v hv f _ => ?_
  split
  · exact hv
  · exact hv

theorem FlagUnit.raiseChanges_frame (u : FlagUnit) (before after : PerFeeder Engine) :
    u.raiseChanges before after = { u with
      latched := (u.raiseChanges before after).latched, changed := (u.raiseChanges before after).changed } := by
  rw [← u.raiseChanges_reported before after]

/-- The engines after the switch (R131). -/
def State.enginesSwitched (s : State) : PerFeeder Engine := s.engines.map (Engine.switch s.eventOpen)

@[simp] theorem State.enginesSwitched_get (s : State) (f : Feeder) :
    s.enginesSwitched.get f = (s.engines.get f).switch s.eventOpen := PerFeeder.get_map _ _ f

/-- The switch, made at the acceptance or after the last missing cell before it, and all that it changes (R131). -/
theorem State.settleSwitch_switches {s : State} {w : Work} {p : PendingMap} (h : s.work = some w) (switches : w.switches = true)
    (missing : w.missing = 0) (hp : s.maps.pending = some p) :
    s.settleSwitch = { s with
      engines := s.enginesSwitched
      flags := s.flags.raiseChanges s.engines s.enginesSwitched
      maps := { epoch := p.epoch, active := p.feeders, pending := none, age := 0,
                checks := settleChecks s.engines s.enginesSwitched s.maps.checks }
      work := some { w with switches := false } } := by
  have due : (w.switches && decide (w.missing = 0)) = true := by simp [switches, missing]
  have counters : s.verifier.left s.engines s.enginesSwitched = s.verifier := s.verifier.left_switch s.engines s.eventOpen
  unfold State.settleSwitch
  rw [h]
  dsimp only
  rw [if_pos due]
  unfold State.switchEpoch
  rw [show (State.maps { s with work := some { w with switches := false } }).pending = some p from hp]
  conv_rhs => rw [← counters]
  rfl

/-- What the switch does, and that it does nothing else (R131, R96, R156). -/
theorem State.epochSwitched_settleSwitch {s : State} {w : Work} {p : PendingMap} (h : s.work = some w)
    (switches : w.switches = true) (missing : w.missing = 0) (hp : s.maps.pending = some p) :
    epochSwitched s s.settleSwitch p := by
  have moved : ∀ f, decide ((s.engines.get f).state ≠ (s.enginesSwitched.get f).state)
      = decide ((s.engines.get f).state = .enlisting ∨ (s.engines.get f).state = .retiring) := fun f => by
    rw [State.enginesSwitched_get]
    exact decide_eq_decide.2 (Engine.switch_moves_iff _ _)
  rw [State.settleSwitch_switches h switches missing hp]
  refine ⟨?_, fun f enlisting => ⟨?_, ?_⟩, fun f retiring => ?_, fun f enlisting retiring => ?_, fun f other => ?_, fun f => ?_,
    fun i hi => ?_⟩
  · rw [h]
    conv_lhs => rw [FlagUnit.raiseChanges_frame]
    rfl
  · rw [State.enginesSwitched_get, Engine.switch_of_enlisting enlisting]
  · simp [settleChecks, Engine.switch_state, enlisting, Check.start]
  · rw [State.enginesSwitched_get, Engine.switch_of_retiring retiring]
    rfl
  · rw [State.enginesSwitched_get, Engine.switch_of_other enlisting retiring]
  · by_cases retiring : (s.engines.get f).state = .retiring
    · simp [settleChecks, Engine.switch_state, retiring]
    · simp [settleChecks, Engine.switch_state, other, retiring]
  · rw [FlagUnit.raiseChanges_changed, moved]
  · rw [FlagUnit.raiseChanges_latched _ _ _ _ hi]
    simp only [moved]

/-! ### A missing cell worked -/

/-- With no commit deferred, no image waiting and no SET_ECHO waiting, nothing more happens at the end of a cell's work. -/
theorem State.endCell_of_nothing_waiting {s : State} (engine : s.management.engine ≠ .deferred)
    (echo : s.management.echoWaits = none) (image : s.loader.state ≠ .waiting) (zero : Bool) : s.endCell zero = s := by
  rw [State.endCell, State.ageCommit_of_ne engine, State.waitImage_of_ne image, State.settleEcho_of_none echo]

theorem burstExpires_iff {before after : Monitor} (h : after.burstTimer = before.burstTimer - 1) :
    burstExpires before after = true ↔ before.burstTimer = 1 := by
  simp only [burstExpires, h, Bool.and_eq_true, decide_eq_true_eq]
  omega

theorem State.passMissing_tracker {s : State} {w : Work} (committed : w.commitDuring = false) :
    (s.passMissing w).tracker =
      { s.tracker with
        live := s.tracker.live + BitVec.ofInt 32 (w.bank.nominalStep + s.tracker.offset)
        hold :=
          if s.follows s.monitor.sag then s.tracker.live + BitVec.ofInt 32 (w.bank.nominalStep + s.tracker.offset)
          else s.tracker.hold + BitVec.ofInt 32 (w.bank.nominalStep + s.tracker.holdOffset)
        holdOffset := if s.follows s.monitor.sag then s.tracker.offset else s.tracker.holdOffset } := by
  have sag : (s.monitorAlone w).sag = s.monitor.sag := by rw [State.monitorAlone, Monitor.workMissing_eq]
  change (s.liveAlone w).holdPart w.bank s.tables.active (s.follows (s.monitorAlone w).sag) false w.commitDuring = _
  rw [committed, sag, Tracker.holdPart_missing]
  rfl

/-- A missing cell worked, and what waits for nothing: the blocks it changes (R9, R12, R32, R42, R138, R143). -/
theorem State.workMissing_of_nothing_waiting {s : State} (w : Work) (engine : s.management.engine ≠ .deferred)
    (echo : s.management.echoWaits = none) (image : s.loader.state ≠ .waiting) :
    s.workMissing w = (s.passMissing w).restartChecks :=
  State.endCell_of_nothing_waiting (s := (s.passMissing w).restartChecks) engine echo image _

theorem State.passMissing_monitor (s : State) (w : Work) : (s.passMissing w).monitor = s.monitor.workMissing w.bank := rfl

/-- The blocks that a missing cell changes, with no commit in its gap (R9, R12, R32, R42, R50, R56, R143). -/
theorem State.passMissing_eq {s : State} {w : Work} {m : Nat} (missing : w.missing = m + 1) (committed : w.commitDuring = false) :
    s.passMissing w = { s with
      ingress := { s.ingress with cellTime := s.ingress.cellTime + 1 }
      tracker :=
        { s.tracker with
          live := s.tracker.live + BitVec.ofInt 32 (w.bank.nominalStep + s.tracker.offset)
          hold := (s.passMissing w).tracker.hold
          holdOffset := (s.passMissing w).tracker.holdOffset }
      monitor :=
        { s.monitor with
          windows := (s.passMissing w).monitor.windows
          sums := (s.passMissing w).monitor.sums
          retained := (s.passMissing w).monitor.retained
          minRetained := (s.passMissing w).monitor.minRetained
          elapsed := if s.monitor.sag = .sag ∨ s.monitor.sag = .recovering then min 65535 (s.monitor.elapsed + 1)
            else s.monitor.elapsed
          burstTimer := s.monitor.burstTimer - 1 }
      verifier := { s.verifier with histories := s.verifier.appendMissing.histories }
      work := some { w with missing := m }
      came := if s.monitor.burstTimer = 1 then s.came ++ [.burstTimerExpiry] else s.came } := by
  have monitor := Monitor.workMissing_eq w.bank s.monitor
  have expires := burstExpires_iff (before := s.monitor) (after := s.monitorAlone w) (by rw [State.monitorAlone, monitor])
  have tracker := State.passMissing_tracker (s := s) committed
  have left : w.missing - 1 = m := by omega
  calc s.passMissing w
      = { s with
          ingress := { s.ingress with cellTime := s.ingress.cellTime + 1 }
          tracker := (s.passMissing w).tracker
          monitor := s.monitor.workMissing w.bank
          verifier := s.verifier.appendMissing
          work := some { w with missing := w.missing - 1 }
          came := if burstExpires s.monitor (s.monitorAlone w) then s.came ++ [.burstTimerExpiry] else s.came } := rfl
    _ = _ := by
      rw [State.passMissing_monitor, if_congr expires rfl rfl, left, monitor, tracker]
      rfl

/-- The work of a missing cell with no commit, image or SET_ECHO waiting (R9, R12, R32, R34, R35, R42, R50, R56, R131, R138,
R143). -/
theorem State.advance_missing_of_nothing_waiting {s : State} {w : Work} {m : Nat} (hw : s.work = some w)
    (stage : w.stage = .accepted) (missing : w.missing = m + 1) (engine : s.management.engine ≠ .deferred)
    (echo : s.management.echoWaits = none) (image : s.loader.state ≠ .waiting) :
    s.advance = (s.passMissing w).restartChecks.settleSwitch := by
  rw [State.advance_of_missing hw stage missing, State.workMissing_of_nothing_waiting w engine echo image]

/-- An accepted SENSE cell begins its work (R8 to R11). -/
theorem exec_cellArrival_of_admits {s : State} {words : List Word} {missing : Nat} {breaks switches : Bool} (h : s.acts)
    (hw : s.work = none) (fits : s.senseFits words switches) (admits : s.admits (senseOf words) missing breaks) (p : WorkPoint) :
    exec (.cellArrival words p) s = .next ((s.accept (senseOf words) missing breaks switches).workTo p) := by
  rw [exec_cellArrival_of_acts h hw, State.arrive_of_senseFits fits, State.checkSequence_of_admits admits]

theorem State.accept_inGap (s : State) (c : Sense) (missing : Nat) (breaks switches : Bool) :
    (s.accept c missing breaks switches).inGap c missing :=
  State.inGap.settleSwitch ⟨s.beginWork c missing switches, rfl, rfl, rfl, rfl⟩

theorem State.admits_missing_le {s : State} {c : Sense} {missing : Nat} {breaks : Bool} (h : s.admits c missing breaks) :
    missing ≤ 15 := by
  rcases h with ⟨-, rfl, -⟩ | ⟨-, -, few, -⟩ | ⟨-, rfl, -⟩ <;> omega

/-- Settles O7: the acceptance as a full state, the gap worked by iterated advances, each of them a missing cell. -/
theorem acceptanceAndTheGapComeBeforeTheCellsWork : Obligations.AcceptanceAndTheGapComeBeforeTheCellsWork := by
  refine ⟨fun s words missing breaks switches h hw fits admits => ?_, fun s w m hw stage missing committed engine echo image => ?_⟩
  · have gap := s.accept_inGap (senseOf words) missing breaks switches
    refine ⟨s.accept (senseOf words) missing breaks switches, s.enterCell (senseOf words) missing breaks switches,
      s.beginWork (senseOf words) missing switches, ?_, s.enterCell_eq _ _ _ _, acceptanceCounters_get _ _ _ _, rfl, rfl, rfl, rfl,
      rfl, rfl, rfl, rfl, fun switching none p hp => ?_, fun waits => ?_, fun k _ => ?_⟩
    · rw [exec_cellArrival_of_admits h hw fits admits, State.workTo_gap 15 gap,
        Nat.sub_eq_zero_of_le (State.admits_missing_le admits)]
      rfl
    · exact State.epochSwitched_settleSwitch rfl switching none (by rw [State.enterCell_eq]; exact hp)
    · exact State.settleSwitch_waits rfl waits
    · rw [exec_cellArrival_of_admits h hw fits admits, State.workTo_gap k gap]
  · have worked : ((s.passMissing w).restartChecks).work = some { w with missing := m } := by
      rw [State.restartChecks_work, State.passMissing_eq missing committed]
    have tracker := State.passMissing_tracker (s := s) committed
    rw [State.advance_missing_of_nothing_waiting hw stage missing engine echo image]
    refine ⟨(s.passMissing w).restartChecks, ?_, fun quiet idle => ?_, fun busy => ?_, fun p empty => ?_, fun p x last => ?_,
      fun p exact_sum => ?_, ?_, fun f p => s.verifier.appendMissing_get f p, fun f => PerFeeder.get_build _ f,
      fun switches none p hp => ?_, fun waits => ?_⟩
    · conv_lhs => rw [State.passMissing_eq missing committed]
      rfl
    · have follows : s.follows s.monitor.sag = true := (s.follows_iff _).2 ⟨quiet, idle⟩
      rw [State.restartChecks_tracker, tracker, follows]
      exact ⟨rfl, rfl⟩
    · have coasts : s.follows s.monitor.sag = false := by
        rw [← Bool.not_eq_true, State.follows_iff]
        rintro ⟨quiet, idle⟩
        rcases busy with event | ⟨f, hf⟩
        · exact quiet.elim event.1 event.2
        · exact hf.elim (idle f).1 (idle f).2
      rw [State.restartChecks_tracker, tracker, coasts]
      exact ⟨rfl, rfl⟩
    · rw [State.restartChecks_monitor, State.passMissing_monitor, Monitor.workMissing_eq]
      exact Monitor.repeatSamples_empty empty
    · rw [State.restartChecks_monitor, State.passMissing_monitor, Monitor.workMissing_eq]
      exact Monitor.repeatSamples_last last
    · rw [State.restartChecks_monitor, State.passMissing_monitor, Monitor.workMissing_eq]
      exact Monitor.repeatSamples_exact exact_sum
    · rw [State.restartChecks_monitor, State.passMissing_monitor, Monitor.workMissing_eq]
      exact (s.monitor.measuredFrom_repeatSamples w.bank).congr rfl rfl rfl rfl rfl
    · exact State.epochSwitched_settleSwitch worked switches none hp
    · exact State.settleSwitch_waits worked waits

end Sys2Proof.Machine
end

section
/-! The whole work of an accepted SENSE cell and its DRIVE cell (R9, R11, R12, R19 to R23, R79). -/
open Sys2Proof Sys2Proof.Machine
namespace Sys2Proof.Machine

/-! ### The gap worked through -/

/-- Carried to its end, the work in a gap first works the missing cells (R9). -/
theorem State.finishWork_of_inGap {s : State} {c : Sense} {m : Nat} (h : s.inGap c m) :
    s.finishWork = (State.advance^[m] s).finishWork := by
  induction m generalizing s with
  | zero => rfl
  | succ m ih =>
    have next := h.advance
    rw [Function.iterate_succ_apply, ← ih next]
    obtain ⟨w, hw, -, -, missing⟩ := h
    obtain ⟨v, hv, -, -, left⟩ := next
    rw [State.finishWork_eq hw, State.finishWork_eq hv, missing, left]
    exact State.advanceTo_ended_some hw (m + 4)

/-- What each missing cell keeps, the whole gap keeps. -/
theorem State.iterate_advance_keeps {P : State → Prop} {c : Sense}
    (keeps : ∀ (s : State) (w : Work), s.work = some w → P s → P (s.workMissing w).settleSwitch) {s : State} {m : Nat}
    (h : s.inGap c m) (hs : P s) : (State.advance^[m] s).inGap c 0 ∧ P (State.advance^[m] s) := by
  induction m generalizing s with
  | zero => exact ⟨h, hs⟩
  | succ m ih =>
    rw [Function.iterate_succ_apply]
    refine ih h.advance ?_
    obtain ⟨w, hw, -, stage, missing⟩ := h
    rw [State.advance_of_missing hw stage missing]
    exact keeps s w hw hs

/-- Each missing cell advances the cell time by 1 and leaves the rest of the Ingress Port (R12). -/
theorem State.iterate_advance_ingress {s : State} {c : Sense} {m : Nat} (h : s.inGap c m) :
    (State.advance^[m] s).ingress = { s.ingress with cellTime := s.ingress.cellTime + BitVec.ofNat 32 m } := by
  induction m generalizing s with
  | zero => simp
  | succ m ih =>
    rw [Function.iterate_succ_apply, ih h.advance]
    obtain ⟨w, hw, -, stage, missing⟩ := h
    have one : s.advance.ingress = { s.ingress with cellTime := s.ingress.cellTime + 1 } := by
      rw [State.advance_of_missing hw stage missing, State.settleSwitch_ingress, State.workMissing, State.endCell_ingress]
      rfl
    rw [one, Nat.add_comm m 1, BitVec.ofNat_add]
    simp only [BitVec.add_assoc]
    rfl

/-! ### A busy link stands -/

/-- Two ports with the same cell on the link and the same one waiting. -/
def Egress.sameCells (x y : Egress) : Prop := y.onLink = x.onLink ∧ y.waiting = x.waiting

theorem Egress.sameCells.trans {x y z : Egress} (h : x.sameCells y) (g : y.sameCells z) : x.sameCells z :=
  ⟨g.1.trans h.1, g.2.trans h.2⟩

/-- An answer changes nothing on a busy link (R20). -/
theorem State.answer_egress_busy {s : State} (h : s.egress.onLink ≠ none) (r : Request) (result : Result)
    (payload : List Word) : (s.answer r result payload).egress = s.egress := by
  unfold State.answer State.buffer
  split
  · rw [State.chooseNext_busy (by exact h)]
  · rfl

/-- What waits for the end of a cell's work changes nothing on a busy link (R20). -/
theorem State.endCell_busy {s : State} (h : s.egress.onLink ≠ none) (zero : Bool) :
    s.egress.sameCells (s.endCell zero).egress := by
  have aged : (s.ageCommit zero).egress = s.egress := by
    rcases s.ageCommit_cases zero with ⟨r, e⟩ | ⟨r, e⟩ | e | e <;> rw [e]
    · exact State.answer_egress_busy (by exact h) r .done []
    · exact State.answer_egress_busy (by exact h) r .expired []
    · rfl
  have waited : (s.ageCommit zero).waitImage.egress = s.egress := by rw [State.waitImage_egress, aged]
  rw [State.endCell]
  rcases (s.ageCommit zero).waitImage.settleEcho_cases with ⟨r, on, e⟩ | e <;> rw [e]
  · unfold State.setEcho
    split
    · rw [State.answer_egress_busy (by rwa [waited]), waited]
      exact ⟨rfl, rfl⟩
    · rw [State.answer_egress_busy (by rwa [waited]), waited]
      exact ⟨rfl, rfl⟩
  · rw [waited]
    exact ⟨rfl, rfl⟩

theorem State.workMissing_settleSwitch_busy {s : State} (w : Work) (h : s.egress.onLink ≠ none) :
    s.egress.sameCells (s.workMissing w).settleSwitch.egress := by
  rw [State.settleSwitch_egress]
  exact State.endCell_busy (s := (s.passMissing w).restartChecks) h _

/-! ### What waits for the end of a cell's work leaves the number, the epoch and the active map -/

theorem State.commitImage_maps (s : State) :
    s.commitImage.maps.epoch = s.maps.epoch ∧ s.commitImage.maps.active = s.maps.active := by
  unfold State.commitImage State.autoEnlist
  split <;> exact ⟨rfl, rfl⟩

theorem State.ageCommit_maps (s : State) (zero : Bool) :
    (s.ageCommit zero).maps.epoch = s.maps.epoch ∧ (s.ageCommit zero).maps.active = s.maps.active := by
  rcases s.ageCommit_cases zero with ⟨r, e⟩ | ⟨r, e⟩ | e | e <;> rw [e]
  · rw [State.takeCommit, State.answer_maps]
    exact ⟨rfl, rfl⟩
  · rw [State.expireCommit_maps]
    exact ⟨rfl, rfl⟩
  · exact ⟨rfl, rfl⟩
  · exact ⟨rfl, rfl⟩

theorem State.endCell_maps (s : State) (zero : Bool) :
    (s.endCell zero).maps.epoch = s.maps.epoch ∧ (s.endCell zero).maps.active = s.maps.active := by
  obtain ⟨epoch, active⟩ := s.ageCommit_maps zero
  rw [State.endCell, State.settleEcho_maps]
  rcases (s.ageCommit zero).waitImage_cases with e | e <;> rw [e]
  · obtain ⟨epoch', active'⟩ := (s.ageCommit zero).commitImage_maps
    exact ⟨epoch'.trans epoch, active'.trans active⟩
  · exact ⟨epoch, active⟩

theorem State.setEcho_lastSequence (s : State) (r : Request) (on : Bool) :
    (s.setEcho r on).egress.lastSequence = s.egress.lastSequence := by
  unfold State.setEcho
  split <;> rw [State.answer_lastSequence]

theorem State.endCell_lastSequence (s : State) (zero : Bool) : (s.endCell zero).egress.lastSequence = s.egress.lastSequence := by
  have aged : (s.ageCommit zero).egress.lastSequence = s.egress.lastSequence := by
    rcases s.ageCommit_cases zero with ⟨r, e⟩ | ⟨r, e⟩ | e | e <;> rw [e]
    · rw [State.takeCommit, State.answer_lastSequence]
      rfl
    · rw [State.expireCommit, State.answer_lastSequence]
      rfl
    · rfl
  have waited : (s.ageCommit zero).waitImage.egress.lastSequence = s.egress.lastSequence := by rw [State.waitImage_egress, aged]
  rw [State.endCell]
  rcases (s.ageCommit zero).waitImage.settleEcho_cases with ⟨r, on, e⟩ | e <;> rw [e]
  · rw [State.setEcho_lastSequence, waited]
  · exact waited

/-! ### What a DRIVE cell is formed from -/

/-- The state that the words of an accepted cell's DRIVE cell are formed from (R19), and what keeps it to the end of a cell's work:
no image and no SET_ECHO waits. -/
structure SameDrive (s t : State) : Prop where
  epoch : t.maps.epoch = s.maps.epoch
  active : t.maps.active = s.maps.active
  engines : t.engines = s.engines
  sag : t.monitor.sag = s.monitor.sag
  echo : t.egress.echo = s.egress.echo
  flags : t.flags = s.flags

/-- No image and no SET_ECHO waits for the end of a cell's work. -/
def State.undisturbed (s : State) : Prop := s.loader.state ≠ .waiting ∧ s.management.echoWaits = none

theorem State.answer_echoWaits (s : State) (r : Request) (result : Result) (payload : List Word) :
    (s.answer r result payload).management.echoWaits = none := by
  unfold State.answer State.buffer
  split <;> rfl

theorem sameMeasures.sag {m n : Monitor} (h : sameMeasures m n) : n.sag = m.sag := by
  rw [show n = { m with windows := n.windows, sums := n.sums } from h]

/-- A commit at the end of a cell's work leaves what DRIVE cells are formed from, and no SET_ECHO waiting. -/
theorem State.ageCommit_sameDrive (s : State) (zero : Bool) :
    SameDrive s (s.ageCommit zero) ∧ (s.undisturbed → (s.ageCommit zero).undisturbed) := by
  obtain ⟨epoch, active⟩ := s.ageCommit_maps zero
  suffices h : (s.ageCommit zero).monitor.sag = s.monitor.sag ∧ (s.ageCommit zero).egress.echo = s.egress.echo
      ∧ (s.management.echoWaits = none → (s.ageCommit zero).management.echoWaits = none) by
    obtain ⟨sag, echo, waits⟩ := h
    exact ⟨⟨epoch, active, State.ageCommit_engines _ _, sag, echo, State.ageCommit_flags _ _⟩,
      fun ⟨image, settled⟩ => ⟨by rwa [State.ageCommit_loader], waits settled⟩⟩
  rcases s.ageCommit_cases zero with ⟨r, e⟩ | ⟨r, e⟩ | e | e <;> rw [e]
  · exact ⟨(s.growOlder.sameMeasures_takeCommit r).sag, State.answer_echo _ _ _ _, fun _ => State.answer_echoWaits _ _ _ _⟩
  · exact ⟨congrArg _ (State.expireCommit_monitor _ r), State.answer_echo _ _ _ _, fun _ => State.answer_echoWaits _ _ _ _⟩
  · exact ⟨rfl, rfl, id⟩
  · exact ⟨rfl, rfl, id⟩

theorem State.endCell_sameDrive {s : State} (h : s.undisturbed) (zero : Bool) :
    SameDrive s (s.endCell zero) ∧ (s.endCell zero).undisturbed := by
  obtain ⟨same, keeps⟩ := s.ageCommit_sameDrive zero
  obtain ⟨image, echo⟩ := keeps h
  rw [State.endCell, State.waitImage_of_ne image, State.settleEcho_of_none echo]
  exact ⟨same, image, echo⟩

/-! ### The slot outputs follow the feeder states -/

/-- A slot output shows a feeder state: bypass open in INJECTING and RELEASING, the modulator enabled there and in a CHECKING whose
check runs, and the state's code (R79). -/
structure SlotOutput.shows (o : SlotOutput) (runs : Bool) (x : FeederState) : Prop where
  bypass : o.bypassClosed = !x.driving
  modulator : o.modulator = (x.driving || (decide (x = .checking) && runs))
  state : o.state = x

theorem SlotOutput.closed_shows {runs : Bool} {x : FeederState} (driving : x.driving = false)
    (checking : x = .checking → runs = false) : (SlotOutput.closed x).shows runs x := by
  refine ⟨by rw [driving]; rfl, ?_, rfl⟩
  by_cases h : x = .checking
  · simp [SlotOutput.closed, driving, checking h]
  · simp [SlotOutput.closed, driving, h]

/-- The reference step leaves the feeder state and shows it (R79, R135). -/
theorem Engine.referenceStep_shows (v : CellView) (e : Engine) (x : Check) :
    (e.referenceStep v x).1.state = e.state ∧ (e.referenceStep v x).1.prior = e.prior
      ∧ (e.referenceStep v x).2.2.shows v.checkRuns e.state := by
  unfold Engine.referenceStep
  cases h : e.state
  case injecting => exact ⟨h, rfl, rfl, rfl, rfl⟩
  case releasing => exact ⟨h, rfl, rfl, rfl, rfl⟩
  case checking =>
    cases runs : v.checkRuns
    · exact ⟨h, rfl, SlotOutput.closed_shows rfl fun _ => rfl⟩
    · exact ⟨h, rfl, rfl, rfl, rfl⟩
  all_goals exact ⟨h, rfl, SlotOutput.closed_shows rfl nofun⟩

theorem Engine.work_shows (v : CellView) (e : Engine) (x : Check) :
    (e.work v x).output.shows v.checkRuns (e.work v x).engine.state := by
  obtain ⟨state, -, shows⟩ := Engine.referenceStep_shows v
    ((((e.confirmationStep v).decision v x).engine).gainStep v.settings) ((e.confirmationStep v).decision v x).check
  change (Engine.referenceStep v _ _).2.2.shows _ (Engine.referenceStep v _ _).1.state
  rwa [state]

/-! ### A RETIRING feeder's prior state -/

/-- A RETIRING feeder's prior state is STANDBY, SHED or LOCKOUT (R128). -/
def Engine.priorSound (e : Engine) : Prop :=
  e.state = .retiring → e.prior = some .standby ∨ e.prior = some .shed ∨ e.prior = some .lockout

theorem Engine.priorSound.congr {e x : Engine} (h : e.priorSound) (state : x.state = e.state) (prior : x.prior = e.prior) :
    x.priorSound := by
  unfold Engine.priorSound
  rwa [state, prior]

/-- The confirmation step leaves the feeder state and the prior state (R95). -/
theorem Engine.confirmationStep_state (v : CellView) (e : Engine) :
    (e.confirmationStep v).state = e.state ∧ (e.confirmationStep v).prior = e.prior := by
  unfold Engine.confirmationStep Engine.readiness
  repeat' split
  all_goals exact ⟨rfl, rfl⟩

/-- A lookup leaves the feeder state (section 4.3). -/
theorem confirmationLookup_state (v : CellView) (e : Engine) : (confirmationLookup v e).engine.state = e.state := by
  unfold confirmationLookup
  split <;> rfl

theorem standingLookupIf_state (v : CellView) (e : Engine) : (standingLookupIf v e).engine.state = e.state := by
  unfold standingLookupIf standingLookup Lookup.unmade
  repeat' split
  all_goals rfl

theorem injectingLookup_state (v : CellView) (e : Engine) : (injectingLookup v e).engine.state = e.state := by
  unfold injectingLookup classificationLookup classRiseLookup
  repeat' split
  all_goals rfl

theorem Engine.decideStandby_ne_retiring {e : Engine} (h : e.state ≠ .retiring) (v : CellView) :
    (e.decideStandby v).state ≠ .retiring := by
  have kept : (if v.marks.confirmation then confirmationLookup v e else standingLookupIf v e).engine.state = e.state := by
    split
    · exact confirmationLookup_state v e
    · exact standingLookupIf_state v e
  unfold Engine.decideStandby
  generalize (if v.marks.confirmation then confirmationLookup v e else standingLookupIf v e) = l at kept
  have enters : ∀ m, (l.engine.enterInjection v m).state ≠ .retiring := fun m => by
    unfold Engine.enterInjection
    split
    · exact nofun
    · split
      · exact kept.trans_ne h
      · exact nofun
  dsimp only
  split
  · exact enters _
  · exact enters _
  all_goals exact kept.trans_ne h

theorem Engine.decideInjecting_ne_retiring {e : Engine} (h : e.state ≠ .retiring) (v : CellView) :
    (e.decideInjecting v).state ≠ .retiring := by
  have kept := (injectingLookup_state v e).trans_ne h
  unfold Engine.decideInjecting
  dsimp only
  split
  · split <;> exact nofun
  · split
    · exact nofun
    · split
      · exact nofun
      · split
        · exact nofun
        · exact kept

theorem Engine.decideReturn_ne_retiring {e : Engine} (h : e.state ≠ .retiring) (v : CellView) :
    (e.decideReturn v).state ≠ .retiring := by
  unfold Engine.decideReturn
  split
  · split
    · exact h
    · exact nofun
  · exact h

theorem Engine.decideReleasing_ne_retiring {e : Engine} (h : e.state ≠ .retiring) (v : CellView) :
    (e.decideReleasing v).state ≠ .retiring := by
  have kept := (standingLookupIf_state v e).trans_ne h
  unfold Engine.decideReleasing
  dsimp only
  split
  · split
    · exact kept
    · split
      · exact kept
      · exact nofun
  all_goals exact kept

theorem Engine.decideShed_ne_retiring {e : Engine} (h : e.state ≠ .retiring) (v : CellView) :
    (e.decideShed v).state ≠ .retiring := by
  unfold Engine.decideShed
  split
  · exact nofun
  · exact h

theorem Engine.lockOut_state (e : Engine) (eventOpen : Bool) : (e.lockOut eventOpen).state = .lockout := by
  cases eventOpen <;> rfl

theorem Engine.decideChecking_ne_retiring {e : Engine} (h : e.state ≠ .retiring) (v : CellView) (x : Check) :
    (e.decideChecking v x).engine.state ≠ .retiring := by
  unfold Engine.decideChecking
  dsimp only
  split
  · split
    · split
      · exact nofun
      · exact (e.lockOut_state v.eventOpen).trans_ne nofun
    · exact h
  · exact h

/-- The decision step takes no feeder into RETIRING, and leaves one that is there (R80). -/
theorem Engine.decision_of_retiring {v : CellView} {e : Engine} {x : Check} (h : (e.decision v x).engine.state = .retiring) :
    (e.decision v x).engine = e := by
  unfold Engine.decision at h ⊢
  split at h
  case h_1 state => exact absurd h (Engine.decideStandby_ne_retiring (by rw [state]; exact nofun) v)
  case h_2 state => exact absurd h (Engine.decideInjecting_ne_retiring (by rw [state]; exact nofun) v)
  case h_3 state =>
    have other : e.state ≠ .retiring := by rw [state]; exact nofun
    dsimp only at h
    split at h
    · exact absurd h (Engine.decideReturn_ne_retiring other v)
    · exact absurd h (Engine.decideReleasing_ne_retiring other v)
  case h_4 state => exact absurd h (Engine.decideShed_ne_retiring (by rw [state]; exact nofun) v)
  case h_5 state => exact absurd h (Engine.decideChecking_ne_retiring (by rw [state]; exact nofun) v x)
  all_goals simp [*]

/-- The gain step takes no feeder into RETIRING, and leaves the prior state (R87, R88). -/
theorem Engine.gainStep_priorSound {e : Engine} (h : e.priorSound) (fb : FeederBank) : (e.gainStep fb).priorSound := by
  unfold Engine.gainStep Engine.endRelease
  split
  · intro retiring
    refine absurd retiring ?_
    change (if _ then _ else _) ≠ _
    split <;> exact nofun
  · exact h.congr rfl rfl

/-- An engine's work on a cell keeps the prior state of a RETIRING feeder (R80, R128). -/
theorem Engine.work_priorSound {e : Engine} (h : e.priorSound) (v : CellView) (x : Check) : (e.work v x).engine.priorSound := by
  have decided : ((e.confirmationStep v).decision v x).engine.priorSound := fun retiring => by
    obtain ⟨state, prior⟩ := Engine.confirmationStep_state v e
    have same := Engine.decision_of_retiring retiring
    rw [same] at retiring ⊢
    exact h.congr state prior retiring
  obtain ⟨state, prior, -⟩ := Engine.referenceStep_shows v
    ((((e.confirmationStep v).decision v x).engine).gainStep v.settings) ((e.confirmationStep v).decision v x).check
  exact (Engine.gainStep_priorSound decided v.settings).congr state prior

end Sys2Proof.Machine
end

section
/-! What an accepted cell's DRIVE cell shows, stage by stage, and the cell sent (R19, R20, R23, R79, R91, R109, R132). -/
open Sys2Proof Sys2Proof.Machine
namespace Sys2Proof.Machine

/-! ### Stage by stage -/

/-- A path check runs in the cell (R134). -/
def State.checksRun (s : State) : Bool := s.monitor.sag.quietState && !s.egress.echo

/-- Every RETIRING feeder has a prior state to return to (R128). -/
def State.priorsSound (s : State) : Prop := ∀ f, (s.engines.get f).priorSound

/-- The slot outputs show the feeder states of the active map (R79). -/
def State.outputsShow (s : State) (outputs : PerFeeder SlotOutput) : Prop :=
  ∀ f ∈ s.maps.active, (outputs.get f).shows s.checksRun (s.engines.get f).state

/-- The references the engines hold are those of the slot outputs (R109). -/
def State.referencesHeld (s : State) (outputs : PerFeeder SlotOutput) : Prop :=
  ∀ f ∈ s.maps.active, (s.engines.get f).references = (outputs.get f).references

theorem State.engineStep_of_mem {s : State} {w : Work} {f : Feeder} (h : f ∈ s.maps.active) :
    s.engineStep w f = (s.engines.get f).work (s.view w f) (s.maps.checks.get f) := if_pos h

@[simp] theorem State.enginesStepped_get (s : State) (w : Work) (f : Feeder) :
    (s.enginesStepped w).get f = (s.engineStep w f).engine := by
  rw [State.enginesStepped, PerFeeder.get_map, State.engineSteps, PerFeeder.get_build]

@[simp] theorem State.outputsFormed_get (s : State) (w : Work) (f : Feeder) :
    (s.outputsFormed w).get f = (s.engineStep w f).output := by
  rw [State.outputsFormed, PerFeeder.get_map, State.engineSteps, PerFeeder.get_build]

/-- The reference steps form outputs that show the feeder states (R79, R80). -/
theorem State.engageCell_shows (s : State) (w : Work) : (s.engageCell w).outputsShow (s.outputsFormed w) := by
  intro f hf
  change f ∈ s.maps.active at hf
  change ((s.outputsFormed w).get f).shows s.checksRun ((s.enginesStepped w).get f).state
  rw [State.enginesStepped_get, State.outputsFormed_get, State.engineStep_of_mem hf]
  exact Engine.work_shows (s.view w f) _ _

theorem State.priorsSound.engageCell {s : State} (h : s.priorsSound) (w : Work) : (s.engageCell w).priorsSound := by
  intro f
  change ((s.enginesStepped w).get f).priorSound
  rw [State.enginesStepped_get]
  unfold State.engineStep
  split
  · exact Engine.work_priorSound (h f) _ _
  · dsimp only
    split
    · exact (h f).congr rfl rfl
    · exact h f

/-- The verifier step leaves the feeder state or locks the feeder out (R91). -/
theorem Engine.verifierStep_state (e : Engine) (fault eventOpen : Bool) :
    (e.verifierStep fault eventOpen).state = .lockout ∨ (e.verifierStep fault eventOpen).state = e.state := by
  unfold Engine.verifierStep
  split
  · split
    · exact .inl (e.lockOut_state eventOpen)
    · split
      · exact .inr rfl
      · exact .inr rfl
  · exact .inr rfl

/-- A fault on a RETIRING feeder makes its prior state LOCKOUT (R91). -/
theorem Engine.verifierStep_priorSound {e : Engine} (h : e.priorSound) (fault eventOpen : Bool) :
    (e.verifierStep fault eventOpen).priorSound := by
  unfold Engine.verifierStep
  split
  · split
    · intro retiring
      exact absurd retiring ((e.lockOut_state eventOpen).trans_ne nofun)
    · split
      · exact fun _ => .inr (.inr rfl)
      · exact h
  · exact h

/-- The outputs after the verifier step show the states it leaves (R79, R91). -/
theorem SlotOutput.shows.afterVerifier {o : SlotOutput} {runs : Bool} {x y : FeederState} (h : o.shows runs x)
    (hy : y = .lockout ∨ y = x) : (o.afterVerifier y).shows runs y := by
  unfold SlotOutput.afterVerifier
  split
  next locked =>
    rw [locked]
    exact SlotOutput.closed_shows rfl nofun
  next free =>
    obtain rfl := hy.resolve_left free
    exact ⟨h.bypass, h.modulator, rfl⟩

/-- What follows the verifier step leaves the feeder state and the prior state, and holds the references (R109 to R112). -/
theorem Engine.account_frame (supply : PerPhase Int) (slot : Slot) (o : SlotOutput) (eventOpen : Bool) (e : Engine) :
    (e.account supply slot o eventOpen).state = e.state ∧ (e.account supply slot o eventOpen).prior = e.prior
      ∧ (e.account supply slot o eventOpen).references = o.references := by
  unfold Engine.account
  dsimp only
  repeat' split
  all_goals exact ⟨rfl, rfl, rfl⟩

theorem State.enginesAccounted_frame (s : State) (w : Work) (f : Feeder) :
    ((s.enginesAccounted w).get f).state = ((s.enginesVerified w).get f).state
      ∧ ((s.enginesAccounted w).get f).prior = ((s.enginesVerified w).get f).prior := by
  rw [State.enginesAccounted, PerFeeder.get_build]
  split
  · obtain ⟨state, prior, -⟩ := Engine.account_frame w.sense.supply (slotOf s.maps.active w.sense.slots f)
      ((s.outputsVerified w).get f) s.eventOpen ((s.enginesVerified w).get f)
    exact ⟨state, prior⟩
  · exact ⟨rfl, rfl⟩

/-- The verifier steps leave outputs that show the feeder states, and engines that hold their references (R91, R109). -/
theorem State.verifyCell_shows {s : State} {w : Work} (h : s.outputsShow w.outputs) :
    (s.verifyCell w).outputsShow (s.outputsVerified w) ∧ (s.verifyCell w).referencesHeld (s.outputsVerified w) := by
  refine ⟨fun f hf => ?_, fun f hf => ?_⟩
  · change ((s.outputsVerified w).get f).shows s.checksRun ((s.enginesAccounted w).get f).state
    rw [(s.enginesAccounted_frame w f).1, State.outputsVerified, PerFeeder.get_build]
    refine (h f hf).afterVerifier ?_
    rw [State.enginesVerified, PerFeeder.get_build]
    exact Engine.verifierStep_state _ _ _
  · change ((s.enginesAccounted w).get f).references = _
    have hf : f ∈ s.maps.active := hf
    rw [State.enginesAccounted, PerFeeder.get_build, if_pos hf]
    exact (Engine.account_frame _ _ _ _ _).2.2

theorem State.priorsSound.verifyCell {s : State} (h : s.priorsSound) (w : Work) : (s.verifyCell w).priorsSound := by
  intro f
  obtain ⟨state, prior⟩ := s.enginesAccounted_frame w f
  have verified : ((s.enginesVerified w).get f).priorSound := by
    rw [State.enginesVerified, PerFeeder.get_build]
    exact Engine.verifierStep_priorSound (h f) _ _
  exact verified.congr state prior

/-! ### The last stage -/

/-- What the last stage does to a change that is pending: it is abandoned or stands (R132). -/
theorem State.abandonChange_cases (s : State) (b : Bank) :
    s.abandonChange b = (s.moveEnginesRaising (s.engines.map Engine.abandon)).dropChange ∨ s.abandonChange b = s := by
  unfold State.abandonChange
  split
  · exact .inl rfl
  · exact .inr rfl

theorem Engine.abandon_references (e : Engine) : e.abandon.references = e.references := by
  unfold Engine.abandon
  split <;> rfl

/-- An abandon returns a RETIRING feeder to a state whose outputs are RETIRING's, but for the code, and an ENLISTING one to OFFLINE
(R132, R79). -/
theorem SlotOutput.shows.abandon {o : SlotOutput} {runs : Bool} {e : Engine} (h : o.shows runs e.state) (prior : e.priorSound) :
    ({ o with state := e.abandon.state } : SlotOutput).shows runs e.abandon.state := by
  have moves : ∀ y : FeederState, e.state.driving = false → e.state ≠ .checking → y.driving = false → y ≠ .checking →
      ({ o with state := y } : SlotOutput).shows runs y := by
    intro y driving checking driving' checking'
    refine ⟨by rw [h.bypass, driving, driving'], ?_, rfl⟩
    rw [h.modulator, driving, driving', decide_eq_false checking, decide_eq_false checking']
  have stays : e.abandon.state = e.state → ({ o with state := e.abandon.state } : SlotOutput).shows runs e.abandon.state := by
    intro same
    rw [same]
    exact ⟨h.bypass, h.modulator, rfl⟩
  cases hs : e.state
  case enlisting =>
    have offline : e.abandon.state = .offline := by rw [Engine.abandon, hs]; rfl
    rw [offline]
    exact moves _ (by rw [hs]; rfl) (by rw [hs]; exact nofun) rfl nofun
  case retiring =>
    have returns : e.abandon.state = e.prior.getD .standby := by rw [Engine.abandon, hs]; rfl
    rw [returns]
    rcases prior hs with e | e | e <;> rw [e] <;>
      exact moves _ (by rw [hs]; rfl) (by rw [hs]; exact nofun) rfl nofun
  all_goals exact stays (by rw [Engine.abandon, hs]; exact hs)

theorem restoreCodes_same (engines : PerFeeder Engine) (outputs : PerFeeder SlotOutput) :
    restoreCodes engines engines outputs = outputs := by
  simp only [restoreCodes, if_true, PerFeeder.build_get]

/-- The outputs with the codes an abandon restored show the states it left, and their references are held (R132). -/
theorem State.abandonChange_shows {s : State} {outputs : PerFeeder SlotOutput} (h : s.outputsShow outputs)
    (held : s.referencesHeld outputs) (priors : s.priorsSound) (b : Bank) :
    (s.abandonChange b).outputsShow (restoreCodes s.engines (s.abandonChange b).engines outputs)
      ∧ (s.abandonChange b).referencesHeld (restoreCodes s.engines (s.abandonChange b).engines outputs) := by
  rcases s.abandonChange_cases b with e | e <;> rw [e]
  · have restored : ∀ f, (restoreCodes s.engines (s.engines.map Engine.abandon) outputs).get f
        = { outputs.get f with state :=
            if (s.engines.get f).state = (s.engines.get f).abandon.state then (outputs.get f).state
            else (s.engines.get f).abandon.state } := fun f => by
      rw [restoreCodes, PerFeeder.get_build, PerFeeder.get_map]
      split <;> rfl
    refine ⟨fun f hf => ?_, fun f hf => ?_⟩
    · change ((restoreCodes s.engines (s.engines.map Engine.abandon) outputs).get f).shows s.checksRun
        ((s.engines.map Engine.abandon).get f).state
      have code : (if (s.engines.get f).state = (s.engines.get f).abandon.state then (outputs.get f).state
          else (s.engines.get f).abandon.state) = (s.engines.get f).abandon.state := by
        split
        next same => rw [(h f hf).state, same]
        next => rfl
      rw [restored, PerFeeder.get_map, code]
      exact (h f hf).abandon (priors f)
    · change ((s.engines.map Engine.abandon).get f).references
        = ((restoreCodes s.engines (s.engines.map Engine.abandon) outputs).get f).references
      rw [restored, PerFeeder.get_map, Engine.abandon_references]
      exact held f hf
  · rw [restoreCodes_same]
    exact ⟨h, held⟩

/-! ### The words of the DRIVE cell -/

/-- The words of an accepted cell's DRIVE cell, as the feeders, the monitor, the flags and the echo setting stand (R4, R19, R23, R79). -/
def State.driveWords (t : State) (c : Sense) : List Word :=
  withCrc (headerWord 9 t.maps.epoch c.sequence
    :: deviceStatusWord t.monitor.sag .up t.egress.echo t.flags.attention
    :: t.maps.active.flatMap fun f =>
      if t.egress.echo then
        [BitVec.ofInt 16 (slotOf t.maps.active c.slots f).load.a,
         BitVec.ofInt 16 (slotOf t.maps.active c.slots f).load.b,
         BitVec.ofInt 16 (slotOf t.maps.active c.slots f).load.c,
         BitVec.ofNat 16 (32768 + (t.engines.get f).state.code)]
      else
        [BitVec.ofInt 16 (t.engines.get f).references.a, BitVec.ofInt 16 (t.engines.get f).references.b,
         BitVec.ofInt 16 (t.engines.get f).references.c,
         BitVec.ofNat 16
          ((if (t.engines.get f).state ∈ [FeederState.injecting, .releasing] then 16384
            else if (t.engines.get f).state = .checking
                ∧ (t.monitor.sag = .acquiring ∨ t.monitor.sag = .normal) then 32768 + 16384
            else 32768) + (t.engines.get f).state.code)])

theorem SameDrive.driveWords {s t : State} (h : SameDrive s t) (c : Sense) : t.driveWords c = s.driveWords c := by
  simp only [State.driveWords, h.epoch, h.active, h.engines, h.sag, h.echo, h.flags]

/-- The control word of a slot output that shows a feeder state (section 1.5, R79). -/
theorem SlotOutput.shows.controlWord {o : SlotOutput} {runs : Bool} {x : FeederState} (h : o.shows runs x) :
    slotControlWord o.bypassClosed o.modulator o.state
      = BitVec.ofNat 16 ((if x ∈ [FeederState.injecting, .releasing] then 16384
          else if x = .checking ∧ runs = true then 32768 + 16384 else 32768) + x.code) := by
  rw [h.bypass, h.modulator, h.state]
  cases x <;> cases runs <;> rfl

/-- A slot's words in the cell's DRIVE cell (R19, R23). -/
theorem State.cellSlotWords_eq {s : State} {w : Work} (shows : s.outputsShow w.outputs) (held : s.referencesHeld w.outputs)
    {f : Feeder} (hf : f ∈ s.maps.active) :
    s.cellSlotWords w f =
      if s.egress.echo then
        [BitVec.ofInt 16 (slotOf s.maps.active w.sense.slots f).load.a,
         BitVec.ofInt 16 (slotOf s.maps.active w.sense.slots f).load.b,
         BitVec.ofInt 16 (slotOf s.maps.active w.sense.slots f).load.c,
         BitVec.ofNat 16 (32768 + (s.engines.get f).state.code)]
      else
        [BitVec.ofInt 16 (s.engines.get f).references.a, BitVec.ofInt 16 (s.engines.get f).references.b,
         BitVec.ofInt 16 (s.engines.get f).references.c,
         BitVec.ofNat 16
          ((if (s.engines.get f).state ∈ [FeederState.injecting, .releasing] then 16384
            else if (s.engines.get f).state = .checking
                ∧ (s.monitor.sag = .acquiring ∨ s.monitor.sag = .normal) then 32768 + 16384
            else 32768) + (s.engines.get f).state.code)] := by
  unfold State.cellSlotWords
  dsimp only
  split
  next => rw [(shows f hf).state]; rfl
  next plain =>
    have runs : s.checksRun = true ↔ s.monitor.sag = .acquiring ∨ s.monitor.sag = .normal := by
      simp [State.checksRun, plain, SagState.quietState_iff]
    rw [(shows f hf).controlWord, held f hf]
    simp only [runs]
    rfl

theorem State.cellDrive_eq {s : State} {w : Work} (link : s.ingress.link = .up) (shows : s.outputsShow w.outputs)
    (held : s.referencesHeld w.outputs) : s.cellDrive w = s.driveWords w.sense := by
  unfold State.cellDrive driveCell State.statusWord State.driveWords
  rw [link, List.flatMap_congr fun f hf => State.cellSlotWords_eq shows held hf]
  rfl

end Sys2Proof.Machine
end

section
/-! The last stage sends the cell's DRIVE cell, and the whole work leads to it (R9, R11, R12, R19, R20, R23). -/
open Sys2Proof Sys2Proof.Machine
namespace Sys2Proof.Machine

/-! ### Header fields -/

theorem headerKind_headerWord (kind epoch : BitVec 4) (tag : BitVec 8) : headerKind (headerWord kind epoch tag) = kind := by
  change BitVec.extractLsb' 12 4 ((kind ++ epoch) ++ tag) = kind
  rw [BitVec.extractLsb'_append_eq_of_le (by decide)]
  exact BitVec.extractLsb'_append_eq_left

theorem headerEpoch_headerWord (kind epoch : BitVec 4) (tag : BitVec 8) : headerEpoch (headerWord kind epoch tag) = epoch := by
  change BitVec.extractLsb' 8 4 ((kind ++ epoch) ++ tag) = epoch
  rw [BitVec.extractLsb'_append_eq_of_le (by decide)]
  exact BitVec.extractLsb'_append_eq_right

theorem headerTag_headerWord (kind epoch : BitVec 4) (tag : BitVec 8) : headerTag (headerWord kind epoch tag) = tag :=
  BitVec.extractLsb'_append_eq_right

theorem wordAt_driveCell (epoch : BitVec 4) (sequence : BitVec 8) (status : Word) (slots : List Word) :
    wordAt (driveCell epoch sequence status slots) 0 = headerWord 9 epoch sequence := rfl

/-! ### The last stage, step by step -/

/-- The state that the cell's DRIVE cell is formed from: the Event Recorder has worked the cell, and a change due is abandoned. -/
def State.atDrive (s : State) (w : Work) : State := (s.recordCell w).abandonChange w.bank

/-- The DRIVE cell of the cell. -/
def State.driveMade (s : State) (w : Work) : List Word :=
  (s.atDrive w).cellDrive { w with outputs := restoreCodes s.engines (s.atDrive w).engines w.outputs }

/-- The state with the DRIVE cell made ready, before what waits for the end of the cell's work. -/
def State.withDrive (s : State) (w : Work) : State :=
  ((s.atDrive w).readyDrive (s.driveMade w) w.sense.sequence).lateRestart w

theorem State.finishCell_eq (s : State) (w : Work) :
    s.finishCell w = ((s.withDrive w).endCell w.zeroCrossing).endWork := by
  unfold State.finishCell State.sendDrive
  rw [State.recordCell_engines]
  rfl

@[simp] theorem State.atDrive_egress (s : State) (w : Work) : (s.atDrive w).egress = s.egress := by simp [State.atDrive]

@[simp] theorem State.withDrive_management (s : State) (w : Work) : (s.withDrive w).management = s.management := by
  simp [State.withDrive, State.atDrive]

@[simp] theorem State.withDrive_loader (s : State) (w : Work) : (s.withDrive w).loader = s.loader := by
  simp [State.withDrive, State.atDrive]

theorem State.withDrive_egress (s : State) (w : Work) :
    (s.withDrive w).egress = { s.egress with
      lastSequence := w.sense.sequence
      waiting := if s.egress.onLink = none then none else some (s.driveMade w)
      onLink := if s.egress.onLink = none then some (.drive (s.driveMade w)) else s.egress.onLink } := by
  rw [State.withDrive, State.lateRestart_egress, State.readyDrive_eq, State.atDrive_egress]

theorem State.lateRestart_sameDrive (s : State) (w : Work) : SameDrive s (s.lateRestart w) := by
  unfold State.lateRestart
  split <;> exact ⟨rfl, rfl, rfl, rfl, rfl, rfl⟩

theorem State.readyDrive_sameDrive (s : State) (d : List Word) (n : BitVec 8) : SameDrive s (s.readyDrive d n) := by
  rw [State.readyDrive_eq]
  exact ⟨rfl, rfl, rfl, rfl, rfl, rfl⟩

theorem SameDrive.trans {s t u : State} (h : SameDrive s t) (g : SameDrive t u) : SameDrive s u :=
  ⟨g.epoch.trans h.epoch, g.active.trans h.active, g.engines.trans h.engines, g.sag.trans h.sag, g.echo.trans h.echo,
    g.flags.trans h.flags⟩

theorem State.withDrive_sameDrive (s : State) (w : Work) : SameDrive (s.atDrive w) (s.withDrive w) :=
  (State.readyDrive_sameDrive _ _ _).trans (State.lateRestart_sameDrive _ w)

/-! ### The state the last stage leaves -/

theorem State.finishCell_lastSequence (s : State) (w : Work) : (s.finishCell w).egress.lastSequence = w.sense.sequence := by
  rw [State.finishCell_eq, State.endWork_egress, State.endCell_lastSequence, State.withDrive_egress]

/-- The DRIVE cell waits for a busy link (R20). -/
theorem State.finishCell_busy {s : State} (h : s.egress.onLink ≠ none) (w : Work) :
    (s.finishCell w).egress.onLink = s.egress.onLink ∧ (s.finishCell w).egress.waiting = some (s.driveMade w) := by
  have egress := s.withDrive_egress w
  rw [if_neg h, if_neg h] at egress
  have busy : (s.withDrive w).egress.onLink ≠ none := by rwa [egress]
  obtain ⟨onLink, waiting⟩ := State.endCell_busy busy w.zeroCrossing
  rw [State.finishCell_eq, State.endWork_egress, onLink, waiting, egress]
  exact ⟨rfl, rfl⟩

/-- The DRIVE cell goes to a free link (R20). -/
theorem State.finishCell_free {s : State} (h : s.egress.onLink = none) (undisturbed : s.undisturbed)
    (engine : s.management.engine ≠ .deferred) (w : Work) :
    (s.finishCell w).egress.onLink = some (.drive (s.driveMade w)) ∧ (s.finishCell w).egress.waiting = none := by
  obtain ⟨image, echo⟩ := undisturbed
  rw [State.finishCell_eq, State.endCell_of_nothing_waiting (by rwa [State.withDrive_management])
    (by rwa [State.withDrive_management]) (by rwa [State.withDrive_loader]), State.endWork_egress, State.withDrive_egress,
    if_pos h, if_pos h]
  exact ⟨rfl, rfl⟩

theorem State.finishCell_maps (s : State) (w : Work) :
    (s.finishCell w).maps.epoch = (s.atDrive w).maps.epoch ∧ (s.finishCell w).maps.active = (s.atDrive w).maps.active := by
  obtain ⟨epoch, active⟩ := (s.withDrive w).endCell_maps w.zeroCrossing
  have same := s.withDrive_sameDrive w
  rw [State.finishCell_eq, State.endWork_maps]
  exact ⟨epoch.trans same.epoch, active.trans same.active⟩

theorem State.finishCell_sameDrive {s : State} (undisturbed : s.undisturbed) (w : Work) :
    SameDrive (s.atDrive w) (s.finishCell w) := by
  have kept : (s.withDrive w).undisturbed := by
    unfold State.undisturbed
    rwa [State.withDrive_loader, State.withDrive_management]
  have ended : SameDrive (s.withDrive w) (s.finishCell w) := by
    obtain ⟨epoch, active, engines, sag, echo, flags⟩ := (State.endCell_sameDrive kept w.zeroCrossing).1
    rw [State.finishCell_eq]
    exact ⟨epoch, active, engines, sag, echo, flags⟩
  exact (s.withDrive_sameDrive w).trans ended

/-- The number of words of the DRIVE cell, and its header (R4, R19). -/
theorem State.driveMade_shape (s : State) (w : Work) :
    wordAt (s.driveMade w) 0 = headerWord 9 (s.finishCell w).maps.epoch w.sense.sequence
      ∧ (s.driveMade w).length = 3 + 4 * (s.finishCell w).maps.active.length := by
  obtain ⟨epoch, active⟩ := s.finishCell_maps w
  have four : ∀ (t : State) (v : Work) (f : Feeder), (t.cellSlotWords v f).length = 4 := by
    intro t v f
    unfold State.cellSlotWords
    dsimp only
    split <;> rfl
  rw [epoch, active]
  exact ⟨wordAt_driveCell _ _ _ _, length_driveCell _ _ _ _ _ (four _ _)⟩

/-- The words of the DRIVE cell, from the state the last stage leaves (R19, R23, R79). -/
theorem State.driveMade_eq {s : State} {w : Work} (link : s.ingress.link = .up) (shows : s.outputsShow w.outputs)
    (held : s.referencesHeld w.outputs) (priors : s.priorsSound) (undisturbed : s.undisturbed) :
    s.driveMade w = (s.finishCell w).driveWords w.sense := by
  have shows' : (s.recordCell w).outputsShow w.outputs := by
    unfold State.outputsShow State.checksRun
    rw [State.recordCell_maps, State.recordCell_engines, State.recordCell_monitor, State.recordCell_egress]
    exact shows
  have held' : (s.recordCell w).referencesHeld w.outputs := by
    unfold State.referencesHeld
    rw [State.recordCell_maps, State.recordCell_engines]
    exact held
  have priors' : (s.recordCell w).priorsSound := by
    unfold State.priorsSound
    rw [State.recordCell_engines]
    exact priors
  obtain ⟨shown, kept⟩ := State.abandonChange_shows shows' held' priors' w.bank
  rw [State.recordCell_engines] at shown kept
  have up : (s.atDrive w).ingress.link = .up := by
    rw [State.atDrive, State.abandonChange_ingress, State.recordCell_ingress, link]
  rw [(State.finishCell_sameDrive undisturbed w).driveWords]
  exact State.cellDrive_eq up shown kept

/-! ### The stages before the last one -/

/-- The state and the work that the last stage begins from, where the work stands before the accepted cell itself. -/
theorem State.finishWork_reaches_last {s : State} {c : Sense} (h : s.inGap c 0) :
    ∃ (t : State) (w : Work), s.finishWork = t.finishCell w ∧ w.sense = c
      ∧ t.ingress = { s.ingress with cellTime := s.ingress.cellTime + 1 } ∧ t.egress = s.egress
      ∧ t.management = s.management ∧ t.loader = s.loader
      ∧ (s.priorsSound → t.outputsShow w.outputs ∧ t.referencesHeld w.outputs ∧ t.priorsSound) := by
  obtain ⟨w, hw, sense, stage, missing⟩ := h
  refine ⟨((s.trackCell w).engageCell (s.handOn w)).verifyCell ((s.trackCell w).afterEngage (s.handOn w)),
    ((s.trackCell w).engageCell (s.handOn w)).afterVerify ((s.trackCell w).afterEngage (s.handOn w)),
    State.finishWork_begins hw stage missing, sense, rfl, rfl, rfl, rfl, fun priors => ?_⟩
  have tracked : (s.trackCell w).priorsSound := priors
  have formed : ((s.trackCell w).engageCell (s.handOn w)).outputsShow ((s.trackCell w).afterEngage (s.handOn w)).outputs :=
    State.engageCell_shows _ _
  obtain ⟨shows, held⟩ := State.verifyCell_shows formed
  exact ⟨shows, held, (tracked.engageCell _).verifyCell _⟩

/-! ### The gap and the acceptance -/

theorem State.priorsSound.congr {s t : State} (h : s.priorsSound) (engines : t.engines = s.engines) : t.priorsSound := by
  unfold State.priorsSound
  rwa [engines]

/-- The epoch switch leaves no feeder RETIRING (R131). -/
theorem Engine.switch_priorSound (e : Engine) (eventOpen : Bool) : (e.switch eventOpen).priorSound := by
  intro retiring
  rw [Engine.switch_state] at retiring
  split at retiring
  · cases retiring
  · split at retiring
    · cases retiring
    next other => exact absurd retiring other

theorem State.priorsSound.settleSwitch {s : State} (h : s.priorsSound) : s.settleSwitch.priorsSound := by
  unfold State.settleSwitch State.switchEpoch
  split
  · exact h
  · split
    · split
      · exact h
      · intro f
        change ((s.engines.map (Engine.switch s.eventOpen)).get f).priorSound
        rw [PerFeeder.get_map]
        exact Engine.switch_priorSound _ _
    · exact h

theorem State.undisturbed.congr {s t : State} (h : s.undisturbed) (loader : t.loader = s.loader)
    (management : t.management = s.management) : t.undisturbed := by
  unfold State.undisturbed
  rwa [loader, management]

/-- What an accepted cell's DRIVE cell needs of the state before the cell's own work. -/
def State.driveSound (s : State) : Prop := s.undisturbed ∧ s.priorsSound

theorem State.driveSound.settleSwitch {s : State} (h : s.driveSound) : s.settleSwitch.driveSound :=
  ⟨h.1.congr s.settleSwitch_loader s.settleSwitch_management, h.2.settleSwitch⟩

theorem State.driveSound.workMissing {s : State} (h : s.driveSound) (w : Work) : (s.workMissing w).driveSound := by
  obtain ⟨undisturbed, priors⟩ := h
  have passed : (s.passMissing w).restartChecks.undisturbed := undisturbed
  obtain ⟨same, kept⟩ := State.endCell_sameDrive passed (zeroCrossing s.tracker (s.liveAlone w))
  exact ⟨kept, priors.congr same.engines⟩

/-- The link is free and nothing waits for the end of a cell's work. -/
def State.idleLink (s : State) : Prop := s.egress.onLink = none ∧ s.undisturbed ∧ s.management.engine ≠ .deferred

theorem State.idleLink.congr {s t : State} (h : s.idleLink) (onLink : t.egress.onLink = s.egress.onLink)
    (loader : t.loader = s.loader) (management : t.management = s.management) : t.idleLink := by
  obtain ⟨free, undisturbed, engine⟩ := h
  exact ⟨onLink.trans free, undisturbed.congr loader management, by rwa [management]⟩

theorem State.idleLink.workMissing {s : State} (h : s.idleLink) (w : Work) : (s.workMissing w).idleLink := by
  have ⟨_, ⟨image, echo⟩, engine⟩ := h
  rw [State.workMissing_of_nothing_waiting w engine echo image]
  exact h.congr rfl rfl rfl

theorem State.accept_frame (s : State) (c : Sense) (missing : Nat) (breaks switches : Bool) :
    (s.accept c missing breaks switches).egress.onLink = s.egress.onLink
      ∧ (s.accept c missing breaks switches).loader = s.loader
      ∧ (s.accept c missing breaks switches).management = s.management
      ∧ (s.accept c missing breaks switches).ingress.link = .up
      ∧ (s.accept c missing breaks switches).ingress.expected = c.sequence + 1
      ∧ (s.accept c missing breaks switches).ingress.cellTime = s.ingress.cellTime := by
  rw [State.accept, State.settleSwitch_egress, State.settleSwitch_loader, State.settleSwitch_management,
    State.settleSwitch_ingress, State.enterCell_eq]
  exact ⟨rfl, rfl, rfl, rfl, rfl, rfl⟩

theorem State.accept_driveSound {s : State} (h : s.driveSound) (c : Sense) (missing : Nat) (breaks switches : Bool) :
    (s.accept c missing breaks switches).driveSound := by
  have entered : (s.enterCell c missing breaks switches).driveSound := by
    rw [State.enterCell_eq]
    exact h
  exact entered.settleSwitch

theorem mapsSound.priorsSound {s : State} (h : mapsSound s) : s.priorsSound := by
  obtain ⟨-, -, -, priors, -⟩ := h
  exact priors

/-! ### The whole work -/

/-- What the missing cells before an accepted cell keep: a busy link, what a DRIVE cell needs, and an idle link (R9, R20). -/
theorem State.gap_keeps {a : State} {c : Sense} {m : Nat} (gap : a.inGap c m) :
    (State.advance^[m] a).inGap c 0
      ∧ (a.egress.onLink ≠ none → (State.advance^[m] a).egress.onLink = a.egress.onLink)
      ∧ (a.driveSound → (State.advance^[m] a).driveSound)
      ∧ (a.idleLink → (State.advance^[m] a).idleLink) := by
  refine ⟨?_, fun busy => ?_, fun sound => ?_, fun idle => ?_⟩
  · exact (State.iterate_advance_keeps (P := fun _ => True) (fun _ _ _ _ => trivial) gap trivial).1
  · exact (State.iterate_advance_keeps (P := fun t => t.egress.onLink = a.egress.onLink)
      (fun t w _ ht => (State.workMissing_settleSwitch_busy w (ht ▸ busy)).1.trans ht) gap rfl).2
  · exact (State.iterate_advance_keeps (fun _ w _ ht => (ht.workMissing w).settleSwitch) gap sound).2
  · exact (State.iterate_advance_keeps (fun t w _ ht => (ht.workMissing w).congr (by rw [State.settleSwitch_egress])
      (State.settleSwitch_loader _) (State.settleSwitch_management _)) gap idle).2

/-- The state and the work that the last stage begins from, after the acceptance, the gap and the stages before it. -/
theorem State.accept_reaches_last (s : State) (c : Sense) (missing : Nat) (breaks switches : Bool) :
    ∃ (t : State) (w : Work), (s.accept c missing breaks switches).workTo .ended = t.finishCell w ∧ w.sense = c
      ∧ t.ingress.link = .up ∧ t.ingress.expected = c.sequence + 1
      ∧ t.ingress.cellTime = s.ingress.cellTime + BitVec.ofNat 32 (missing + 1)
      ∧ (s.egress.onLink ≠ none → t.egress.onLink = s.egress.onLink)
      ∧ (s.driveSound → t.undisturbed ∧ t.outputsShow w.outputs ∧ t.referencesHeld w.outputs ∧ t.priorsSound)
      ∧ (s.idleLink → t.idleLink) := by
  obtain ⟨onLink, loader, management, link, expected, cellTime⟩ := s.accept_frame c missing breaks switches
  have gap := s.accept_inGap c missing breaks switches
  have sound := fun d : s.driveSound => State.accept_driveSound d c missing breaks switches
  generalize s.accept c missing breaks switches = a at *
  have worked := State.iterate_advance_ingress gap
  obtain ⟨begins, busyGap, soundGap, idleGap⟩ := State.gap_keeps gap
  obtain ⟨t, w, finish, sense, ingress, egress, managed, loaded, shown⟩ := State.finishWork_reaches_last begins
  rw [worked] at ingress
  refine ⟨t, w, ?_, sense, ?_, ?_, ?_, fun busy => ?_, fun d => ?_, fun idle => ?_⟩
  · exact (State.finishWork_of_inGap gap).trans finish
  · rw [ingress, ← link]
  · rw [ingress, ← expected]
  · rw [ingress, ← cellTime, BitVec.ofNat_add, ← BitVec.add_assoc]
    rfl
  · rw [egress, busyGap (onLink ▸ busy), onLink]
  · obtain ⟨undisturbed, priors⟩ := soundGap (sound d)
    exact ⟨undisturbed.congr loaded managed, shown priors⟩
  · exact (idleGap (idle.congr onLink loader management)).congr (by rw [egress]) loaded managed

/-- Settles O8: the missing cells keep what the DRIVE cell needs, the stages form its words, and the last stage sends it. -/
theorem acceptedSenseCellIsWorkedToItsEnd : Obligations.AcceptedSenseCellIsWorkedToItsEnd := by
  intro s words missing breaks switches h hw fits admits
  obtain ⟨t, w, finish, sense, link, expected, cellTime, busyGap, sound, idleGap⟩ :=
    s.accept_reaches_last (senseOf words) missing breaks switches
  obtain ⟨header, length⟩ := t.driveMade_shape w
  rw [sense] at header
  refine ⟨t.finishCell w, ?_, State.finishCell_work t w, ?_, ?_, ?_, ?_, fun busy => ?_, fun maps image echo => ?_⟩
  · rw [exec_cellArrival_of_admits h hw fits admits, finish]
  · rw [State.finishCell_ingress, link]
  · rw [State.finishCell_ingress, expected]
  · rw [State.finishCell_ingress, cellTime]
  · rw [State.finishCell_lastSequence, sense]
  · have same := busyGap busy
    obtain ⟨stands, waits⟩ := State.finishCell_busy (same ▸ busy) w
    refine ⟨stands.trans same, t.driveMade w, waits, ?_, ?_, ?_, length⟩
    · rw [header, headerKind_headerWord]
    · rw [header, headerEpoch_headerWord]
    · rw [header, headerTag_headerWord]
  · have undisturbed : s.undisturbed := ⟨image, echo⟩
    obtain ⟨kept, shows, held, priors⟩ := sound ⟨undisturbed, maps.priorsSound⟩
    have made : t.driveMade w = (t.finishCell w).driveWords (senseOf words) :=
      sense ▸ State.driveMade_eq link shows held priors kept
    refine ⟨(t.finishCell w).driveWords (senseOf words), rfl, fun busy => ?_, fun free engine => ?_⟩
    · obtain ⟨-, waits⟩ := State.finishCell_busy (busyGap busy ▸ busy) w
      rw [waits, made]
    · obtain ⟨free', undisturbed', engine'⟩ := idleGap ⟨free, undisturbed, engine⟩
      obtain ⟨sent, none⟩ := State.finishCell_free free' undisturbed' engine' w
      exact ⟨by rw [sent, made], none⟩

end Sys2Proof.Machine
end

section
/-! The Phase Tracker's work on an accepted cell: what is measured, how the live phase is steered, and when the held reference
follows it (R25 to R31, R34, R35, R37 to R39). -/
open Sys2Proof Sys2Proof.Machine
namespace Sys2Proof.Machine

/-! ### Arithmetic -/

theorem clampInt_eq_max_min {low high : Int} (h : low ≤ high) (x : Int) : clampInt low high x = max low (min high x) := by
  unfold clampInt
  split_ifs <;> omega

theorem Bank.amplitudeLow_le_high (b : Bank) : b.amplitudeLow ≤ b.amplitudeHigh := by
  unfold Bank.amplitudeLow Bank.amplitudeHigh
  omega

/-- A_ref's clamp as a number (R37). -/
theorem Bank.clampAmplitude_eq (b : Bank) (x : Int) :
    (b.clampAmplitude x : Int) = max (b.amplitudeLow : Int) (min (b.amplitudeHigh : Int) x) := by
  have ends : (b.amplitudeLow : Int) ≤ b.amplitudeHigh := Int.ofNat_le.2 b.amplitudeLow_le_high
  rw [Bank.clampAmplitude, clampInt_eq_max_min ends]
  exact Int.toNat_of_nonneg ((Int.natCast_nonneg _).trans (le_max_left _ _))

/-- The offset's clamp, either way (R30). -/
theorem Bank.clampOffset_eq (b : Bank) (x : Int) : b.clampOffset x = max (-b.offsetMax) (min b.offsetMax x) := by
  have ends : -b.offsetMax ≤ b.offsetMax := by unfold Bank.offsetMax; omega
  exact clampInt_eq_max_min ends x

/-- A difference's top 16 bits, read as signed, are the floor of the signed difference over 65536 (R38). -/
theorem jumpReading_eq (live hold : Angle) : jumpReading live hold = (live - hold).toInt / 65536 := by
  unfold jumpReading
  generalize live - hold = d
  have bound := d.isLt
  simp only [BitVec.toInt_eq_toNat_cond, BitVec.extractLsb'_toNat, Nat.shiftRight_eq_div_pow]
  omega

/-! ### The live part and the hold part -/

/-- The correlation sum phase by phase: the phases' angles are K120 apart (R25, R27). -/
theorem correlate_eq (angle turn : Angle) (supply : PerPhase Int) :
    correlate angle turn supply = supply.a * sineAt (angle + turn) + supply.b * sineAt (angle + 1431655765#32 + turn)
      + supply.c * sineAt (angle + 2863311530#32 + turn) := by
  have first : phaseAngle angle .a = angle := BitVec.add_zero angle
  change supply.a * sineAt (phaseAngle angle .a + turn) + _ + _ = _
  rw [first]
  rfl

/-- The hold part of an accepted cell with no commit since its acceptance leaves all but the held reference (R34, R35). -/
theorem Tracker.holdPart_accepted (b active : Bank) (follows : Bool) (t : Tracker) :
    t.holdPart b active follows true false
      = { t with
          hold := if follows then t.live else t.hold + BitVec.ofInt 32 (b.nominalStep + t.holdOffset)
          holdOffset := if follows then t.offset else t.holdOffset
          amplitudeRef := if follows then b.clampAmplitude t.amplitude else t.amplitudeRef } := by
  cases follows <;> rfl

/-- The tracker after an accepted cell's first stage, with no commit since its acceptance (R26, R34, R35). -/
theorem State.trackCell_tracker {s : State} {w : Work} (committed : w.commitDuring = false) :
    (s.trackCell w).tracker =
      { s.liveTracker w with
        hold :=
          if s.follows (s.settled w).monitor.sag then (s.liveTracker w).live
          else s.tracker.hold + BitVec.ofInt 32 (w.bank.nominalStep + s.tracker.holdOffset)
        holdOffset := if s.follows (s.settled w).monitor.sag then (s.liveTracker w).offset else s.tracker.holdOffset
        amplitudeRef :=
          if s.follows (s.settled w).monitor.sag then w.bank.clampAmplitude (s.liveTracker w).amplitude
          else s.tracker.amplitudeRef } := by
  change (s.liveTracker w).holdPart w.bank s.tables.active (s.follows (s.settled w).monitor.sag) true w.commitDuring = _
  rw [committed, Tracker.holdPart_accepted]
  rfl

/-- The follow condition fails outside ACQUIRING and NORMAL, and while a feeder is INJECTING or RELEASING (R34). -/
theorem State.not_follows_iff (s : State) (settled : SagState) :
    ¬ s.follows settled = true ↔ (settled ≠ .acquiring ∧ settled ≠ .normal)
      ∨ ∃ f, (s.engines.get f).state = .injecting ∨ (s.engines.get f).state = .releasing := by
  rw [State.follows_iff]
  simp only [not_and_or, not_or, not_forall, not_not, Ne]

section
variable (s : State) (w : Work)

/-- The lock is valid exactly when the estimate reaches the lock floor (R28). -/
theorem State.liveTracker_lock_iff :
    (s.liveTracker w).lock = true ↔ (w.bank.lockLevel : Int) ≤ (s.liveTracker w).amplitude := decide_eq_true_iff

/-- The live phase turns by the step, the offset and the admitted error, and a quarter cycle more while it acquires without a lock
(R29, R31). -/
theorem State.liveTracker_live :
    (s.liveTracker w).live
      = s.tracker.live + BitVec.ofInt 32 (w.bank.nominalStep + s.tracker.offset + w.bank.trackKp * (s.liveTracker w).admitted)
        + (if s.monitor.sag = .acquiring ∧ (s.liveTracker w).lock = false then 1073741824#32 else 0#32) := by
  have turned : (s.liveTracker w).live
      = if decide (s.monitor.sag = .acquiring) && !(s.liveTracker w).lock then
          s.tracker.live + BitVec.ofInt 32 (w.bank.nominalStep + s.tracker.offset
            + w.bank.trackKp * (s.liveTracker w).admitted) + 1073741824#32
        else s.tracker.live + BitVec.ofInt 32 (w.bank.nominalStep + s.tracker.offset
            + w.bank.trackKp * (s.liveTracker w).admitted) := rfl
  rw [turned]
  simp only [Bool.and_eq_true, decide_eq_true_eq, Bool.not_eq_true']
  split_ifs
  · rfl
  · exact (BitVec.add_zero _).symm

/-- F gains the admitted error's share, within its band (R30). -/
theorem State.liveTracker_offset :
    (s.liveTracker w).offset
      = w.bank.clampOffset (s.tracker.offset + w.bank.trackKi * (s.liveTracker w).admitted / 256) := rfl

/-- The jump reading is formed with a valid lock only, from the angles as they stood (R38). -/
theorem State.liveTracker_jump :
    (s.liveTracker w).jump
      = if (s.liveTracker w).lock then (s.tracker.live - s.tracker.hold).toInt / 65536 else s.tracker.jump := by
  rw [← jumpReading_eq]
  rfl

theorem State.liveTracker_quadrature : (s.liveTracker w).quadrature = quadratureError s.tracker.live w.sense.supply := rfl

theorem State.liveTracker_amplitude : (s.liveTracker w).amplitude = amplitudeEstimate s.tracker.live w.sense.supply := rfl

end

/-- Settles O13: the first stage's tracker is the live part with the held reference following or coasting. -/
theorem heldReferenceFollowsOrCoasts : Obligations.HeldReferenceFollowsOrCoasts := by
  unfold Obligations.HeldReferenceFollowsOrCoasts
  intro s w committed
  rw [State.trackCell_tracker committed]
  refine ⟨?follow, ?coast, s.liveTracker_lock_iff w, s.liveTracker_live w, ?offset, s.liveTracker_jump w, ?sums, ?handed⟩
  case follow =>
    intro quiet idle
    have follows := (s.follows_iff _).2 ⟨quiet, idle⟩
    simp only [follows, if_true, true_and]
    exact Bank.clampAmplitude_eq _ _
  case coast =>
    intro h
    have coasts := (s.not_follows_iff _).2 h
    exact ⟨if_neg coasts, if_neg coasts, if_neg coasts⟩
  case offset => exact (s.liveTracker_offset w).trans (w.bank.clampOffset_eq _)
  case sums =>
    intro sum hsum
    have correlated : ∀ turn, sum turn = correlate s.tracker.live turn w.sense.supply := fun turn => by
      rw [hsum, correlate_eq]
    rw [correlated, correlated]
    exact ⟨s.liveTracker_quadrature w, s.liveTracker_amplitude w⟩
  case handed => exact ⟨s.handOn w, rfl, rfl, rfl, rfl, decide_eq_true_iff⟩

end Sys2Proof.Machine
end

section
/-! A_ref stays in the active bank's band: what every operation keeps of it, and that every step does (R34, R37, R185, R190). -/
open Sys2Proof Sys2Proof.Machine
namespace Sys2Proof.Machine

/-! ### What every advance keeps, a cell's work keeps -/

section
variable {P : State → Prop} {s : State}

theorem State.advanceTo_keeps (advance : ∀ u, P u → P u.advance) (p : WorkPoint) (n : Nat) (h : P s) :
    P (State.advanceTo p n s) := by
  induction n generalizing s with
  | zero => exact h
  | succ n ih =>
    unfold State.advanceTo
    split
    · exact h
    · split
      · exact h
      · exact ih (advance s h)

theorem State.workTo_keeps (advance : ∀ u, P u → P u.advance) (p : WorkPoint) (h : P s) : P (s.workTo p) := by
  unfold State.workTo
  split
  · exact h
  · exact State.advanceTo_keeps advance p _ h

theorem State.toBetween_keeps (advance : ∀ u, P u → P u.advance) (h : P s) : P s.toBetween := by
  unfold State.toBetween
  split
  · exact h
  · exact State.workTo_keeps advance _ h

/-- A request's step keeps what its act does on the state that has taken the request. -/
theorem State.request_keeps (h : P s) (c : Command) {act : Request → State → State}
    (hact : ∀ r, s.nextRequest = some r → P (act r (s.take r))) : P (s.request c act) := by
  unfold State.request
  split
  · exact h
  · split
    · exact hact _ ‹_›
    · exact h

theorem State.requestBetween_keeps (h : P s) (c : Command) {act : Request → State → State}
    (hact : ∀ r, s.nextRequest = some r → P (act r (s.toBetween.take r))) : P (s.requestBetween c act) := by
  unfold State.requestBetween
  split
  · exact h
  · split
    · exact hact _ ‹_›
    · exact h

end

/-- The engine has a next request only where the loader runs no load (R193). -/
theorem State.nextRequest_loading {s : State} {r : Request} (h : s.nextRequest = some r) : s.loader.state.loading = false := by
  cases loading : s.loader.state.loading with
  | false => rfl
  | true => simp [State.nextRequest, loading] at h

/-! ### The band -/

/-- An amplitude lies in the bank's band (R37). -/
def Bank.holdsAmplitude (b : Bank) (a : Nat) : Prop := b.amplitudeLow ≤ a ∧ a ≤ b.amplitudeHigh

theorem Bank.holdsAmplitude_clamp (b : Bank) (x : Int) : b.holdsAmplitude (b.clampAmplitude x) := by
  have ends := b.amplitudeLow_le_high
  have clamped := b.clampAmplitude_eq x
  constructor <;> omega

/-- A reset's A_ref is the NOMINAL_PEAK itself, which lies in its band (R40). -/
theorem Bank.holdsAmplitude_reset (b : Bank) : b.holdsAmplitude (Tracker.reset b.nominalPeak).amplitudeRef := by
  change b.nominalPeak * 875 / 1000 ≤ b.nominalPeak ∧ b.nominalPeak ≤ b.nominalPeak * 1125 / 1000
  omega

/-- The hold part keeps A_ref in the active band, where the bank the cell reads is the active one or a commit took effect since
(R34, R35, R37). -/
theorem Tracker.holdPart_holdsAmplitude {b active : Bank} {t : Tracker} {committed : Bool}
    (h : active.holdsAmplitude t.amplitudeRef) (reads : committed = false → b = active) (follows accepted : Bool) :
    active.holdsAmplitude (t.holdPart b active follows accepted committed).amplitudeRef := by
  cases follows with
  | false => exact h
  | true =>
    cases committed with
    | true => exact active.holdsAmplitude_clamp _
    | false =>
      cases accepted with
      | false => exact h
      | true => exact reads rfl ▸ b.holdsAmplitude_clamp _

/-- What a cell's work reads of the banks: its own bank, and whether a commit took effect since its acceptance. -/
def Work.reads (w : Work) : Bank × Bool := (w.bank, w.commitDuring)

theorem Work.reads_barSync (w : Work) :
    Work.reads (if w.stage = .accepted then w else { w with syncBarred := true }) = w.reads := by
  split
  · rfl
  · rfl

theorem Work.reads_bypass (f : Feeder) (w : Work) : (w.bypass f).reads = w.reads := by
  unfold Work.bypass
  split
  · rfl
  · rfl

/-- A part out of reset with A_ref in its band, one field for each clause of the invariant. -/
structure Banded (s : State) : Prop where
  awake : s.inReset = false
  band : s.tables.active.holdsAmplitude s.tracker.amplitudeRef
  work : ∀ w, s.work = some w → w.commitDuring = false → w.bank = s.tables.active
  load : s.loader.state.loading = true → s.tables.active = Bank.default ∧ s.management.engine ≠ .deferred

theorem banded_iff (s : State) : Banded s ↔ s.inReset = false ∧ amplitudeInBand s := by
  constructor
  · rintro ⟨awake, ⟨low, high⟩, work, load⟩
    refine ⟨awake, low, high, work, fun h => load (h.resolve_left ?_)⟩
    simp [awake]
  · rintro ⟨awake, low, high, work, load⟩
    exact ⟨awake, ⟨low, high⟩, work, fun h => load (.inr h)⟩

@[simp] theorem State.buffer_engine (s : State) (r : Reply) : ((s.buffer r).management.engine = .deferred) = False := by
  unfold State.buffer
  split
  · simp only [State.chooseNext_management, Management.join]
    split <;> simp
  · simp [Management.hold]

@[simp] theorem State.answer_engine (s : State) (r : Request) (result : Result) (payload : List Word) :
    ((s.answer r result payload).management.engine = .deferred) = False := s.buffer_engine _

theorem Management.replyLeaves_engine {m : Management} (h : m.replyLeaves.engine = .deferred) : m.engine = .deferred := by
  unfold Management.replyLeaves at h
  split at h
  · exact h
  · dsimp only at h
    split at h <;> cases h

namespace Banded

variable {s : State}

/-- A state that differs in nothing the invariant speaks of, or that has left a load or a deferral, meets it too. Each difference
is settled by the operations' frame lemmas where it is not given. -/
theorem frame {t : State} (h : Banded s) (inReset : t.inReset = s.inReset := by simp)
    (amplitude : t.tracker.amplitudeRef = s.tracker.amplitudeRef := by simp)
    (active : t.tables.active = s.tables.active := by simp)
    (reads : t.work.map Work.reads = s.work.map Work.reads := by simp)
    (loading : t.loader.state.loading = true → s.loader.state.loading = true := by simp)
    (engine : t.management.engine = .deferred → s.management.engine = .deferred := by simp) : Banded t where
  awake := inReset.trans h.awake
  band := by rw [amplitude, active]; exact h.band
  work w hw committed := by
    rw [hw] at reads
    obtain ⟨v, hv, same⟩ := Option.map_eq_some_iff.1 reads.symm
    obtain ⟨bank, during⟩ := Prod.mk.inj same
    rw [active, ← bank]
    exact h.work v hv (during.trans committed)
  load hl := by
    obtain ⟨default, notDeferred⟩ := h.load (loading hl)
    exact ⟨active.trans default, mt engine notDeferred⟩

/-- A deferred commit waits outside a load only (R193). -/
theorem idle_of_deferred (h : Banded s) (deferred : s.management.engine = .deferred) : s.loader.state.loading = false := by
  cases loading : s.loader.state.loading with
  | false => rfl
  | true => exact absurd deferred (h.load loading).2

theorem buffer (h : Banded s) (r : Reply) : Banded (s.buffer r) := h.frame

theorem answer (h : Banded s) (r : Request) (result : Result) (payload : List Word) : Banded (s.answer r result payload) :=
  h.buffer _

theorem take (h : Banded s) (r : Request) : Banded (s.take r) := h.frame (engine := nofun)

/-! ### Commits, loads and resets -/

/-- A commit brings A_ref into the new bank's band, whatever it was (R37, R185). -/
theorem ofCommit {t : State} (s : State) (awake : t.inReset = false) (tracker : t.tracker = s.commitBank.tracker)
    (tables : t.tables = s.commitBank.tables) (work : t.work = s.commitBank.work)
    (idle : t.loader.state.loading = false) : Banded t where
  awake := awake
  band := by
    rw [tracker, tables]
    exact s.tables.shadow.holdsAmplitude_clamp _
  work w hw committed := by
    rw [work] at hw
    obtain ⟨v, -, rfl⟩ := Option.map_eq_some_iff.1 hw
    cases committed
  load loading := by simp [idle] at loading

theorem takeCommit (h : Banded s) (idle : s.loader.state.loading = false) (r : Request) : Banded (s.takeCommit r) := by
  refine ofCommit s ?_ ?_ ?_ ?_ ?_
  · rw [State.takeCommit_inReset, h.awake]
  all_goals simp [State.takeCommit, idle]

theorem autoEnlist (h : Banded s) : Banded s.autoEnlist := h.frame

theorem commitImage (h : Banded s) : Banded s.commitImage := autoEnlist (ofCommit s h.awake rfl rfl rfl rfl)

theorem failLoad (h : Banded s) (loading : s.loader.state.loading = true) (outcome : LoadOutcome) :
    Banded (s.failLoad outcome) := by
  have default := (h.load loading).1
  exact autoEnlist ⟨h.awake, default ▸ h.band, default ▸ h.work, nofun⟩

theorem loadImage (h : Banded s) (loading : s.loader.state.loading = true) : Banded s.loadImage := by
  unfold State.loadImage
  split
  · exact h.failLoad loading _
  · split
    · exact h.frame (t := s.passLoad _) rfl rfl rfl rfl (fun _ => loading) id
    · exact h.failLoad loading _

theorem readEnds (h : Banded s) (reading : s.loader.state = .reading) (a : MemoryAnswer) : Banded (s.readEnds a) := by
  have loading : s.loader.state.loading = true := by rw [reading]; rfl
  cases a with
  | silent => exact h.failLoad loading _
  | stored => exact h.loadImage loading
  | replaced bytes => exact loadImage (s := { s with memory := Memory.ofBytes bytes }) h.frame loading

theorem manageReset (s : State) : Banded s.manageReset := by
  have values : Banded s.manageValues := 
    ⟨rfl, s.tables.active.holdsAmplitude_reset, fun _ hw => (Option.some_ne_none _ hw.symm).elim, nofun⟩
  exact values.autoEnlist

theorem carryDue (h : Banded s) : Banded s.carryDue := by
  unfold State.carryDue
  split
  · exact h
  · exact manageReset s
  · exact h.commitImage

/-! ### The work of a cell -/

theorem ageCommit (h : Banded s) (zero : Bool) : Banded (s.ageCommit zero) := by
  by_cases deferred : s.management.engine = .deferred
  · have idle := h.idle_of_deferred deferred
    have older : Banded s.growOlder := h.frame (engine := id)
    rcases s.ageCommit_cases zero with ⟨r, e⟩ | ⟨r, e⟩ | e | e <;> rw [e]
    · exact older.takeCommit idle r
    · exact answer (s := s.growOlder.note _) older.frame _ _ _
    · exact older
    · exact h
  · rwa [State.ageCommit_of_ne deferred]

theorem waitImage (h : Banded s) : Banded s.waitImage := by
  rcases s.waitImage_cases with e | e <;> rw [e]
  · exact h.commitImage
  · exact h

theorem setEcho (h : Banded s) (r : Request) (on : Bool) : Banded (s.setEcho r on) := by
  unfold State.setEcho
  split
  · exact h.answer _ _ _
  · exact answer (by exact h.frame) _ _ _

theorem settleEcho (h : Banded s) : Banded s.settleEcho := by
  rcases s.settleEcho_cases with ⟨r, on, e⟩ | e <;> rw [e]
  · exact h.setEcho r on
  · exact h

theorem endCell (h : Banded s) (zero : Bool) : Banded (s.endCell zero) := (h.ageCommit zero).waitImage.settleEcho

theorem settleSwitch (h : Banded s) : Banded s.settleSwitch := by
  unfold State.settleSwitch
  split
  · exact h
  next w hw =>
    split
    · have cleared : Banded { s with work := some { w with switches := false } } := h.frame (reads := by rw [hw]; rfl)
      exact cleared.frame
    · exact h

theorem workMissing (h : Banded s) {w : Work} (hw : s.work = some w) : Banded (s.workMissing w) := by
  have reads := h.work w hw
  have band : s.tables.active.holdsAmplitude (s.passMissing w).tracker.amplitudeRef :=
    Tracker.holdPart_holdsAmplitude (t := s.liveAlone w) h.band reads (s.follows (s.monitorAlone w).sag) false
  have passed : Banded (s.passMissing w) := ⟨h.awake, band, fun v hv => Option.some.inj hv ▸ reads, h.load⟩
  exact endCell (s := (s.passMissing w).restartChecks) passed.frame _

theorem trackCell (h : Banded s) {w : Work} (hw : s.work = some w) : Banded (s.trackCell w) := by
  have reads := h.work w hw
  have band : s.tables.active.holdsAmplitude (s.trackCell w).tracker.amplitudeRef :=
    Tracker.holdPart_holdsAmplitude (t := s.liveTracker w) h.band reads (s.follows (s.settled w).monitor.sag) true
  exact ⟨h.awake, band, fun v hv => Option.some.inj hv ▸ reads, h.load⟩

theorem endWork (h : Banded s) : Banded s.endWork := 
  ⟨h.awake, h.band, fun _ hw => (Option.some_ne_none _ hw.symm).elim, h.load⟩

theorem finishCell (h : Banded s) (w : Work) : Banded (s.finishCell w) := by
  have sent : Banded ((((s.recordCell w).abandonChange w.bank).sendDrive (s.recordCell w).engines w).lateRestart w) := h.frame
  exact (sent.endCell w.zeroCrossing).endWork

theorem advance (h : Banded s) : Banded s.advance := by
  unfold State.advance
  split
  · exact h
  next w hw =>
    split
    · split
      · exact h.trackCell hw
      · exact (h.workMissing hw).settleSwitch
    · exact h.frame (reads := by rw [hw]; rfl)
    · exact h.frame (reads := by rw [hw]; rfl)
    · exact h.finishCell w

theorem workTo (h : Banded s) (p : WorkPoint) : Banded (s.workTo p) := State.workTo_keeps (fun _ hu => hu.advance) p h

theorem finishWork (h : Banded s) : Banded s.finishWork := h.workTo _

theorem comesAbout (x : Occurrence) (h : Banded s) : Banded (State.comesAbout x s) := by
  have cleared : Banded { s with came := [] } := h.frame
  unfold State.comesAbout
  split
  · exact cleared.finishWork
  · exact h

/-! ### Arriving cells and the links -/

theorem count (h : Banded s) (k : LinkCounter) (n : Nat) : Banded (s.count k n) := h.frame

theorem latch (h : Banded s) (k : DeviceFlag) : Banded (s.latch k) := h.frame

theorem dropped (h : Banded s) (k : LinkCounter) (d : DeviceFlag) : Banded ((s.count k 1).latch d) := (h.count k 1).latch d

theorem accept (h : Banded s) (c : Sense) (missing : Nat) (breaks switches : Bool) :
    Banded (s.accept c missing breaks switches) := by
  have entered : Banded (s.enterCell c missing breaks switches) := by
    rw [State.enterCell_eq]
    exact ⟨h.awake, h.band, fun v hv _ => Option.some.inj hv ▸ rfl, h.load⟩
  exact entered.settleSwitch

theorem arriveSense (h : Banded s) (words : List Word) : Banded (s.arriveSense words) := by
  unfold State.arriveSense
  dsimp only
  split
  · exact h.dropped _ _
  · split
    · unfold State.checkSequence
      split
      · exact h.accept _ _ _ _
      · exact h.count _ _
      · exact h.accept _ _ _ _
    · exact h.dropped _ _

theorem offer (h : Banded s) (r : Request) : Banded (s.offer r) := by
  unfold State.offer
  split
  · exact h.take r
  · split
    · exact h.frame
    · exact h.frame

theorem arrive (h : Banded s) (words : List Word) : Banded (s.arrive words) := by
  unfold State.arrive
  split
  · split
    · split
      · exact h.arriveSense words
      · split
        · unfold State.arriveManage
          split
          · exact h.offer _
          · exact h.dropped _ _
        · exact h.dropped _ _
    · exact h.dropped _ _
  · exact h.dropped _ _

theorem quietEntry (h : Banded s) : Banded s.quietEntry := by
  have blocks : Banded s.quietBlocks := by
    unfold State.quietBlocks
    exact h.frame
  rw [State.quietEntry_eq]
  by_cases deferred : s.quietBlocks.management.engine = .deferred
  · rcases s.quietBlocks.quietCommit_cases with e | ⟨r, e⟩ <;> rw [e]
    · exact blocks
    · exact blocks.takeCommit (blocks.idle_of_deferred deferred) r
  · rwa [State.quietCommit_waits (.inl deferred)]

theorem selfTimed (h : Banded s) : Banded s.selfTimed := by
  unfold State.selfTimed
  exact h.frame

theorem driveSent (h : Banded s) : Banded s.driveSent := by
  unfold State.driveSent
  split
  · exact h.frame
  · exact h
  · exact h

theorem replySent (h : Banded s) : Banded s.replySent := by
  unfold State.replySent
  split
  · split
    · exact h.frame (engine := Management.replyLeaves_engine)
    · exact h.frame (engine := Management.replyLeaves_engine)
  · exact h
  · exact h

/-! ### The requests -/

theorem refuseMalformed (h : Banded s) : Banded s.refuseMalformed := by
  unfold State.refuseMalformed
  split
  · exact h
  · split
    · exact (h.take _).answer _ _ _
    · exact h

theorem readSetting (r : Request) (h : Banded s) : Banded (s.readSetting r) := by
  unfold State.readSetting
  split
  · exact h.answer _ _ _
  · split
    · exact h.answer _ _ _
    · exact h.answer _ _ _

/-- A write changes the shadow bank only (R175). -/
theorem settleWrite (r : Request) (w : Written) (h : Banded s) : Banded (s.settleWrite r w) := by
  cases w with
  | refused result => exact h.answer _ _ _
  | stored bank result payload => exact answer (by exact h.frame) r result payload

theorem defer (h : Banded s) (idle : s.loader.state.loading = false) : Banded s.defer :=
  ⟨h.awake, h.band, h.work, fun loading => absurd (idle.symm.trans loading) Bool.false_ne_true⟩

theorem commitNow (r : Request) (h : Banded s) (idle : s.loader.state.loading = false) : Banded (s.commitNow r) := by
  unfold State.commitNow
  split
  · exact h.answer _ _ _
  · split
    · exact takeCommit (s := { s with management := { s.management with deferralAge := 0 } }) h.frame idle r
    · exact h.defer idle

theorem commitSync (r : Request) (h : Banded s) (idle : s.loader.state.loading = false) : Banded (s.commitSync r) := by
  unfold State.commitSync
  split
  · exact h.answer _ _ _
  · refine (h.defer idle).frame (reads := ?_)
    simp only [State.barSync, Option.map_map]
    exact congrArg (fun g => s.work.map g) (funext Work.reads_barSync)

theorem forFeeder (r : Request) {act : Feeder → State} (h : Banded s) (hact : ∀ f, Banded (act f)) :
    Banded (s.forFeeder r act) := by
  unfold State.forFeeder
  split
  · exact hact _
  · exact h.answer _ _ _

theorem acceptChange (r : Request) (map : List Feeder) (after : PerFeeder Engine) (h : Banded s) :
    Banded (s.acceptChange r map after) :=
  answer (s := (s.announce _ _).moveEngines after) h.frame _ _ _

theorem enlist (r : Request) (f : Feeder) (h : Banded s) : Banded (s.enlist r f) := by
  unfold State.enlist
  split
  · split
    · split
      · exact h.acceptChange _ _ _
      · exact h.answer _ _ _
    · exact h.answer _ _ _
  · exact h.answer _ _ _

theorem retire (r : Request) (f : Feeder) (h : Banded s) : Banded (s.retire r f) := by
  unfold State.retire
  split
  · exact h.answer _ _ _
  · split
    · split
      · exact h.acceptChange _ _ _
      · exact h.answer _ _ _
    · exact h.answer _ _ _

theorem forceBypass (r : Request) (f : Feeder) (h : Banded s) : Banded (s.forceBypass r f) := by
  have locked : Banded (s.lockFeeder f) := by
    refine h.frame (reads := ?_)
    simp only [State.lockFeeder, State.bypassWork, State.moveEngines_work, Option.map_map]
    exact congrArg (fun g => s.work.map g) (funext (Work.reads_bypass f))
  unfold State.forceBypass
  split
  · exact answer (s := (s.lockFeeder f).setOperator f) locked.frame _ _ _
  · split
    · exact answer (s := s.setOperator f) h.frame _ _ _
    · exact h.answer _ _ _

theorem writeCounter (r : Request) (h : Banded s) : Banded (s.writeCounter r) := by
  unfold State.writeCounter
  split
  · exact h.answer _ _ _
  · exact answer (by exact h.frame) _ _ _

theorem readEvent (r : Request) (h : Banded s) : Banded (s.readEvent r) := by
  unfold State.readEvent
  split
  · exact h.answer _ _ _
  · exact h.answer _ _ _

theorem releaseEvent (r : Request) (h : Banded s) : Banded (s.releaseEvent r) := by
  unfold State.releaseEvent
  split
  · exact answer (s := s.dropOldest) h.frame _ _ _
  · exact h.answer _ _ _

theorem echoRequest (r : Request) (h : Banded s) : Banded (s.echoRequest r) := by
  unfold State.echoRequest
  split
  · split
    · exact h.setEcho _ _
    · exact h.frame
  · exact h.answer _ _ _

/-- Writing an image is no load (R193). -/
theorem saveImage (h : Banded s) : Banded s.saveImage := h.frame (loading := nofun) (engine := nofun)

theorem endSave (result : Result) (h : Banded s) : Banded (s.endSave result) := by
  have stopped : Banded s.stopWriting := h.frame (loading := nofun)
  unfold State.endSave
  split
  · exact stopped.answer _ _ _
  · exact stopped

theorem pageWritten (h : Banded s) : Banded s.pageWritten := by
  have stored : ∀ x rest, Banded (s.storePage x rest) := fun x rest => h.frame (loading := id)
  unfold State.pageWritten
  split
  · exact h
  · split
    · exact (stored _ _).endSave _
    · exact stored _ _

/-! ### Every command and every step -/

theorem ite {c : Prop} [Decidable c] {t : State} (hs : c → Banded s) (ht : Banded t) : Banded (if c then s else t) := by
  split
  · exact hs ‹_›
  · exact ht

/-- A command acts on a part out of reset that has carried out what was due; a part held in reset stays as it is. -/
theorem ready {s t : State} (h : amplitudeInBand s) {act : State → State} (hact : ∀ u, Banded u → Banded (act u))
    (e : (Host.Outcome.next (s.ready act) : Host.Outcome State Fault Refusal) = .next t) : amplitudeInBand t := by
  obtain rfl := Host.Outcome.next.inj e
  unfold State.ready
  split
  · exact h
  next awake =>
    have banded := (banded_iff s).2 ⟨by simpa using awake, h⟩
    exact ((banded_iff _).1 (hact _ banded.carryDue)).2

/-- The same for a request, whose act finds no load under way. -/
theorem readyRequest {s t : State} (h : amplitudeInBand s) (c : Command) {act : Request → State → State}
    (hact : ∀ r u, Banded u → u.loader.state.loading = false → Banded (act r u))
    (e : (Host.Outcome.next (s.ready fun u => u.request c act) : Host.Outcome State Fault Refusal) = .next t) :
    amplitudeInBand t :=
  ready h (fun u hu => State.request_keeps hu c fun r hr =>
    hact r _ (hu.take r) (State.nextRequest_loading (s := u) hr)) e

/-- The same for a request carried out between cells. -/
theorem readyBetween {s t : State} (h : amplitudeInBand s) (c : Command) {act : Request → State → State}
    (hact : ∀ r u, Banded u → Banded (act r u))
    (e : (Host.Outcome.next (s.ready fun u => u.requestBetween c act) : Host.Outcome State Fault Refusal) = .next t) :
    amplitudeInBand t :=
  ready h (fun _ hu => State.requestBetween_keeps hu c fun r _ =>
    hact r _ ((State.toBetween_keeps (fun _ hv => hv.advance) hu).take r)) e

theorem powerOn (s : State) : amplitudeInBand s.powerOn :=
  have band := Bank.default.holdsAmplitude_reset
  have idle : EngineState.idle ≠ .deferred := by decide
  ⟨band.1, band.2, fun _ hw => (Option.some_ne_none _ hw.symm).elim, fun _ => ⟨rfl, idle⟩⟩

/-- Until a load has ended the active bank is the default one, so the load that a release begins finds it so (R190). -/
theorem release {s : State} (h : amplitudeInBand s) (held : s.inReset = true) (straps : BitVec 2) :
    amplitudeInBand (s.release straps) := by
  obtain ⟨low, high, work, load⟩ := h
  exact ⟨low, high, work, fun _ => load (.inl held)⟩

theorem resetRelease {s : State} (h : amplitudeInBand s) (straps : BitVec 2) :
    amplitudeInBand (if s.inReset then s.release straps else s.carryDue) := by
  split
  next held => exact release h held straps
  next awake => exact ((banded_iff _).1 ((banded_iff s).2 ⟨by simpa using awake, h⟩).carryDue).2

theorem exec {c : Instr} {s t : State} (h : amplitudeInBand s) (e : exec c s = .next t) : amplitudeInBand t := by
  cases c
  case cellArrival words p => exact ready h (fun _ hu => (hu.finishWork.arrive words).workTo p) e
  case acquireEnd | confirmation | classificationPoint | eventEnd | burstTimerExpiry | releaseEnd | pathCheckVerdict
      | verifyFailure | mapChangeAbandon | commitTakesEffect | commitExpired | imageCommit =>
    exact ready h (fun _ => comesAbout _) e
  case quietTimerExpiry => exact ready h (fun _ hu => ite (fun _ => hu.finishWork.quietEntry) hu) e
  case selfTimedCell => exact ready h (fun _ hu => ite (fun _ => hu.selfTimed) hu) e
  case driveCellSent => exact ready h (fun _ => driveSent) e
  case replySent => exact ready h (fun _ => replySent) e
  case malformed => exact ready h (fun _ => refuseMalformed) e
  case enquire => exact readyRequest h _ (fun r u hu _ => answer (s := { u with flags := u.flags.clearChange }) hu.frame r _ _) e
  case readSetting => exact readyRequest h _ (fun r _ hu _ => readSetting r hu) e
  case writeSetting | loadEnvelope | loadResponse => exact readyRequest h _ (fun r _ hu _ => settleWrite r _ hu) e
  case commitNow => exact readyRequest h _ (fun r _ => commitNow r) e
  case commitSync => exact readyRequest h _ (fun r _ => commitSync r) e
  case discardShadow => exact readyRequest h _ (fun r _ hu _ => answer (by exact hu.frame) r _ _) e
  case enlist => exact readyBetween h _ (fun r _ hu => hu.forFeeder r fun f => hu.enlist r f) e
  case retire => exact readyBetween h _ (fun r _ hu => hu.forFeeder r fun f => hu.retire r f) e
  case forceBypass => exact readyRequest h _ (fun r _ hu _ => hu.forFeeder r fun f => hu.forceBypass r f) e
  case clearFlags => exact readyRequest h _ (fun r u hu _ => answer (s := (u.unlatch _).lockoutExit) hu.frame r _ _) e
  case setReport => exact readyRequest h _ (fun r _ hu _ => answer (by exact hu.frame) r _ _) e
  case readCounters | readLive => exact readyRequest h _ (fun r _ hu _ => hu.answer r _ _) e
  case writeCounter => exact readyRequest h _ (fun r _ hu _ => writeCounter r hu) e
  case readEvent => exact readyRequest h _ (fun r _ hu _ => readEvent r hu) e
  case releaseEvent => exact readyRequest h _ (fun r _ hu _ => releaseEvent r hu) e
  case setEcho => exact readyRequest h _ (fun r _ hu _ => echoRequest r hu) e
  case saveImage => exact readyRequest h _ (fun _ _ hu _ => hu.saveImage) e
  case savePageAck => exact ready h (fun _ hu => ite (fun _ => hu.pageWritten) hu) e
  case savePollTimeout => exact ready h (fun _ hu => ite (fun _ => hu.endSave _) hu) e
  case deviceReset => exact readyRequest h _ (fun _ _ hu _ => hu.buffer _) e
  case managementReset => exact ready h (fun _ hu => hu) e
  case powerOnReset => exact Host.Outcome.next.inj e ▸ powerOn s
  case resetRelease straps => exact Host.Outcome.next.inj e ▸ resetRelease h straps
  case imageReadComplete a => exact ready h (fun _ hu => ite (fun reading => hu.readEnds reading a) hu) e

theorem step {s t : State} (h : amplitudeInBand s) (e : step s = .next t) : amplitudeInBand t := by
  cases hp : s.pending with
  | nil => exact ready h (fun _ => finishWork) (step_of_nil hp ▸ e)
  | cons c rest => exact exec (s := { s with pending := rest }) h (step_of_cons hp ▸ e)

end Banded

/-- Settles O55: every operation out of reset keeps A_ref in the band and the bank clauses, and a part held in reset leaves it by a
release alone. -/
theorem everyStepKeepsAmplitudeInBand : Obligations.EveryStepKeepsAmplitudeInBand := fun _ _ => Banded.step

end Sys2Proof.Machine
end

section
/-! Each S_p stays the sum of the squares of its window: what the Sag Monitor's work keeps of it, and that every step does (R42,
R44, R58, R59). -/
open Sys2Proof Sys2Proof.Machine
namespace Sys2Proof.Machine

/-! ### The Sag Monitor's windows -/

/-- Every window's sum is that of its samples' squares (R42). -/
def Monitor.exact (m : Monitor) : Prop := ∀ p, (m.window p).exact

theorem windowSumsExact_iff (s : State) : windowSumsExact s ↔ s.monitor.exact := Iff.rfl

/-- What is measured of the samples: the windows with their sums, and the retained voltages (R42, R43). -/
def Monitor.readings (m : Monitor) : PerPhase (List Int) × PerPhase Nat × PerPhase Nat × Nat :=
  (m.windows, m.sums, m.retained, m.minRetained)

theorem Monitor.readings_eq_iff (m n : Monitor) :
    n.readings = m.readings
      ↔ n.windows = m.windows ∧ n.sums = m.sums ∧ n.retained = m.retained ∧ n.minRetained = m.minRetained := by
  simp only [Monitor.readings, Prod.mk.injEq]

theorem Monitor.exact.congr {m n : Monitor} (h : m.exact) (windows : n.windows = m.windows) (sums : n.sums = m.sums) :
    n.exact := by
  unfold Monitor.exact Monitor.window
  rwa [windows, sums]

theorem Monitor.exact_setWindows (m : Monitor) {w : PerPhase Window} (h : ∀ p, (w.get p).exact) : (m.setWindows w).exact :=
  fun p => (m.window_setWindows w p).symm ▸ h p

theorem Monitor.exact_emptyWindows (m : Monitor) : m.emptyWindows.exact := fun p => by cases p <;> rfl

theorem Monitor.exact_reset : Monitor.reset.exact := fun p => by cases p <;> rfl

theorem Monitor.exact.repeatSamples {m : Monitor} (h : m.exact) (b : Bank) : (m.repeatSamples b).exact :=
  fun p => Monitor.repeatSamples_exact (h p)

/-- Each window's sample joins it in an accepted cell (R42). -/
theorem Monitor.joinSamples_window (b : Bank) (supply : PerPhase Int) (m : Monitor) (p : Phase) :
    (m.joinSamples b supply).window p = (m.window p).join b.halfWindow (supply.get p) := by
  cases p <;> rfl

theorem Monitor.exact.joinSamples {m : Monitor} (h : m.exact) (b : Bank) (supply : PerPhase Int) :
    (m.joinSamples b supply).exact := fun p => by
  rw [Monitor.joinSamples_window]
  exact (h p).join _ _

/-- A commit trims the windows (R44). -/
theorem Monitor.exact.commit {m : Monitor} (h : m.exact) (b : Bank) : (m.commit b).exact := by
  refine Monitor.exact_setWindows m fun p => ?_
  rw [PerPhase.get_build]
  exact (h p).trim _

theorem Monitor.exact.workMissing {m : Monitor} (h : m.exact) (b : Bank) : (m.workMissing b).exact := by
  rw [Monitor.workMissing_eq]
  exact (h.repeatSamples b).congr rfl rfl

/-- The windows of an accepted cell begin empty at a link return (R58). -/
def Monitor.started (linkReturn : Bool) (m : Monitor) : Monitor := if linkReturn then m.linkReturn else m

/-- The monitor's measures for an accepted cell: each sample joins its window, and the counts advance (R41). -/
theorem Monitor.measure_eq (b : Bank) (linkReturn : Bool) (supply : PerPhase Int) (m : Monitor) :
    m.measure b linkReturn supply = { m with
      acquireCount := if linkReturn then 0 else m.acquireCount
      windows := ((m.started linkReturn).joinSamples b supply).windows
      sums := ((m.started linkReturn).joinSamples b supply).sums
      retained := ((m.started linkReturn).joinSamples b supply).retained
      minRetained := ((m.started linkReturn).joinSamples b supply).minRetained
      burstTimer := m.burstTimer - 1
      elapsed := if m.sag = .sag ∨ m.sag = .recovering then min 65535 (m.elapsed + 1) else m.elapsed } := by
  rw [Monitor.measure, Monitor.countElapsed_eq]
  cases linkReturn <;> rfl

/-- What is measured for an accepted cell is what its samples make of the windows. -/
theorem Monitor.measure_readings (b : Bank) (linkReturn : Bool) (supply : PerPhase Int) (m : Monitor) :
    (m.measure b linkReturn supply).readings = ((m.started linkReturn).joinSamples b supply).readings := by
  rw [Monitor.measure_eq]
  rfl

/-! ### The settling of the sag state leaves what is measured -/

/-- Publishing changes the published class alone (R52). -/
theorem Monitor.publish_eq (b : Bank) (m : Monitor) :
    m.publish b = { m with published := if m.classified then some (classOf b m.worst) else m.published } := by
  unfold Monitor.publish
  split <;> rfl

theorem Monitor.settleSag_readings (b : Bank) (jump : Int) (m : Monitor) :
    (m.settleSag b jump).monitor.readings = m.readings := by
  unfold Monitor.settleSag
  simp only [Monitor.publish_eq]
  split
  · split <;> rfl
  · rfl

theorem Monitor.settleRecovering_readings (b : Bank) (jump : Int) (m : Monitor) :
    (m.settleRecovering b jump).monitor.readings = m.readings := by
  unfold Monitor.settleRecovering
  simp only [Monitor.publish_eq]
  split
  · split <;> rfl
  · rfl

/-- The sag state is settled from what is measured, which stands (section 3.4). -/
theorem Monitor.settle_readings (b : Bank) (deviates : Bool) (jump : Int) (m : Monitor) :
    (m.settle b deviates jump).monitor.readings = m.readings := by
  unfold Monitor.settle
  split
  · rfl
  · unfold Monitor.settleNormal
    split
    · split <;> rfl
    · rfl
  · unfold Monitor.settleSuspect
    split
    · split <;> rfl
    · rfl
  · exact m.settleSag_readings b jump
  · exact m.settleRecovering_readings b jump

theorem Monitor.workAccepted_readings (b : Bank) (linkReturn : Bool) (supply : PerPhase Int) (amplitudeRef : Nat) (hold : Angle)
    (jump : Int) (m : Monitor) :
    (m.workAccepted b linkReturn supply amplitudeRef hold jump).monitor.readings
      = ((m.started linkReturn).joinSamples b supply).readings :=
  (Monitor.settle_readings _ _ _ _).trans (m.measure_readings b linkReturn supply)

/-- The monitor's work on an accepted cell keeps the sums exact; at a link return they begin exact, whatever they were (R42,
R58). -/
theorem Monitor.exact.workAccepted {m : Monitor} {linkReturn : Bool} (h : (m.started linkReturn).exact) (b : Bank)
    (supply : PerPhase Int) (amplitudeRef : Nat) (hold : Angle) (jump : Int) :
    (m.workAccepted b linkReturn supply amplitudeRef hold jump).monitor.exact := by
  obtain ⟨windows, sums, -⟩ := (Monitor.readings_eq_iff _ _).1 (m.workAccepted_readings b linkReturn supply amplitudeRef hold jump)
  exact (h.joinSamples b supply).congr windows sums

theorem Monitor.exact.started {m : Monitor} (h : m.exact) (linkReturn : Bool) : (m.started linkReturn).exact := by
  cases linkReturn with
  | true => exact m.exact_emptyWindows
  | false => exact h

/-! ### Operations that leave the monitor -/

section
variable (s : State)

@[simp] theorem State.offer_monitor (r : Request) : (s.offer r).monitor = s.monitor := by
  unfold State.offer
  split
  · rfl
  · split <;> rfl

@[simp] theorem State.accept_monitor (c : Sense) (missing : Nat) (breaks switches : Bool) :
    (s.accept c missing breaks switches).monitor = s.monitor := by
  rw [State.accept, State.settleSwitch_monitor, State.enterCell_eq]

@[simp] theorem State.checkSequence_monitor (c : Sense) (switches : Bool) : (s.checkSequence c switches).monitor = s.monitor := by
  unfold State.checkSequence
  split
  · simp
  · rfl
  · simp

/-- An arrival leaves the monitor, which works the cell later (R11). -/
@[simp] theorem State.arrive_monitor (words : List Word) : (s.arrive words).monitor = s.monitor := by
  have sense : (s.arriveSense words).monitor = s.monitor := by
    unfold State.arriveSense
    dsimp only
    split
    · rfl
    · split
      · simp
      · rfl
  have manage : (s.arriveManage words).monitor = s.monitor := by
    unfold State.arriveManage
    split
    · simp
    · rfl
  unfold State.arrive
  split
  · split
    · split
      · exact sense
      · split
        · exact manage
        · rfl
    · rfl
  · rfl

@[simp] theorem State.selfTimed_monitor : s.selfTimed.monitor = s.monitor := rfl

@[simp] theorem State.driveSent_monitor : s.driveSent.monitor = s.monitor := by
  unfold State.driveSent
  split <;> rfl

@[simp] theorem State.replySent_monitor : s.replySent.monitor = s.monitor := by
  unfold State.replySent
  split
  · split <;> rfl
  · rfl
  · rfl

@[simp] theorem State.refuseMalformed_monitor : s.refuseMalformed.monitor = s.monitor := by
  unfold State.refuseMalformed
  split
  · rfl
  · split
    · simp
    · rfl

@[simp] theorem State.enquire_monitor (r : Request) : (s.enquire r).monitor = s.monitor := by simp [State.enquire]

@[simp] theorem State.readSetting_monitor (r : Request) : (s.readSetting r).monitor = s.monitor := by
  unfold State.readSetting
  split
  · simp
  · split <;> simp

@[simp] theorem State.settleWrite_monitor (r : Request) (w : Written) : (s.settleWrite r w).monitor = s.monitor := by
  cases w <;> simp [State.settleWrite]

@[simp] theorem State.writeCounter_monitor (r : Request) : (s.writeCounter r).monitor = s.monitor := by
  unfold State.writeCounter
  split <;> simp

@[simp] theorem State.clearFlags_monitor (r : Request) : (s.clearFlags r).monitor = s.monitor := by simp [State.clearFlags]

@[simp] theorem State.readEvent_monitor (r : Request) : (s.readEvent r).monitor = s.monitor := by
  unfold State.readEvent
  split <;> simp

@[simp] theorem State.releaseEvent_monitor (r : Request) : (s.releaseEvent r).monitor = s.monitor := by
  unfold State.releaseEvent
  split <;> simp

@[simp] theorem State.echoRequest_monitor (r : Request) : (s.echoRequest r).monitor = s.monitor := by
  unfold State.echoRequest
  split
  · split <;> simp
  · simp

@[simp] theorem State.commitSync_monitor (r : Request) : (s.commitSync r).monitor = s.monitor := by
  unfold State.commitSync
  split <;> simp

theorem State.forFeeder_monitor (r : Request) {act : Feeder → State} (h : ∀ f, (act f).monitor = s.monitor) :
    (s.forFeeder r act).monitor = s.monitor := by
  unfold State.forFeeder
  split
  · exact h _
  · simp

@[simp] theorem State.acceptChange_monitor (r : Request) (map : List Feeder) (after : PerFeeder Engine) :
    (s.acceptChange r map after).monitor = s.monitor := by simp [State.acceptChange]

@[simp] theorem State.enlist_monitor (r : Request) (f : Feeder) : (s.enlist r f).monitor = s.monitor := by
  unfold State.enlist
  repeat' split
  all_goals simp

@[simp] theorem State.retire_monitor (r : Request) (f : Feeder) : (s.retire r f).monitor = s.monitor := by
  unfold State.retire
  repeat' split
  all_goals simp

@[simp] theorem State.forceBypass_monitor (r : Request) (f : Feeder) : (s.forceBypass r f).monitor = s.monitor := by
  unfold State.forceBypass
  repeat' split
  all_goals simp

@[simp] theorem State.endSave_monitor (result : Result) : (s.endSave result).monitor = s.monitor := by
  unfold State.endSave
  split <;> simp

@[simp] theorem State.pageWritten_monitor : s.pageWritten.monitor = s.monitor := by
  unfold State.pageWritten
  split
  · rfl
  · split <;> simp

@[simp] theorem State.failLoad_monitor (outcome : LoadOutcome) : (s.failLoad outcome).monitor = s.monitor := by
  simp [State.failLoad]

@[simp] theorem State.loadImage_monitor : s.loadImage.monitor = s.monitor := by
  unfold State.loadImage
  split
  · simp
  · split
    · rfl
    · simp

@[simp] theorem State.readEnds_monitor (a : MemoryAnswer) : (s.readEnds a).monitor = s.monitor := by
  cases a <;> simp [State.readEnds]

end

/-! ### Operations that change the monitor -/

/-- The sums of a state's windows are exact. -/
structure SumsExact (s : State) : Prop where
  monitor : s.monitor.exact

namespace SumsExact

variable {s : State}

theorem frame {t : State} (h : SumsExact s) (monitor : t.monitor = s.monitor := by simp) : SumsExact t :=
  ⟨monitor ▸ h.monitor⟩

theorem commitBank (h : SumsExact s) : SumsExact s.commitBank := ⟨h.monitor.commit s.tables.shadow⟩

theorem takeCommit (h : SumsExact s) (r : Request) : SumsExact (s.takeCommit r) :=
  h.commitBank.frame (by rw [State.takeCommit, State.answer_monitor]; rfl)

theorem commitImage (h : SumsExact s) : SumsExact s.commitImage :=
  h.commitBank.frame (by rw [State.commitImage, State.autoEnlist_monitor])

theorem powerOn (s : State) : SumsExact s.powerOn := ⟨Monitor.exact_reset⟩

theorem carryDue (h : SumsExact s) : SumsExact s.carryDue := by
  have reset : SumsExact s.manageValues := ⟨Monitor.exact_reset⟩
  unfold State.carryDue
  split
  · exact h
  · exact reset.frame (State.autoEnlist_monitor _)
  · exact h.commitImage

theorem endCell (h : SumsExact s) (zero : Bool) : SumsExact (s.endCell zero) := by
  have aged : SumsExact (s.ageCommit zero) := by
    rcases s.ageCommit_cases zero with ⟨r, e⟩ | ⟨r, e⟩ | e | e <;> rw [e]
    · exact takeCommit (s := s.growOlder) h.frame r
    · exact h.frame
    · exact h.frame
    · exact h
  have waited : SumsExact (s.ageCommit zero).waitImage := by
    rcases (s.ageCommit zero).waitImage_cases with e | e <;> rw [e]
    · exact aged.commitImage
    · exact aged
  exact waited.frame (State.settleEcho_monitor _)

theorem workMissing (h : SumsExact s) (w : Work) : SumsExact (s.workMissing w) :=
  endCell (s := (s.passMissing w).restartChecks) ⟨h.monitor.workMissing w.bank⟩ _

theorem trackCell (h : SumsExact s) (w : Work) : SumsExact (s.trackCell w) :=
  ⟨Monitor.exact.workAccepted (h.monitor.started w.linkReturn) _ _ _ _ _⟩

theorem finishCell (h : SumsExact s) (w : Work) : SumsExact (s.finishCell w) := by
  have sent : SumsExact ((((s.recordCell w).abandonChange w.bank).sendDrive (s.recordCell w).engines w).lateRestart w) := h.frame
  exact (sent.endCell w.zeroCrossing).frame (State.endWork_monitor _)

theorem advance (h : SumsExact s) : SumsExact s.advance := by
  unfold State.advance
  split
  · exact h
  · split
    · split
      · exact h.trackCell _
      · exact (h.workMissing _).frame (State.settleSwitch_monitor _)
    · exact h.frame
    · exact h.frame
    · exact h.finishCell _

theorem workTo (h : SumsExact s) (p : WorkPoint) : SumsExact (s.workTo p) := State.workTo_keeps (fun _ hu => hu.advance) p h

theorem finishWork (h : SumsExact s) : SumsExact s.finishWork := h.workTo _

theorem comesAbout (x : Occurrence) (h : SumsExact s) : SumsExact (State.comesAbout x s) := by
  unfold State.comesAbout
  split
  · exact finishWork (s := { s with came := [] }) h.frame
  · exact h

theorem quietEntry (h : SumsExact s) : SumsExact s.quietEntry := by
  have blocks : SumsExact s.quietBlocks := by
    refine ⟨?_⟩
    rw [State.quietBlocks_monitor]
    exact h.monitor.congr rfl rfl
  rw [State.quietEntry_eq]
  rcases s.quietBlocks.quietCommit_cases with e | ⟨r, e⟩ <;> rw [e]
  · exact blocks
  · exact blocks.takeCommit r

theorem commitNow (r : Request) (h : SumsExact s) : SumsExact (s.commitNow r) := by
  unfold State.commitNow
  split
  · exact h.frame
  · split
    · exact takeCommit (s := { s with management := { s.management with deferralAge := 0 } }) h.frame r
    · exact h.frame

/-! ### Every command and every step -/

theorem ite {c : Prop} [Decidable c] {t : State} (hs : SumsExact s) (ht : SumsExact t) : SumsExact (if c then s else t) := by
  split
  · exact hs
  · exact ht

/-- A command acts on a state that has carried out what was due. -/
theorem ready {t : State} (h : SumsExact s) {act : State → State} (hact : ∀ u, SumsExact u → SumsExact (act u))
    (e : (Host.Outcome.next (s.ready act) : Host.Outcome State Fault Refusal) = .next t) : SumsExact t := by
  obtain rfl := Host.Outcome.next.inj e
  unfold State.ready
  split
  · exact h
  · exact hact _ h.carryDue

theorem readyRequest {t : State} (h : SumsExact s) (c : Command) {act : Request → State → State}
    (hact : ∀ r u, SumsExact u → SumsExact (act r u))
    (e : (Host.Outcome.next (s.ready fun u => u.request c act) : Host.Outcome State Fault Refusal) = .next t) : SumsExact t :=
  h.ready (fun u hu => State.request_keeps hu c fun r _ => hact r _ (hu.frame (State.take_monitor u r))) e

theorem readyBetween {t : State} (h : SumsExact s) (c : Command) {act : Request → State → State}
    (hact : ∀ r u, SumsExact u → SumsExact (act r u))
    (e : (Host.Outcome.next (s.ready fun u => u.requestBetween c act) : Host.Outcome State Fault Refusal) = .next t) :
    SumsExact t :=
  h.ready (fun _ hu => State.requestBetween_keeps hu c fun r _ =>
    hact r _ ((State.toBetween_keeps (fun _ hv => hv.advance) hu).frame (State.take_monitor _ r))) e

theorem exec {c : Instr} {t : State} (h : SumsExact s) (e : exec c s = .next t) : SumsExact t := by
  cases c
  case cellArrival words p =>
    exact h.ready (fun _ hu => (hu.finishWork.frame (State.arrive_monitor _ words)).workTo p) e
  case acquireEnd | confirmation | classificationPoint | eventEnd | burstTimerExpiry | releaseEnd | pathCheckVerdict
      | verifyFailure | mapChangeAbandon | commitTakesEffect | commitExpired | imageCommit =>
    exact h.ready (fun _ => comesAbout _) e
  case quietTimerExpiry => exact h.ready (fun _ hu => hu.finishWork.quietEntry.ite hu) e
  case selfTimedCell => exact h.ready (fun u hu => ite (s := u.selfTimed) hu.frame hu) e
  case driveCellSent | replySent | malformed => exact h.ready (fun _ hu => hu.frame) e
  case enquire | readSetting | writeSetting | loadEnvelope | loadResponse | commitSync | discardShadow | clearFlags | setReport
      | readCounters | writeCounter | readEvent | releaseEvent | readLive | setEcho | saveImage =>
    exact h.readyRequest _ (fun _ _ hu => hu.frame) e
  case deviceReset => exact h.readyRequest _ (fun _ _ hu => hu.frame (State.buffer_monitor _ _)) e
  case commitNow => exact h.readyRequest _ (fun r _ => commitNow r) e
  case enlist => exact h.readyBetween _ (fun r u hu => hu.frame (u.forFeeder_monitor r fun f => u.enlist_monitor r f)) e
  case retire => exact h.readyBetween _ (fun r u hu => hu.frame (u.forFeeder_monitor r fun f => u.retire_monitor r f)) e
  case forceBypass =>
    exact h.readyRequest _ (fun r u hu => hu.frame (u.forFeeder_monitor r fun f => u.forceBypass_monitor r f)) e
  case savePageAck => exact h.ready (fun u hu => ite (s := u.pageWritten) hu.frame hu) e
  case savePollTimeout => exact h.ready (fun u hu => ite (s := u.endSave _) hu.frame hu) e
  case managementReset => exact h.ready (fun _ hu => hu) e
  case powerOnReset => exact Host.Outcome.next.inj e ▸ powerOn s
  case resetRelease straps => exact Host.Outcome.next.inj e ▸ ite (s := s.release straps) h.frame h.carryDue
  case imageReadComplete a => exact h.ready (fun u hu => ite (s := u.readEnds a) hu.frame hu) e

theorem step {t : State} (h : SumsExact s) (e : step s = .next t) : SumsExact t := by
  cases hp : s.pending with
  | nil => exact h.ready (fun _ => finishWork) (step_of_nil hp ▸ e)
  | cons c rest => exact exec (s := { s with pending := rest }) h.frame (step_of_cons hp ▸ e)

end SumsExact

/-- Settles O52: joining, repeating and trimming samples keep a window's sum exact, a link return and a reset begin it so, and no
other operation of a step changes the windows. -/
theorem everyStepKeepsWindowSumsExact : Obligations.EveryStepKeepsWindowSumsExact := fun _ _ h e =>
  (SumsExact.step ⟨(windowSumsExact_iff _).1 h⟩ e).monitor

end Sys2Proof.Machine
end

section
/-! The end of an accepted cell's work, as its first stage settles it: what the rows that name something in the monitor's work carry
the work to, and what the later stages leave of it (R11, R41, R114, R142, R158 to R163; log entry 2). -/
open Sys2Proof Sys2Proof.Machine
namespace Sys2Proof.Machine

/-! ### What waits for the end of a cell's work, and the last stage -/

/-- The monitor that differs in its windows and their sums alone, as an equation (R44). -/
theorem sameMeasures.exists_eq {m n : Monitor} (h : sameMeasures m n) :
    ∃ windows sums, n = { m with windows := windows, sums := sums } := ⟨n.windows, n.sums, h⟩

/-- A commit leaves the jump reading (R37, R38). -/
theorem State.endCell_jump (s : State) (zero : Bool) : (s.endCell zero).tracker.jump = s.tracker.jump := by
  have aged : (s.ageCommit zero).tracker.jump = s.tracker.jump := by
    rcases s.ageCommit_cases zero with ⟨r, e⟩ | ⟨r, e⟩ | e | e <;> rw [e]
    · rw [State.takeCommit, State.answer_tracker]
      rfl
    · rw [State.expireCommit_tracker]
      rfl
    · rfl
  rw [State.endCell, State.settleEcho_tracker]
  rcases (s.ageCommit zero).waitImage_cases with e | e <;> rw [e]
  · rw [State.commitImage, State.autoEnlist_tracker]
    exact aged
  · exact aged

/-- Auto-enlist raises a flag and clears none (R140, R150). -/
theorem State.autoEnlist_keepsFlag {s : State} {i : Nat} (hi : i < 32) (h : s.flags.latched.getLsbD i = true) :
    s.autoEnlist.flags.latched.getLsbD i = true := by
  unfold State.autoEnlist
  split
  · exact h
  · rw [State.moveEnginesRaising, FlagUnit.raiseChanges_latched _ _ _ _ hi, State.announce_flags, h, Bool.true_or]

/-- A flag latched before the end of a cell's work is latched after it (R150). -/
theorem State.endCell_keepsFlag {s : State} {i : Nat} (hi : i < 32) (h : s.flags.latched.getLsbD i = true) (zero : Bool) :
    (s.endCell zero).flags.latched.getLsbD i = true := by
  have aged : (s.ageCommit zero).flags.latched.getLsbD i = true := by rwa [State.ageCommit_flags]
  rw [State.endCell, State.settleEcho_flags]
  rcases (s.ageCommit zero).waitImage_cases with e | e <;> rw [e]
  · exact State.autoEnlist_keepsFlag hi aged
  · exact aged

theorem State.abandonChange_keepsFlag {s : State} {i : Nat} (hi : i < 32) (h : s.flags.latched.getLsbD i = true) (b : Bank) :
    (s.abandonChange b).flags.latched.getLsbD i = true := by
  rcases s.abandonChange_cases b with e | e <;> rw [e]
  · change (FlagUnit.latch _ _).latched.getLsbD i = true
    rw [FlagUnit.latch_getLsbD, State.moveEnginesRaising, FlagUnit.raiseChanges_latched _ _ _ _ hi, h, Bool.true_or, Bool.true_or]
  · exact h

/-- Two engines show a record the same figures: mode, marks, peak reference, limited count and energy draw (R162). -/
def Engine.sameFigures (e x : Engine) : Prop := ∀ f, x.entry f = e.entry f

theorem Engine.sameFigures.trans {e x y : Engine} (h : e.sameFigures x) (g : x.sameFigures y) : e.sameFigures y :=
  fun f => (g f).trans (h f)

/-- A transition leaves a feeder's figures (R88). -/
theorem Engine.sameFigures_enter (e : Engine) (x : FeederState) : e.sameFigures (e.enter x) := fun _ => rfl

theorem Engine.sameFigures_abandon (e : Engine) : e.sameFigures e.abandon := by
  unfold Engine.abandon
  split <;> exact fun _ => rfl

theorem State.autoEnlist_figures (s : State) (f : Feeder) : (s.engines.get f).sameFigures (s.autoEnlist.engines.get f) := by
  unfold State.autoEnlist
  split
  · exact fun _ => rfl
  · rw [State.moveEnginesRaising, State.moveEngines, PerFeeder.get_build]
    split
    · exact Engine.sameFigures_enter _ _
    · exact fun _ => rfl

theorem State.endCell_figures (s : State) (zero : Bool) (f : Feeder) :
    (s.engines.get f).sameFigures ((s.endCell zero).engines.get f) := by
  rw [State.endCell, State.settleEcho_engines]
  rcases (s.ageCommit zero).waitImage_cases with e | e <;> rw [e]
  · have enlisted := State.autoEnlist_figures (s := { (s.ageCommit zero).commitBank with
      loader := { (s.ageCommit zero).loader with state := .idle, outcome := some .loaded }
      came := (s.ageCommit zero).came ++ [.imageCommit], due := none }) f
    rw [State.commitBank_engines, State.ageCommit_engines] at enlisted
    exact enlisted
  · rw [State.ageCommit_engines]
    exact fun _ => rfl

theorem State.abandonChange_figures (s : State) (b : Bank) (f : Feeder) :
    (s.engines.get f).sameFigures ((s.abandonChange b).engines.get f) := by
  rcases s.abandonChange_cases b with e | e <;> rw [e]
  · rw [State.dropChange, State.moveEnginesRaising, State.moveEngines, PerFeeder.get_map]
    exact Engine.sameFigures_abandon _
  · exact fun _ => rfl

section
variable (s : State) (w : Work)

theorem State.finishCell_jump : (s.finishCell w).tracker.jump = s.tracker.jump := by
  rw [State.finishCell, State.endWork_tracker, State.endCell_jump]
  simp

/-- What the last stage does after the record's close leaves each feeder's figures (R132, R162, R192). -/
theorem State.finishCell_figures (f : Feeder) : (s.engines.get f).sameFigures ((s.finishCell w).engines.get f) := by
  rw [State.finishCell, State.endWork_engines]
  refine Engine.sameFigures.trans ?_ (State.endCell_figures _ _ f)
  rw [State.lateRestart_engines, State.sendDrive_engines]
  refine Engine.sameFigures.trans ?_ (State.abandonChange_figures _ _ f)
  rw [State.recordCell_engines]
  exact fun _ => rfl

theorem State.finishCell_active : (s.finishCell w).maps.active = s.maps.active := by
  rw [(s.finishCell_maps w).2, State.atDrive]
  rcases (s.recordCell w).abandonChange_cases w.bank with e | e <;> rw [e]
  · change (s.recordCell w).maps.active = _
    rw [State.recordCell_maps]
  · rw [State.recordCell_maps]

/-- The Event Recorder's part of a cell that ends no event: the lowest energy level (R159). -/
theorem State.finishCell_recorder_of_going (h : w.marks.eventEnd = false) :
    (s.finishCell w).recorder = s.recorder.keepLowest s.store.energy := by
  rw [State.finishCell_recorder, State.recordCell, h, if_neg Bool.false_ne_true]
  rfl

end

/-- A record gathered from engines with the same figures is the same (R162). -/
theorem OpenRecord.gather_congr {engines after : PerFeeder Engine} (h : ∀ f, (engines.get f).sameFigures (after.get f)) (b : Bank)
    (worst : Worst) (now : BitVec 32) (cause : EndCause) (o : OpenRecord) :
    o.gather b worst engines now cause = o.gather b worst after now cause := by
  have entries : (fun f => (engines.get f).entry f) = fun f => (after.get f).entry f := funext fun f => (h f f).symm
  rw [OpenRecord.gather, OpenRecord.gather, entries]

/-- The lowest energy level kept, the open record is closed in the cell that ends the event, as it stands when the cell's work has
ended (R159, R160, R163). -/
theorem State.finishCell_recorder_of_end {s : State} {w : Work} {o : OpenRecord} (h : w.marks.eventEnd = true)
    (ho : s.recorder.openRecord = some o) :
    (s.finishCell w).recorder = (s.recorder.keepLowest s.store.energy).join
      (OpenRecord.gather w.bank s.monitor.worst (s.finishCell w).engines s.ingress.cellTime .recovered
        { o with lowestEnergy := min o.lowestEnergy s.store.energy }) := by
  have kept : s.keepLowest.recorder.openRecord = some { o with lowestEnergy := min o.lowestEnergy s.store.energy } := by
    simp [State.keepLowest, Recorder.keepLowest, ho]
  rw [State.finishCell_recorder, State.recordCell, h, if_pos rfl, State.closeRecord_recorder kept]
  exact congrArg (Recorder.join · _) (OpenRecord.gather_congr (s.finishCell_figures w) _ _ _ _ _)

/-- A full queue discards its oldest record and latches EVENT_DISCARD in the cell that ends the event (R163). -/
theorem State.finishCell_discards {s : State} {w : Work} (h : w.marks.eventEnd = true) (ho : s.recorder.openRecord.isSome = true)
    (full : 16 ≤ s.recorder.queue.length) : (s.finishCell w).flags.latched.getLsbD 7 = true := by
  have opened : s.keepLowest.eventOpen = true := by simpa [State.eventOpen, State.keepLowest, Recorder.keepLowest] using ho
  have discards : s.keepLowest.recorder.discards = true := decide_eq_true full
  have closed : (s.recordCell w).flags.latched.getLsbD 7 = true := by
    rw [State.recordCell, h, if_pos rfl, State.closeRecord_flags, opened, discards, FlagUnit.latchIf_getLsbD]
    simp [DeviceFlag.index]
  rw [State.finishCell, State.endWork_flags]
  refine State.endCell_keepsFlag (by decide) ?_ _
  rw [State.lateRestart_flags, State.sendDrive_flags]
  exact State.abandonChange_keepsFlag (by decide) closed _

/-! ### The stages after the first -/

theorem State.came_lastStages {s : State} {x : Occurrence} (h : x ∈ s.came) (w : Work) : x ∈ (s.lastStages w).came :=
  State.came_finishCell (s := (s.engageCell w).verifyCell (s.afterEngage w)) (List.mem_append_left _ h) _

/-- The state an accepted cell's work ends in, every missing cell before it worked. -/
def State.cellWorked (s : State) (w : Work) : State := (State.trackCell { s with came := [] } w).lastStages (s.handOn w)

section
variable (s : State) (w : Work)

theorem State.cellWorked_work : (s.cellWorked w).work = none := rfl

theorem State.cellWorked_ingress : (s.cellWorked w).ingress = { s.ingress with cellTime := s.ingress.cellTime + 1 } :=
  State.finishCell_ingress _ _

/-- The monitor stands as the first stage settles it, but for a commit's trimming of the windows (R41, R44). -/
theorem State.cellWorked_monitor :
    ∃ windows sums, (s.cellWorked w).monitor = { (s.settled w).monitor with windows := windows, sums := sums } :=
  (State.sameMeasures_finishCell _ _).exists_eq

theorem State.cellWorked_jump : (s.cellWorked w).tracker.jump = (s.trackCell w).tracker.jump := State.finishCell_jump _ _

theorem State.cellWorked_active : (s.cellWorked w).maps.active = s.maps.active := State.finishCell_active _ _

theorem State.cellWorked_recorder_of_going (h : (s.settled w).marks.eventEnd = false) :
    (s.cellWorked w).recorder = (s.recorderOpened w).keepLowest (s.storeWorked w).energy :=
  State.finishCell_recorder_of_going _ _ h

/-- The hold part leaves the jump reading (R38). -/
theorem Tracker.holdPart_jump (b active : Bank) (follows accepted committed : Bool) (t : Tracker) :
    (t.holdPart b active follows accepted committed).jump = t.jump := by
  cases follows <;> cases committed <;> rfl

theorem State.trackCell_jump : (s.trackCell w).tracker.jump = (s.liveTracker w).jump := Tracker.holdPart_jump _ _ _ _ _ _

/-- The Store Account's work leaves the energy level of the store voltage (R115). -/
theorem State.storeWorked_energy : (s.storeWorked w).energy = energyLevel w.bank w.sense.store := rfl

end

theorem State.recorderOpened_of_going {s : State} {w : Work} (h : (s.settled w).marks.confirmation = false) :
    s.recorderOpened w = s.recorder := by
  rw [State.recorderOpened, h, if_neg Bool.false_ne_true]

theorem State.cellWorked_recorder_of_end {s : State} {w : Work} {o : OpenRecord} (h : (s.settled w).marks.eventEnd = true)
    (going : (s.settled w).marks.confirmation = false) (ho : s.recorder.openRecord = some o) :
    (s.cellWorked w).recorder = (s.recorder.keepLowest (energyLevel w.bank w.sense.store)).join
      (OpenRecord.gather w.bank (s.settled w).monitor.worst (s.cellWorked w).engines (s.ingress.cellTime + 1) .recovered
        { o with lowestEnergy := min o.lowestEnergy (energyLevel w.bank w.sense.store) }) := by
  have recorder := State.recorderOpened_of_going going
  have closed := State.finishCell_recorder_of_end
    (s := (State.engageCell (State.trackCell { s with came := [] } w) (s.handOn w)).verifyCell
      (State.afterEngage (State.trackCell { s with came := [] } w) (s.handOn w)))
    (w := (State.engageCell (State.trackCell { s with came := [] } w) (s.handOn w)).afterVerify
      (State.afterEngage (State.trackCell { s with came := [] } w) (s.handOn w)))
    h ((congrArg Recorder.openRecord recorder).trans ho)
  rw [← State.storeWorked_energy, ← recorder]
  exact closed

theorem State.cellWorked_discards {s : State} {w : Work} (h : (s.settled w).marks.eventEnd = true)
    (going : (s.settled w).marks.confirmation = false) (ho : s.recorder.openRecord.isSome = true)
    (full : 16 ≤ s.recorder.queue.length) : (s.cellWorked w).flags.latched.getLsbD 7 = true := by
  rw [← State.recorderOpened_of_going going] at ho full
  exact State.finishCell_discards h ho full

/-! ### The rows that name what the monitor's work brings about -/

/-- A row whose occurrence comes about in the monitor's work on the accepted cell carries that cell's work to its end (log entry
2). -/
theorem exec_of_monitorOccurrence {s : State} {w : Work} {c : Instr} {x : Occurrence} (h : s.beginsCell w)
    (row : exec c s = .next (s.ready (State.comesAbout x)))
    (hx : x ∈ monitorOccurrences s.monitor (s.settled w).monitor (s.settled w).marks) : exec c s = .next (s.cellWorked w) := by
  obtain ⟨acts, hw, stage, missing⟩ := h
  have rest : s.restOfWork = s.cellWorked w := State.finishWork_begins (s := { s with came := [] }) hw stage missing
  have noted : x ∈ s.restOfWork.came := rest ▸ State.came_lastStages (List.mem_append_right [] hx) _
  rw [row, State.ready_acts acts, State.comesAbout_of_mem noted, rest]

end Sys2Proof.Machine
end

section
/-! The Sag Monitor's work on an accepted cell, sag state by sag state (R41 to R56): what is measured, and what the sag state is
settled to; then the confirmation (R47 to R49, R158). -/
open Sys2Proof Sys2Proof.Machine
namespace Sys2Proof.Machine

/-! ### What is measured before the sag state is settled -/

section
variable (b : Bank) (linkReturn : Bool) (supply : PerPhase Int) (m : Monitor)

@[simp] theorem Monitor.measure_sag : (m.measure b linkReturn supply).sag = m.sag := by rw [Monitor.measure_eq]

@[simp] theorem Monitor.measure_acquireCount :
    (m.measure b linkReturn supply).acquireCount = if linkReturn then 0 else m.acquireCount := by rw [Monitor.measure_eq]

@[simp] theorem Monitor.measure_deviationCount : (m.measure b linkReturn supply).deviationCount = m.deviationCount := by
  rw [Monitor.measure_eq]

@[simp] theorem Monitor.measure_recoveryCount : (m.measure b linkReturn supply).recoveryCount = m.recoveryCount := by
  rw [Monitor.measure_eq]

@[simp] theorem Monitor.measure_worst : (m.measure b linkReturn supply).worst = m.worst := by rw [Monitor.measure_eq]

@[simp] theorem Monitor.measure_classified : (m.measure b linkReturn supply).classified = m.classified := by
  rw [Monitor.measure_eq]

@[simp] theorem Monitor.measure_published : (m.measure b linkReturn supply).published = m.published := by
  rw [Monitor.measure_eq]

@[simp] theorem Monitor.measure_burstTimer : (m.measure b linkReturn supply).burstTimer = m.burstTimer - 1 := by
  rw [Monitor.measure_eq]

@[simp] theorem Monitor.measure_lastBurst : (m.measure b linkReturn supply).lastBurst = m.lastBurst := by
  rw [Monitor.measure_eq]

theorem Monitor.measure_elapsed (h : m.sag = .sag ∨ m.sag = .recovering) :
    (m.measure b linkReturn supply).elapsed = min 65535 (m.elapsed + 1) := by
  rw [Monitor.measure_eq]
  exact if_pos h

end

/-- The monitor as it is measured in an accepted cell (R41). -/
def State.measured (s : State) (w : Work) : Monitor := s.monitor.measure w.bank w.linkReturn w.sense.supply

/-- The accepted cell is deviating (R45). -/
def State.deviates (s : State) (w : Work) : Bool := deviating w.bank s.tracker.amplitudeRef s.tracker.hold w.sense.supply

/-- The monitor's work on an accepted cell settles the sag state of what is measured (R41). -/
theorem State.settled_eq (s : State) (w : Work) :
    s.settled w = (s.measured w).settle w.bank (s.deviates w) (s.liveTracker w).jump := rfl

/-! ### The steps of the sag state outside an event -/

section
variable {m : Monitor} (b : Bank) (deviates : Bool) (jump : Int)

theorem Monitor.settle_acquiring (h : m.sag = .acquiring) : m.settle b deviates jump = m.settleAcquiring b := by
  rw [Monitor.settle, h]

theorem Monitor.settle_normal (h : m.sag = .normal) : m.settle b deviates jump = m.settleNormal b deviates jump := by
  rw [Monitor.settle, h]

theorem Monitor.settle_suspect (h : m.sag = .suspect) : m.settle b deviates jump = m.settleSuspect b deviates jump := by
  rw [Monitor.settle, h]

theorem Monitor.settle_sag (h : m.sag = .sag) : m.settle b deviates jump = m.settleSag b jump := by
  rw [Monitor.settle, h]

theorem Monitor.settle_recovering (h : m.sag = .recovering) : m.settle b deviates jump = m.settleRecovering b jump := by
  rw [Monitor.settle, h]

end

/-- What an accepted cell outside an event that confirms nothing settles: the sag state with its acquire and deviation counts (R46
to R48). -/
theorem Monitor.settle_plain {b : Bank} {deviates : Bool} {m : Monitor} {x : SagState} {acquired count : Nat} (jump : Int)
    (h : (m.sag = .acquiring ∧ x = (if b.acquireCells ≤ m.acquireCount + 1 then .normal else .acquiring)
          ∧ acquired = m.acquireCount + 1 ∧ count = m.deviationCount)
        ∨ (m.sag = .normal ∧ deviates = false ∧ x = .normal ∧ acquired = m.acquireCount ∧ count = 0)
        ∨ (m.sag = .normal ∧ deviates = true ∧ 2 ≤ b.confirmCount ∧ x = .suspect ∧ acquired = m.acquireCount ∧ count = 1)
        ∨ (m.sag = .suspect ∧ deviates = false ∧ x = .normal ∧ acquired = m.acquireCount ∧ count = 0)
        ∨ (m.sag = .suspect ∧ deviates = true ∧ m.deviationCount + 1 < b.confirmCount ∧ x = .suspect
            ∧ acquired = m.acquireCount ∧ count = m.deviationCount + 1)) :
    m.settle b deviates jump = .plain { m with sag := x, acquireCount := acquired, deviationCount := count } := by
  rcases h with ⟨sag, rfl, rfl, rfl⟩ | ⟨sag, rfl, rfl, rfl, rfl⟩ | ⟨sag, rfl, two, rfl, rfl, rfl⟩ | ⟨sag, rfl, rfl, rfl, rfl⟩
    | ⟨sag, rfl, below, rfl, rfl, rfl⟩
  · rw [Monitor.settle_acquiring b _ jump sag]
    rfl
  · rw [Monitor.settle_normal b _ jump sag, Monitor.settleNormal, if_neg Bool.false_ne_true, ← sag]
  · rw [Monitor.settle_normal b _ jump sag, Monitor.settleNormal, if_pos rfl, if_pos two]
  · rw [Monitor.settle_suspect b _ jump sag, Monitor.settleSuspect, if_neg Bool.false_ne_true]
  · rw [Monitor.settle_suspect b _ jump sag, Monitor.settleSuspect, if_pos rfl, if_neg (not_le.2 below), ← sag]

/-- A deviating cell that brings the deviation count to CONFIRM_COUNT confirms (R47 to R49). -/
theorem Monitor.settle_confirms {b : Bank} {m : Monitor} (jump : Int)
    (h : (m.sag = .normal ∧ b.confirmCount ≤ 1) ∨ (m.sag = .suspect ∧ b.confirmCount ≤ m.deviationCount + 1)) :
    ∃ n, m.settle b true jump = Monitor.confirm b jump { m with deviationCount := n } := by
  rcases h with ⟨sag, one⟩ | ⟨sag, reached⟩
  · refine ⟨1, ?_⟩
    rw [Monitor.settle_normal b _ jump sag, Monitor.settleNormal, if_pos rfl, if_neg (by omega)]
  · refine ⟨m.deviationCount + 1, ?_⟩
    rw [Monitor.settle_suspect b _ jump sag, Monitor.settleSuspect, if_pos rfl, if_pos reached]

/-! ### The steps of the sag state in an event -/

/-- The class formed from the worst values given and published, in a classified event (R52). -/
def Monitor.classedBy (b : Bank) (worst : Worst) (m : Monitor) : Monitor :=
  { m with worst := worst, classified := true, published := some (classOf b worst) }

/-- The marks of a cell in SAG, not before the classification point (R41, R52, R53). -/
def Monitor.sagMarks (b : Bank) (worst : Worst) (recovers : Bool) (m : Monitor) : Marks :=
  { Marks.clear with
    classificationPoint := !m.classified
    classRise := m.classified && classRises m.published (some (classOf b worst))
    recoveryEntry := recovers }

/-- The worst values of a recovery entry: updated in the classification point cell only (R51, log entry 19). -/
def Monitor.recoveryWorst (b : Bank) (jump : Int) (m : Monitor) : Worst :=
  if m.classified then m.worst else m.worsened b jump

section
variable {b : Bank} {m : Monitor}

/-- Before the classification point the worst values are updated and no class is formed (R51, R52). -/
theorem Monitor.settleSag_before (classified : m.classified = false) (early : m.elapsed < b.halfWindow) (jump : Int) :
    m.settleSag b jump = .plain { m with worst := m.worsened b jump } := by
  have late : ¬ b.halfWindow ≤ m.elapsed := not_le.2 early
  simp [Monitor.settleSag, Monitor.publish, Settled.plain, Marks.clear, classified, late]

/-- At the classification point and after it the monitor stays in SAG below RECOVERY_LEVEL (R51 to R53). -/
theorem Monitor.settleSag_stays (formed : m.classified = true ∨ b.halfWindow ≤ m.elapsed)
    (low : m.minRetained < b.recoveryLevel) (jump : Int) :
    m.settleSag b jump =
      { monitor := m.classedBy b (m.worsened b jump)
        marks := m.sagMarks b (m.worsened b jump) false
        published := some (classOf b (m.worsened b jump)) } := by
  have deep : ¬ b.recoveryLevel ≤ m.minRetained := not_le.2 low
  cases classified : m.classified with
  | true => simp [Monitor.settleSag, Monitor.publish, Monitor.classedBy, Monitor.sagMarks, classified, deep]
  | false =>
    have late : b.halfWindow ≤ m.elapsed := formed.resolve_left (by simp [classified])
    simp [Monitor.settleSag, Monitor.publish, Monitor.classedBy, Monitor.sagMarks, classified, deep, late]

/-- At the classification point and after it the monitor recovers at RECOVERY_LEVEL, and ends the event at once with RECOVERY_HOLD 1
(R51 to R53). -/
theorem Monitor.settleSag_recovers (formed : m.classified = true ∨ b.halfWindow ≤ m.elapsed)
    (high : b.recoveryLevel ≤ m.minRetained) (jump : Int) :
    m.settleSag b jump =
      if b.recoveryHold ≤ 1 then
        Monitor.endEvent b (m.sagMarks b (m.recoveryWorst b jump) true)
          { m.classedBy b (m.recoveryWorst b jump) with recoveryCount := 1 }
      else
        { monitor := { m.classedBy b (m.recoveryWorst b jump) with sag := .recovering, recoveryCount := 1 }
          marks := m.sagMarks b (m.recoveryWorst b jump) true
          published := some (classOf b (m.recoveryWorst b jump)) } := by
  cases classified : m.classified with
  | true =>
    simp [Monitor.settleSag, Monitor.publish, Monitor.classedBy, Monitor.sagMarks, Monitor.recoveryWorst, classified, high]
  | false =>
    have late : b.halfWindow ≤ m.elapsed := formed.resolve_left (by simp [classified])
    simp [Monitor.settleSag, Monitor.publish, Monitor.classedBy, Monitor.sagMarks, Monitor.recoveryWorst, classified, high, late]

/-- The cell that brings the recovery count to RECOVERY_HOLD ends the event (R54, R55). -/
theorem Monitor.settleRecovering_ends (high : b.recoveryLevel ≤ m.minRetained) (hold : b.recoveryHold ≤ m.recoveryCount + 1)
    (jump : Int) :
    m.settleRecovering b jump =
      Monitor.endEvent b
        { Marks.clear with
          classRise := classRises m.published (Monitor.publish b { m with recoveryCount := m.recoveryCount + 1 }).published }
        (Monitor.publish b { m with recoveryCount := m.recoveryCount + 1 }) := by
  rw [Monitor.settleRecovering, if_pos high]
  exact if_pos hold

/-- A recovery that goes on counts the cell and forms the class again (R52, R54). -/
theorem Monitor.settleRecovering_counts (classified : m.classified = true) (high : b.recoveryLevel ≤ m.minRetained)
    (hold : m.recoveryCount + 1 < b.recoveryHold) (jump : Int) :
    m.settleRecovering b jump =
      { monitor := { m.classedBy b m.worst with recoveryCount := m.recoveryCount + 1 }
        marks := { Marks.clear with classRise := classRises m.published (some (classOf b m.worst)) }
        published := some (classOf b m.worst) } := by
  rw [Monitor.settleRecovering, if_pos high]
  dsimp only
  rw [if_neg (not_le.2 hold)]
  simp [Monitor.publish, Monitor.classedBy, classified]

/-- A recovery that fails returns to SAG, with the worst values updated and the class formed again (R51, R52, R54). -/
theorem Monitor.settleRecovering_returns (classified : m.classified = true) (low : m.minRetained < b.recoveryLevel) (jump : Int) :
    m.settleRecovering b jump =
      { monitor := { m.classedBy b (m.worsened b jump) with sag := .sag, recoveryCount := 0 }
        marks := { Marks.clear with
          returnToSag := true, classRise := classRises m.published (some (classOf b (m.worsened b jump))) }
        published := some (classOf b (m.worsened b jump)) } := by
  rw [Monitor.settleRecovering, if_neg (not_le.2 low)]
  simp [Monitor.publish, Monitor.classedBy, classified]

end

/-! ### What comes about in the monitor's work -/

section
variable {before after : Monitor} {marks : Marks}

theorem confirmation_mem_occurrences (h : marks.confirmation = true) :
    .confirmation ∈ monitorOccurrences before after marks := by
  simp [monitorOccurrences, h]

theorem classificationPoint_mem_occurrences (h : marks.classificationPoint = true) :
    .classificationPoint ∈ monitorOccurrences before after marks := by
  simp [monitorOccurrences, h]

theorem eventEnd_mem_occurrences (h : marks.eventEnd = true) : .eventEnd ∈ monitorOccurrences before after marks := by
  simp [monitorOccurrences, h]

theorem acquireEnd_mem_occurrences (h : before.sag = .acquiring) (normal : after.sag = .normal) :
    .acquireEnd ∈ monitorOccurrences before after marks := by
  simp [monitorOccurrences, h, normal]

theorem burstTimerExpiry_mem_occurrences (h : before.burstTimer = 1) (expired : after.burstTimer = 0) :
    .burstTimerExpiry ∈ monitorOccurrences before after marks := by
  simp [monitorOccurrences, h, expired]

end

/-! ### The confirmation -/

/-- The largest deviation is that of the three references from their samples (R25, R45). -/
theorem largestDeviation_eq (amplitudeRef : Nat) (hold : Angle) (supply : PerPhase Int) :
    largestDeviation amplitudeRef hold supply
      = max (amplitudeRef * sineAt hold / 32768 - supply.a).natAbs
          (max (amplitudeRef * sineAt (hold + 1431655765#32) / 32768 - supply.b).natAbs
            (amplitudeRef * sineAt (hold + 2863311530#32) / 32768 - supply.c).natAbs) := by
  have first : phaseAngle hold .a = hold := BitVec.add_zero hold
  change max (amplitudeRef * sineAt (phaseAngle hold .a) / 32768 - supply.a).natAbs _ = _
  rw [first]
  rfl

theorem Monitor.started_windows (linkReturn : Bool) (m : Monitor) (p : Phase) :
    (m.started linkReturn).windows.get p = if linkReturn then [] else m.windows.get p := by
  cases linkReturn with
  | true => cases p <;> rfl
  | false => rfl

/-- What an accepted cell's samples make of the windows, and the retained voltages taken from them (R42, R43, R58). -/
theorem State.trackCell_windows (s : State) (w : Work) (p : Phase) :
    (s.trackCell w).monitor.windows.get p
        = ((if w.linkReturn then [] else s.monitor.windows.get p) ++ [w.sense.supply.get p]).drop
            ((if w.linkReturn then [] else s.monitor.windows.get p).length + 1 - w.bank.halfWindow)
      ∧ (w.linkReturn = true ∨ s.monitor.sums.get p = squares (s.monitor.windows.get p) →
          (s.trackCell w).monitor.sums.get p = squares ((s.trackCell w).monitor.windows.get p))
      ∧ measuredFrom w.bank s.monitor (s.trackCell w).monitor := by
  obtain ⟨windows, sums, retained, least⟩ := (Monitor.readings_eq_iff _ _).1
    (s.monitor.workAccepted_readings w.bank w.linkReturn w.sense.supply s.tracker.amplitudeRef s.tracker.hold
      (s.liveTracker w).jump)
  have window : (s.trackCell w).monitor.window p
      = ((s.monitor.started w.linkReturn).window p).join w.bank.halfWindow (w.sense.supply.get p) := by
    rw [← Monitor.joinSamples_window]
    exact congrArg₂ (fun x y => Window.mk (x.get p) (y.get p)) windows sums
  refine ⟨?_, fun h => ?_, ?_⟩
  · rw [← Monitor.window_samples, window, Window.join_samples, Monitor.window_samples, Monitor.started_windows]
  · change ((s.trackCell w).monitor.window p).exact
    rw [window]
    refine Window.exact.join ?_ _ _
    cases returns : w.linkReturn with
    | true => exact s.monitor.exact_emptyWindows p
    | false => exact h.resolve_left (by simp [returns])
  · refine (Monitor.measuredFrom_remeasure w.bank _).congr ?_ windows sums retained least
    cases w.linkReturn <;> rfl

/-- Settles O15: the first stage settles the sag state from what it measures, and at a confirmation opens the record that the later
stages keep. -/
theorem confirmationOpensAnEvent : Obligations.ConfirmationOpensAnEvent := by
  refine ⟨fun s w h reached deviates => ?confirms, fun b amplitudeRef hold supply r hr => ?deviation,
    fun s w p before m hm hbefore => ?windows, fun s w m deviates n hm hd hn x acquired count cases => ?steps⟩
  case confirms =>
    obtain ⟨n, confirms⟩ : ∃ n, s.settled w
        = Monitor.confirm w.bank (s.liveTracker w).jump { s.measured w with deviationCount := n } := by
      have reached : ((s.measured w).sag = .normal ∧ w.bank.confirmCount ≤ 1)
          ∨ ((s.measured w).sag = .suspect ∧ w.bank.confirmCount ≤ (s.measured w).deviationCount + 1) := by
        simpa [State.measured] using reached
      rw [State.settled_eq, show s.deviates w = true from deviates]
      exact Monitor.settle_confirms _ reached
    have confirmation : (s.settled w).marks.confirmation = true := by rw [confirms]; rfl
    have going : (s.settled w).marks.eventEnd = false := by rw [confirms]; rfl
    obtain ⟨windows, sums, monitor⟩ := s.cellWorked_monitor w
    have burst : (s.settled w).monitor.lastBurst
        = if 1 < s.monitor.burstTimer then min 255 (s.monitor.lastBurst + 1) else 0 := by
      rw [confirms]
      simp [Monitor.confirm, State.measured]
    have recorder : (s.cellWorked w).recorder = Recorder.keepLowest (energyLevel w.bank w.sense.store)
        (s.recorder.openNew (s.settled w).monitor.lastBurst (s.ingress.cellTime + 1) (energyLevel w.bank w.sense.store)
          s.maps.active) := by
      rw [State.cellWorked_recorder_of_going s w going, State.recorderOpened, if_pos confirmation]
      rfl
    refine ⟨s.cellWorked w, exec_of_monitorOccurrence h rfl (confirmation_mem_occurrences confirmation), s.cellWorked_work w, ?_⟩
    rw [recorder, s.cellWorked_active, s.cellWorked_jump, s.trackCell_jump, monitor]
    refine ⟨?_, ?_, ?_, ?_, ?_, ?_, burst, ?opened, rfl, rfl⟩
    case opened => simp [Recorder.keepLowest, Recorder.openNew]
    all_goals rw [confirms]; rfl
  case deviation =>
    rw [hr, deviating, decide_eq_true_eq, largestDeviation_eq]
  case windows =>
    rw [hm, hbefore]
    exact s.trackCell_windows w p
  case steps =>
    have plain : s.settled w
        = .plain { s.measured w with sag := x, acquireCount := acquired, deviationCount := count } := by
      rw [State.settled_eq]
      refine Monitor.settle_plain _ ?_
      simpa [State.measured, ← hn, hd, State.deviates] using cases
    have going : s.recorderOpened w = s.recorder := State.recorderOpened_of_going (by rw [plain]; rfl)
    have monitor : m = { s.measured w with sag := x, acquireCount := acquired, deviationCount := count } := by
      rw [hm]
      exact congrArg Settled.monitor plain
    rw [monitor]
    exact ⟨rfl, rfl, rfl, Monitor.measure_published .., Monitor.measure_classified .., Monitor.measure_worst ..,
      congrArg (fun x : Settled => some x.marks) plain, going⟩

end Sys2Proof.Machine
end

section
/-! An event cell by cell: the classification point, the recovery, and the end that closes the record (R50 to R55, R97, R159 to
R163). -/
open Sys2Proof Sys2Proof.Machine
namespace Sys2Proof.Machine

/-! ### The class and the worst values -/

/-- The class as the depth band, the jump and the unbalance make it up (R52). -/
theorem classOf_eq (b : Bank) (x : Worst) :
    classOf b x = (if 800 ≤ x.lowestMin then 0 else if 500 ≤ x.lowestMin then 1 else if 200 ≤ x.lowestMin then 2 else 3) * 4
      + (if b.jumpThreshold ≤ x.jumpMax then 2 else 0) + (if x.unbalance then 1 else 0) := rfl

theorem classRises_iff (before : Option Nat) (c : Nat) :
    classRises before (some c) = true ↔ ∃ x, before = some x ∧ x < c := by
  cases before with
  | none => simp [classRises]
  | some x => simp [classRises]

/-- Worst values worsened by a cell are those whose figures join them (R51). -/
theorem Monitor.worsened_eq (b : Bank) (jump : Int) (m : Monitor) : m.worsened b jump = worsenedBy b m.worst m jump := rfl

theorem worsenedBy_congr {m n : Monitor} (h : n.readings = m.readings) (b : Bank) (before : Worst) (jump : Int) :
    worsenedBy b before n jump = worsenedBy b before m jump := by
  obtain ⟨-, -, retained, least⟩ := (Monitor.readings_eq_iff _ _).1 h
  rw [worsenedBy, worsenedBy, retained, least]

section
variable {s : State} {w : Work}

theorem State.settled_readings (s : State) (w : Work) : (s.settled w).monitor.readings = (s.measured w).readings :=
  Monitor.settle_readings _ _ _ _

theorem State.settled_minRetained (s : State) (w : Work) : (s.settled w).monitor.minRetained = (s.measured w).minRetained :=
  congrArg (fun x => x.2.2.2) (s.settled_readings w)

/-- The worst values the cell worsens, from its own retained voltages and jump reading (R51). -/
theorem State.measured_worsened (s : State) (w : Work) (jump : Int) :
    (s.measured w).worsened w.bank jump = worsenedBy w.bank s.monitor.worst (s.settled w).monitor jump := by
  rw [Monitor.worsened_eq, worsenedBy_congr (s.settled_readings w), State.measured, Monitor.measure_worst]

theorem State.measured_elapsed (h : s.monitor.sag = .sag ∨ s.monitor.sag = .recovering) :
    (s.measured w).elapsed = min 65535 (s.monitor.elapsed + 1) := Monitor.measure_elapsed _ _ _ _ h

theorem State.measured_classified (s : State) (w : Work) : (s.measured w).classified = s.monitor.classified :=
  Monitor.measure_classified _ _ _ _

/-- The class is formed in the cell: the event is classified, or the cell is the classification point (R52). -/
theorem State.measured_formed (sag : s.monitor.sag = .sag)
    (h : s.monitor.classified = true ∨ w.bank.halfWindow ≤ min 65535 (s.monitor.elapsed + 1)) :
    (s.measured w).classified = true ∨ w.bank.halfWindow ≤ (s.measured w).elapsed := by
  rwa [State.measured_classified, State.measured_elapsed (.inl sag)]

theorem State.settled_sag (sag : s.monitor.sag = .sag) :
    s.settled w = (s.measured w).settleSag w.bank (s.liveTracker w).jump := by
  rw [State.settled_eq]
  exact Monitor.settle_sag _ _ _ ((Monitor.measure_sag _ _ _ _).trans sag)

theorem State.settled_recovering (sag : s.monitor.sag = .recovering) :
    s.settled w = (s.measured w).settleRecovering w.bank (s.liveTracker w).jump := by
  rw [State.settled_eq]
  exact Monitor.settle_recovering _ _ _ ((Monitor.measure_sag _ _ _ _).trans sag)

/-! ### The classification point -/

/-- What the classification point settles: the class formed from the worst values the cell has worsened, and the recovery tested
(R52, R53). -/
theorem State.settled_at_point (sag : s.monitor.sag = .sag) (classified : s.monitor.classified = false)
    (reached : w.bank.halfWindow ≤ min 65535 (s.monitor.elapsed + 1)) :
    (s.settled w).marks.classificationPoint = true ∧ (s.settled w).monitor.classified = true
      ∧ (s.settled w).monitor.elapsed = min 65535 (s.monitor.elapsed + 1)
      ∧ (s.settled w).monitor.worst
          = worsenedBy w.bank s.monitor.worst (s.settled w).monitor (s.liveTracker w).jump
      ∧ (s.settled w).monitor.sag
          = (if w.bank.recoveryLevel ≤ (s.settled w).monitor.minRetained then
              (if w.bank.recoveryHold ≤ 1 then .normal else .recovering)
            else .sag)
      ∧ (s.settled w).monitor.published
          = if (s.settled w).monitor.sag = .normal then none else some (classOf w.bank (s.settled w).monitor.worst) := by
  have unclassified : (s.measured w).classified = false := (s.measured_classified w).trans classified
  have formed := State.measured_formed (w := w) sag (.inr reached)
  have elapsed := State.measured_elapsed (w := w) (.inl sag)
  have still : (s.measured w).sag = .sag := (Monitor.measure_sag _ _ _ _).trans sag
  have worst := s.measured_worsened w (s.liveTracker w).jump
  have first : (s.measured w).recoveryWorst w.bank (s.liveTracker w).jump
      = (s.measured w).worsened w.bank (s.liveTracker w).jump := if_neg (by simp [unclassified])
  have least := s.settled_minRetained w
  rw [least, ← worst]
  have settled := State.settled_sag (w := w) sag
  by_cases high : w.bank.recoveryLevel ≤ (s.measured w).minRetained
  · rw [if_pos high]
    rw [Monitor.settleSag_recovers formed high, first] at settled
    by_cases once : w.bank.recoveryHold ≤ 1
    · rw [if_pos once] at settled ⊢
      rw [settled]
      exact ⟨congrArg not unclassified, rfl, elapsed, rfl, rfl, rfl⟩
    · rw [if_neg once] at settled ⊢
      rw [settled]
      exact ⟨congrArg not unclassified, rfl, elapsed, rfl, rfl, rfl⟩
  · rw [if_neg high]
    rw [Monitor.settleSag_stays formed (not_le.1 high)] at settled
    rw [settled]
    refine ⟨congrArg not unclassified, rfl, elapsed, rfl, still, (if_neg ?_).symm⟩
    exact still.trans_ne nofun

/-! ### Every other cell of an event -/

/-- The steps of an accepted cell in a classified event that goes on: the sag state it leads to with its recovery count, the worst
values kept and the marks but for the class rise (R51, R53, R54, log entry 19). -/
def State.goesOn (s : State) (w : Work) (x : SagState) (count : Nat) (kept : Worst) (base : Marks) : Prop :=
  (s.monitor.sag = .sag ∧ w.bank.recoveryLevel ≤ (s.measured w).minRetained ∧ 2 ≤ w.bank.recoveryHold ∧ x = .recovering
      ∧ count = 1 ∧ kept = s.monitor.worst ∧ base = { Marks.clear with recoveryEntry := true })
    ∨ (s.monitor.sag = .sag ∧ (s.measured w).minRetained < w.bank.recoveryLevel ∧ x = .sag ∧ count = s.monitor.recoveryCount
      ∧ kept = (s.measured w).worsened w.bank (s.liveTracker w).jump ∧ base = Marks.clear)
    ∨ (s.monitor.sag = .recovering ∧ w.bank.recoveryLevel ≤ (s.measured w).minRetained
      ∧ s.monitor.recoveryCount + 1 < w.bank.recoveryHold ∧ x = .recovering ∧ count = s.monitor.recoveryCount + 1
      ∧ kept = s.monitor.worst ∧ base = Marks.clear)
    ∨ (s.monitor.sag = .recovering ∧ (s.measured w).minRetained < w.bank.recoveryLevel ∧ x = .sag ∧ count = 0
      ∧ kept = (s.measured w).worsened w.bank (s.liveTracker w).jump ∧ base = { Marks.clear with returnToSag := true })

theorem State.goesOn.inEvent {x : SagState} {count : Nat} {kept : Worst} {base : Marks} (h : s.goesOn w x count kept base) :
    s.monitor.sag = .sag ∨ s.monitor.sag = .recovering := by
  rcases h with ⟨sag, -⟩ | ⟨sag, -⟩ | ⟨sag, -⟩ | ⟨sag, -⟩
  · exact .inl sag
  · exact .inl sag
  · exact .inr sag
  · exact .inr sag

theorem State.goesOn.confirmation {x : SagState} {count : Nat} {kept : Worst} {base : Marks} (h : s.goesOn w x count kept base) :
    base.confirmation = false := by
  rcases h with ⟨-, -, -, -, -, -, rfl⟩ | ⟨-, -, -, -, -, rfl⟩ | ⟨-, -, -, -, -, -, rfl⟩ | ⟨-, -, -, -, -, rfl⟩ <;> rfl

/-- What an accepted cell of a classified event that goes on settles: the class is formed again from the worst values kept, and
rises where it is above the one published before (R51 to R54). -/
theorem State.settled_of_goesOn {x : SagState} {count : Nat} {kept : Worst} {base : Marks}
    (classified : s.monitor.classified = true) (h : s.goesOn w x count kept base) :
    s.settled w =
      { monitor := { (s.measured w).classedBy w.bank kept with sag := x, recoveryCount := count }
        marks := { base with classRise := classRises s.monitor.published (some (classOf w.bank kept)) }
        published := some (classOf w.bank kept) } := by
  have formed : (s.measured w).classified = true := (s.measured_classified w).trans classified
  have published : (s.measured w).published = s.monitor.published := Monitor.measure_published _ _ _ _
  have worst : (s.measured w).worst = s.monitor.worst := Monitor.measure_worst _ _ _ _
  have counted : (s.measured w).recoveryCount = s.monitor.recoveryCount := Monitor.measure_recoveryCount _ _ _ _
  have still : (s.measured w).sag = s.monitor.sag := Monitor.measure_sag _ _ _ _
  rcases h with ⟨sag, high, hold, rfl, rfl, rfl, rfl⟩ | ⟨sag, low, rfl, rfl, rfl, rfl⟩ | ⟨sag, high, hold, rfl, rfl, rfl, rfl⟩
    | ⟨sag, low, rfl, rfl, rfl, rfl⟩
  · have kept : (s.measured w).recoveryWorst w.bank (s.liveTracker w).jump = s.monitor.worst := (if_pos formed).trans worst
    rw [State.settled_sag sag, Monitor.settleSag_recovers (.inl formed) high, if_neg (by omega), kept, Monitor.sagMarks, formed,
      published]
    rfl
  · rw [State.settled_sag sag, Monitor.settleSag_stays (.inl formed) low, Monitor.sagMarks, formed, published, ← counted, ← sag,
      ← still]
    rfl
  · rw [← counted] at hold ⊢
    rw [State.settled_recovering sag, Monitor.settleRecovering_counts formed high hold, worst, published, ← sag, ← still]
    rfl
  · rw [State.settled_recovering sag, Monitor.settleRecovering_returns formed low, published]

/-- The records stand in a cell that confirms nothing (R158). -/
theorem State.trackCell_recorder_of_going (h : (s.settled w).marks.confirmation = false) :
    (s.trackCell w).recorder = s.recorder := State.recorderOpened_of_going h

end

/-- Settles O17: the sag state's steps in an event, at the classification point and in every cell that goes on. -/
theorem classificationPointPublishesTheClass : Obligations.ClassificationPointPublishesTheClass := by
  refine ⟨fun s w h sag classified reached => ?point, fun s w m worse cls rises hm hworse hcls hrises =>
    ⟨fun sag classified early => ?before, fun x count kept marks classified cases => ?after⟩⟩
  case point =>
    obtain ⟨point, formed, elapsed, worst, settles, published⟩ := State.settled_at_point sag classified reached
    obtain ⟨windows, sums, monitor⟩ := s.cellWorked_monitor w
    refine ⟨s.cellWorked w, exec_of_monitorOccurrence h rfl (classificationPoint_mem_occurrences point), s.cellWorked_work w, ?_⟩
    rw [s.cellWorked_jump, s.trackCell_jump, monitor]
    dsimp only
    refine ⟨formed, elapsed, fun p => ?_, ?_, ?_, ?_, settles, fun other => ?_, fun normal => ?_⟩
    · rw [worst]
      cases p <;> rfl
    · rw [worst]; rfl
    · rw [worst]; rfl
    · rw [worst]; rfl
    · rw [published, if_neg other, classOf_eq]
    · rw [published, if_pos normal]
  case before =>
    have classified' : (s.measured w).classified = false := (s.measured_classified w).trans classified
    have elapsed := State.measured_elapsed (w := w) (.inl sag)
    have settled := (State.settled_sag (w := w) sag).trans (Monitor.settleSag_before classified' (elapsed ▸ early) _)
    have worst : worse = (s.measured w).worsened w.bank (s.liveTracker w).jump := by
      rw [hworse, hm, s.trackCell_jump, s.measured_worsened]
      rfl
    have monitor : m = { s.measured w with worst := worse } := by
      rw [hm, worst]
      exact congrArg Settled.monitor settled
    rw [monitor]
    exact ⟨(Monitor.measure_sag ..).trans sag, rfl, classified', Monitor.measure_published .., Monitor.measure_recoveryCount ..,
      elapsed, congrArg (fun x : Settled => some x.marks) settled, State.trackCell_recorder_of_going (by rw [settled]; rfl)⟩
  case after =>
    have least : m.minRetained = (s.measured w).minRetained := by rw [hm]; exact s.settled_minRetained w
    have worst : worse = (s.measured w).worsened w.bank (s.liveTracker w).jump := by
      rw [hworse, hm, s.trackCell_jump, s.measured_worsened]
      rfl
    obtain ⟨base, rfl, step⟩ : ∃ base, marks = { base with classRise := rises } ∧ s.goesOn w x count kept base := by
      rw [least, worst] at cases
      rcases cases with ⟨sag, high, hold, hx, hc, hk, rfl⟩ | ⟨sag, low, hx, hc, hk, rfl⟩ | ⟨sag, high, hold, hx, hc, hk, rfl⟩
        | ⟨sag, low, hx, hc, hk, rfl⟩
      · exact ⟨_, rfl, .inl ⟨sag, high, hold, hx, hc, hk, rfl⟩⟩
      · exact ⟨_, rfl, .inr (.inl ⟨sag, low, hx, hc, hk, rfl⟩)⟩
      · exact ⟨_, rfl, .inr (.inr (.inl ⟨sag, high, hold, hx, hc, hk, rfl⟩))⟩
      · exact ⟨_, rfl, .inr (.inr (.inr ⟨sag, low, hx, hc, hk, rfl⟩))⟩
    have settled := State.settled_of_goesOn classified step
    have monitor : m = { (s.measured w).classedBy w.bank kept with sag := x, recoveryCount := count } := by
      rw [hm]
      exact congrArg Settled.monitor settled
    have classes : ∀ y, cls y = classOf w.bank y := hcls
    have rise : classRises s.monitor.published (some (classOf w.bank kept)) = rises := by
      rw [Bool.eq_iff_iff, classRises_iff, hrises, classes, monitor]
      rfl
    rw [rise] at settled
    rw [monitor, classes]
    exact ⟨rfl, rfl, rfl, rfl, rfl, State.measured_elapsed step.inEvent, congrArg (fun y : Settled => some y.marks) settled,
      State.trackCell_recorder_of_going (by rw [settled]; exact step.confirmation)⟩

/-! ### The end of the event -/

/-- The accepted cell that brings the recovery count to RECOVERY_HOLD ends the event; in a recovery or a classified event its worst
values stand (R51, R53 to R55, log entry 19). -/
theorem State.settled_of_end {s : State} {w : Work} (high : w.bank.recoveryLevel ≤ (s.measured w).minRetained)
    (h : (s.monitor.sag = .recovering ∧ w.bank.recoveryHold ≤ s.monitor.recoveryCount + 1)
      ∨ (s.monitor.sag = .sag ∧ w.bank.recoveryHold ≤ 1
        ∧ (s.monitor.classified = true ∨ w.bank.halfWindow ≤ min 65535 (s.monitor.elapsed + 1)))) :
    ∃ marks m, marks.confirmation = false ∧ s.settled w = Monitor.endEvent w.bank marks m
      ∧ (s.monitor.sag = .recovering ∨ s.monitor.classified = true → m.worst = s.monitor.worst) := by
  have worst : (s.measured w).worst = s.monitor.worst := Monitor.measure_worst _ _ _ _
  rcases h with ⟨sag, hold⟩ | ⟨sag, once, formed⟩
  · rw [← s.monitor.measure_recoveryCount w.bank w.linkReturn w.sense.supply] at hold
    refine ⟨_, _, rfl, (State.settled_recovering sag).trans (Monitor.settleRecovering_ends high hold _), fun _ => ?_⟩
    rw [Monitor.publish_eq]
    exact worst
  · refine ⟨_, _, rfl, (State.settled_sag sag).trans
      ((Monitor.settleSag_recovers (State.measured_formed sag formed) high _).trans (if_pos once)), fun stands => ?_⟩
    have classified : (s.measured w).classified = true :=
      (s.measured_classified w).trans (stands.resolve_left (by rw [sag]; exact nofun))
    exact (if_pos classified).trans worst

/-- Settles O18: the first stage ends the event, and the last one closes its record. -/
theorem eventEndClosesTheRecord : Obligations.EventEndClosesTheRecord := by
  refine ⟨fun s w o h ho high ends => ?_, fun e f => rfl⟩
  obtain ⟨marks, m, unmarked, settled, stands⟩ := State.settled_of_end high ends
  have ended : (s.settled w).marks.eventEnd = true := by rw [settled]; rfl
  have going : (s.settled w).marks.confirmation = false := by rw [settled]; exact unmarked
  obtain ⟨windows, sums, monitor⟩ := s.cellWorked_monitor w
  have worst : (s.cellWorked w).monitor.worst = (s.settled w).monitor.worst := by rw [monitor]
  have recorder := State.cellWorked_recorder_of_end ended going ho
  rw [← worst] at recorder
  refine ⟨s.cellWorked w, exec_of_monitorOccurrence h rfl (eventEnd_mem_occurrences ended), s.cellWorked_work w, ?_, ?_, ?_, ?_,
    fun known => ?_, ?_, ?_, ?_, fun full => ?_⟩
  · rw [monitor, settled]; rfl
  · rw [monitor, settled]; rfl
  · rw [monitor, settled]; rfl
  · rw [monitor, settled]; rfl
  · rw [worst, settled]
    exact stands known
  · rw [recorder]; rfl
  · rw [recorder]; rfl
  · rw [recorder]; rfl
  · exact State.cellWorked_discards ended going (by rw [ho]; rfl) full

end Sys2Proof.Machine
end

section
/-! The end of acquisition and the expiry of the burst timer, in an accepted cell or in the gap before it (R12, R46, R49, R56). -/
open Sys2Proof Sys2Proof.Machine
namespace Sys2Proof.Machine

/-! ### The burst timer through the gap -/

/-- What a cell's work keeps of its own through the gap: the bank it reads and the missing cells left. -/
def Work.gapReads (w : Work) : Bank × Nat := (w.bank, w.missing)

/-- A commit at the end of a cell's work leaves the work's bank and gap (R11, R185). -/
theorem State.endCell_gapReads (s : State) (zero : Bool) :
    (s.endCell zero).work.map Work.gapReads = s.work.map Work.gapReads := by
  have committed : ∀ u : State, u.commitBank.work.map Work.gapReads = u.work.map Work.gapReads := fun u => by
    change (u.work.map _).map Work.gapReads = _
    rw [Option.map_map]
    rfl
  have aged : (s.ageCommit zero).work.map Work.gapReads = s.work.map Work.gapReads := by
    rcases s.ageCommit_cases zero with ⟨r, e⟩ | ⟨r, e⟩ | e | e <;> rw [e]
    · rw [State.takeCommit, State.answer_work]
      exact committed s.growOlder
    · rw [State.expireCommit_work]
      rfl
    · rfl
  rw [State.endCell, State.settleEcho_work]
  rcases (s.ageCommit zero).waitImage_cases with e | e <;> rw [e]
  · rw [State.commitImage, State.autoEnlist_work]
    exact (committed _).trans aged
  · exact aged

theorem State.settleSwitch_gapReads (s : State) : s.settleSwitch.work.map Work.gapReads = s.work.map Work.gapReads := by
  unfold State.settleSwitch
  split
  · rfl
  next w hw =>
    split
    · rw [State.switchEpoch_work, hw]
      rfl
    · rfl

/-- The burst timer runs out in the gap or in the accepted cell after it: it holds no more than the cells still to be worked, and
where it stands at 0 its expiry is noted. The sag state and the recovery count stand through the gap (R56). -/
structure BurstRunsOut (b : Bank) (x : SagState) (n : Nat) (s : State) : Prop where
  work : ∃ missing, s.work.map Work.gapReads = some (b, missing) ∧ s.monitor.burstTimer ≤ missing + 1
  noted : s.monitor.burstTimer = 0 → .burstTimerExpiry ∈ s.came
  sag : s.monitor.sag = x
  count : s.monitor.recoveryCount = n

/-- A missing cell counts the timer down, and notes its expiry (R42, R56). -/
theorem BurstRunsOut.passMissing {b : Bank} {x : SagState} {n : Nat} {s : State} {w : Work}
    (h : BurstRunsOut b x n s) (hw : s.work = some w) : BurstRunsOut b x n (s.passMissing w) := by
  obtain ⟨⟨missing, reads, bound⟩, noted, sag, count⟩ := h
  rw [hw] at reads
  obtain ⟨rfl, rfl⟩ := Prod.mk.inj (Option.some.inj reads)
  have monitor : (s.passMissing w).monitor = s.monitorAlone w := rfl
  have burst : (s.monitorAlone w).burstTimer = s.monitor.burstTimer - 1 := by rw [State.monitorAlone, Monitor.workMissing_eq]
  refine ⟨⟨w.missing - 1, rfl, ?_⟩, fun expired => ?_, ?_, ?_⟩
  · rw [monitor, burst]
    omega
  · rw [monitor, burst] at expired
    change _ ∈ (if burstExpires s.monitor (s.monitorAlone w) then s.came ++ [Occurrence.burstTimerExpiry] else s.came)
    split
    · exact List.mem_append_right _ (List.mem_singleton.2 rfl)
    next still =>
      refine noted ?_
      rw [burstExpires_iff burst] at still
      omega
  · rw [monitor, State.monitorAlone, Monitor.workMissing_eq, sag]
  · rw [monitor, State.monitorAlone, Monitor.workMissing_eq, count]

/-- What happens at the end of a missing cell's work leaves the burst timer (R56, R185, R192). -/
theorem BurstRunsOut.workMissing {b : Bank} {x : SagState} {n : Nat} {s : State} {w : Work}
    (h : BurstRunsOut b x n s) (hw : s.work = some w) : BurstRunsOut b x n (s.workMissing w).settleSwitch := by
  obtain ⟨⟨missing, reads, bound⟩, noted, sag, count⟩ := h.passMissing hw
  obtain ⟨windows, sums, monitor⟩ : ∃ windows sums, (s.workMissing w).settleSwitch.monitor
      = { (s.passMissing w).monitor with windows := windows, sums := sums } := by
    rw [State.settleSwitch_monitor]
    exact (State.sameMeasures_endCell (s.passMissing w).restartChecks _).exists_eq
  refine ⟨⟨missing, ?_, ?_⟩, fun expired => ?_, ?_, ?_⟩
  · rw [State.settleSwitch_gapReads, State.workMissing, State.endCell_gapReads]
    exact reads
  · rw [monitor]; exact bound
  · rw [monitor] at expired
    rw [State.settleSwitch_came]
    exact State.came_endCell (s := (s.passMissing w).restartChecks) (noted expired) _
  · rw [monitor]; exact sag
  · rw [monitor]; exact count

/-! ### The accepted cell -/

/-- The burst timer is started again in a cell that ends an event alone, and a confirmation takes a burst index of 0 where it does
not run (R49, R55, R56). -/
theorem Monitor.settle_burst {b : Bank} {m : Monitor} (deviates : Bool) (jump : Int) (expired : m.burstTimer = 0)
    (h : (m.sag = .acquiring ∨ m.sag = .normal ∨ m.sag = .suspect) ∨ (m.sag = .sag ∧ 2 ≤ b.recoveryHold)
      ∨ (m.sag = .recovering ∧ m.recoveryCount + 1 < b.recoveryHold) ∨ b.burstWindow = 0) :
    (m.settle b deviates jump).monitor.burstTimer = 0
      ∧ ((m.settle b deviates jump).monitor.sag = .sag → m.sag ≠ .sag → m.sag ≠ .recovering →
          (m.settle b deviates jump).monitor.lastBurst = 0) := by
  have confirms : ∀ n : Nat, (Monitor.confirm b jump { m with deviationCount := n }).monitor.lastBurst = 0 := fun n =>
    if_neg (by simp [expired])
  cases sag : m.sag with
  | acquiring =>
    rw [Monitor.settle_acquiring b _ jump sag]
    refine ⟨expired, fun x => ?_⟩
    change (if _ then SagState.normal else .acquiring) = .sag at x
    split at x <;> cases x
  | normal =>
    rw [Monitor.settle_normal b _ jump sag]
    unfold Monitor.settleNormal
    split
    · split
      · exact ⟨expired, nofun⟩
      · exact ⟨expired, fun _ _ _ => confirms 1⟩
    · exact ⟨expired, fun x => absurd (sag.symm.trans x) nofun⟩
  | suspect =>
    rw [Monitor.settle_suspect b _ jump sag]
    unfold Monitor.settleSuspect
    split
    · split
      · exact ⟨expired, fun _ _ _ => confirms _⟩
      · exact ⟨expired, fun x => absurd (sag.symm.trans x) nofun⟩
    · exact ⟨expired, nofun⟩
  | sag =>
    rw [Monitor.settle_sag b _ jump sag]
    refine ⟨?_, fun _ other => absurd rfl other⟩
    simp only [sag, reduceCtorEq, or_self, false_or, false_and, true_and] at h
    unfold Monitor.settleSag
    simp only [Monitor.publish_eq]
    split
    · split
      next once => exact h.resolve_left (by omega)
      next => exact expired
    · exact expired
  | recovering =>
    rw [Monitor.settle_recovering b _ jump sag]
    refine ⟨?_, fun _ _ other => absurd rfl other⟩
    simp only [sag, reduceCtorEq, or_self, false_or, false_and, true_and] at h
    unfold Monitor.settleRecovering
    simp only [Monitor.publish_eq]
    split
    · split
      next hold => exact h.resolve_left (by omega)
      next => exact expired
    · exact expired

/-- The accepted cell after the gap leaves the burst timer at 0, its expiry noted, unless the cell ends an event; a confirmation in
it takes burst index 0 (R49, R55, R56). -/
theorem BurstRunsOut.trackCell {b : Bank} {x : SagState} {n : Nat} {s : State} {w : Work} (h : BurstRunsOut b x n s)
    (hw : s.work = some w) (missing : w.missing = 0)
    (kept : (x = .acquiring ∨ x = .normal ∨ x = .suspect) ∨ (x = .sag ∧ 2 ≤ b.recoveryHold)
      ∨ (x = .recovering ∧ n + 1 < b.recoveryHold) ∨ b.burstWindow = 0) :
    (s.settled w).monitor.burstTimer = 0 ∧ .burstTimerExpiry ∈ (s.trackCell w).came
      ∧ ((s.settled w).monitor.sag = .sag → x ≠ .sag → x ≠ .recovering → (s.settled w).monitor.lastBurst = 0) := by
  obtain ⟨⟨left, reads, bound⟩, noted, rfl, rfl⟩ := h
  rw [hw] at reads
  obtain ⟨rfl, rfl⟩ := Prod.mk.inj (Option.some.inj reads)
  have burst : (s.measured w).burstTimer = s.monitor.burstTimer - 1 := Monitor.measure_burstTimer _ _ _ _
  have sag : (s.measured w).sag = s.monitor.sag := Monitor.measure_sag _ _ _ _
  have count : (s.measured w).recoveryCount = s.monitor.recoveryCount := Monitor.measure_recoveryCount _ _ _ _
  rw [← sag, ← count] at kept
  obtain ⟨zero, index⟩ := Monitor.settle_burst (s.deviates w) (s.liveTracker w).jump (by omega) kept
  rw [← State.settled_eq, sag] at index
  refine ⟨zero, ?_, index⟩
  rcases Nat.eq_zero_or_pos s.monitor.burstTimer with out | running
  · exact List.mem_append_left _ (noted out)
  · exact List.mem_append_right _ (burstTimerExpiry_mem_occurrences (by omega) zero)

/-- Carried through its gap, the work ends with the accepted cell's own; what each missing cell keeps holds before that. -/
theorem State.finishWork_through_gap {P : State → Prop}
    (keeps : ∀ (u : State) (v : Work), u.work = some v → P u → P (u.workMissing v).settleSwitch) {s : State} {w : Work}
    (hw : s.work = some w) (stage : w.stage = .accepted) (hs : P s) :
    ∃ (u : State) (v : Work), P u ∧ u.work = some v ∧ v.missing = 0
      ∧ s.finishWork = (u.trackCell v).lastStages (u.handOn v) := by
  have gap : s.inGap w.sense w.missing := ⟨w, hw, rfl, stage, rfl⟩
  obtain ⟨⟨v, hv, -, accepted, none⟩, hu⟩ := State.iterate_advance_keeps keeps gap hs
  exact ⟨_, v, hu, hv, none, (State.finishWork_of_inGap gap).trans (State.finishWork_begins hv accepted none)⟩

/-- Settles O14: the first stage ends the acquisition; the burst timer runs out in the gap or in the accepted cell. -/
theorem acquireEndAndBurstTimerExpiry : Obligations.AcquireEndAndBurstTimerExpiry := by
  refine ⟨fun s w h sag reached => ?acquires, fun s w ⟨acts, hw, stage⟩ runs bound kept => ?expires⟩
  case acquires =>
    have plain : s.settled w = .plain { s.measured w with
        sag := .normal, acquireCount := (if w.linkReturn then 0 else s.monitor.acquireCount) + 1,
        deviationCount := s.monitor.deviationCount } := by
      rw [State.settled_eq]
      refine Monitor.settle_plain _ (.inl ?_)
      simp [State.measured, sag, reached]
    have normal : (s.settled w).monitor.sag = .normal := by rw [plain]; rfl
    have recorder : (s.cellWorked w).recorder = s.recorder.keepLowest (s.storeWorked w).energy := by
      rw [State.cellWorked_recorder_of_going s w (by rw [plain]; rfl), State.recorderOpened_of_going (by rw [plain]; rfl)]
    obtain ⟨windows, sums, monitor⟩ := s.cellWorked_monitor w
    refine ⟨s.cellWorked w, exec_of_monitorOccurrence h rfl (acquireEnd_mem_occurrences sag normal), s.cellWorked_work w, ?_⟩
    rw [recorder, s.cellWorked_ingress, monitor]
    refine ⟨normal, ?_, rfl, rfl, rfl, Option.isSome_map, fun none => ?_⟩
    · rw [plain]; rfl
    · rw [Recorder.keepLowest, none]; rfl
  case expires =>
    have start : BurstRunsOut w.bank s.monitor.sag s.monitor.recoveryCount { s with came := [] } :=
      { work := ⟨w.missing, congrArg (Option.map Work.gapReads) hw, bound⟩
        noted := fun expired => absurd expired (Nat.pos_iff_ne_zero.1 runs)
        sag := rfl
        count := rfl }
    obtain ⟨u, v, runsOut, hv, none, finish⟩ :=
      State.finishWork_through_gap (fun _ _ hv h => h.workMissing hv) (by exact hw) stage start
    obtain ⟨zero, noted, index⟩ := runsOut.trackCell hv none kept
    have rest : s.restOfWork = (u.trackCell v).lastStages (u.handOn v) := finish
    have came : .burstTimerExpiry ∈ s.restOfWork.came := rest ▸ State.came_lastStages noted _
    obtain ⟨windows, sums, monitor⟩ : ∃ windows sums, s.restOfWork.monitor
        = { (u.settled v).monitor with windows := windows, sums := sums } :=
      rest ▸ (State.sameMeasures_finishCell _ _).exists_eq
    refine ⟨s.restOfWork, ?_, by rw [rest]; rfl, ?_, fun after => ?_⟩
    · change Host.Outcome.next _ = _
      rw [State.ready_acts acts, State.comesAbout_of_mem came]
    · rw [monitor]
      exact zero
    · rw [monitor] at after ⊢
      exact index after

end Sys2Proof.Machine
end

section
/-! LOAD_ENVELOPE and LOAD_RESPONSE: a payload read back as the rows or the pairs it was formed of, and the shadow bank the request
leaves (R75, R76). -/
open Sys2Proof Sys2Proof.Machine
namespace Sys2Proof.Machine

/-! ### A write settled on the shadow bank -/

theorem Feeder.ofNumber_number (f : Feeder) : Feeder.ofNumber f.number = some f := by cases f <;> rfl

theorem Request.feeder_of_target {r : Request} {f : Feeder} (h : r.target.toNat = f.number) : r.feeder = some f := by
  rw [Request.feeder, h, Feeder.ofNumber_number]

/-- A write that is stored replaces the shadow bank and is answered (R175). -/
theorem State.answered_stored (s : State) (r : Request) (bank : Bank) (result : Result) (payload : List Word) :
    answered { s with tables := { active := s.tables.active, shadow := bank } }
      ((s.take r).settleWrite r (.stored bank result payload)) r result payload :=
  State.answered_answer { s with tables := { active := s.tables.active, shadow := bank } } r result payload

/-- A write that is refused is answered and writes nothing. -/
theorem State.answered_refused (s : State) (r : Request) (result : Result) :
    answered s ((s.take r).settleWrite r (.refused result)) r result [] :=
  s.answered_answer r result []

/-- A request's row carries out the request where the part acts and that is the next request (R171). -/
theorem State.ready_request {s : State} {c : Command} {r : Request} (acts : s.acts) (h : s.requests c r)
    (act : Request → State → State) : (s.ready fun u => u.request c act) = act r (s.take r) := by
  rw [State.ready_acts acts, State.request_requests h]

theorem exec_loadEnvelope_of_requests {s : State} {r : Request} (acts : s.acts) (h : s.requests .loadEnvelope r) :
    exec .loadEnvelope s = .next ((s.take r).settleWrite r (s.tables.shadow.loadEnvelope r)) :=
  congrArg Host.Outcome.next (State.ready_request acts h _)

theorem exec_loadResponse_of_requests {s : State} {r : Request} (acts : s.acts) (h : s.requests .loadResponse r) :
    exec .loadResponse s = .next ((s.take r).settleWrite r (s.tables.shadow.loadResponse r)) :=
  congrArg Host.Outcome.next (State.ready_request acts h _)

/-! ### The rows of an envelope -/

/-- The two payload words of an envelope row (R75). -/
def EnvelopeRow.words (x : EnvelopeRow) : List Word := [BitVec.ofNat 16 x.duration, BitVec.ofNat 16 x.floor]

/-- Both numbers of the row fit a word. -/
def EnvelopeRow.fits (x : EnvelopeRow) : Prop := x.duration < 65536 ∧ x.floor < 65536

theorem toNat_ofNat_word {n : Nat} (h : n < 65536) : (BitVec.ofNat 16 n).toNat = n := by
  rw [BitVec.toNat_ofNat, Nat.mod_eq_of_lt h]

/-- The rows read from a payload are those it was formed of, each floor held at 1000 (R75). -/
theorem envelopeRows_words {rows : List EnvelopeRow} (fits : ∀ x ∈ rows, x.fits) :
    envelopeRows (rows.flatMap EnvelopeRow.words) = rows.map fun x => { duration := x.duration, floor := min 1000 x.floor } := by
  induction rows with
  | nil => rfl
  | cons x rows ih =>
    obtain ⟨⟨duration, floor⟩, rest⟩ := List.forall_mem_cons.1 fits
    calc envelopeRows ((x :: rows).flatMap EnvelopeRow.words)
        = ⟨(BitVec.ofNat 16 x.duration).toNat, min 1000 (BitVec.ofNat 16 x.floor).toNat⟩
          :: envelopeRows (rows.flatMap EnvelopeRow.words) := rfl
      _ = _ := by rw [toNat_ofNat_word duration, toNat_ofNat_word floor, ih rest, List.map_cons]

theorem floorsClamped_words {rows : List EnvelopeRow} (fits : ∀ x ∈ rows, x.fits) :
    floorsClamped (rows.flatMap EnvelopeRow.words) = rows.any fun x => decide (1000 < x.floor) := by
  induction rows with
  | nil => rfl
  | cons x rows ih =>
    obtain ⟨⟨-, floor⟩, rest⟩ := List.forall_mem_cons.1 fits
    calc floorsClamped ((x :: rows).flatMap EnvelopeRow.words)
        = (decide (1000 < (BitVec.ofNat 16 x.floor).toNat) || floorsClamped (rows.flatMap EnvelopeRow.words)) := rfl
      _ = _ := by rw [toNat_ofNat_word floor, ih rest, List.any_cons]

/-! ### The pairs of a Response Table -/

/-- The two payload words of a class and its mode (R76). -/
def ResponseEntry.words (x : ResponseEntry) : List Word := [BitVec.ofNat 16 x.eventClass, BitVec.ofNat 16 x.mode.code]

theorem Mode.ofResponseCode_code {m : Mode} (h : m ≠ .none) : Mode.ofResponseCode m.code = some m := by
  cases m
  case none => exact absurd rfl h
  all_goals rfl

theorem Mode.ofResponseCode_above {n : Nat} (h : 3 < n) : Mode.ofResponseCode n = Option.none := by
  unfold Mode.ofResponseCode
  split
  case h_5 => rfl
  all_goals omega

theorem Mode.code_lt (m : Mode) : m.code < 65536 := by cases m <;> decide

/-- Pairs of a class 0 to 15 and a mode of code 0 to 3 are read as they were formed (R76). -/
theorem responseEntries_words {entries : List ResponseEntry} (named : ∀ x ∈ entries, x.eventClass ≤ 15 ∧ x.mode ≠ .none) :
    responseEntries (entries.flatMap ResponseEntry.words) = some entries := by
  induction entries with
  | nil => rfl
  | cons x entries ih =>
    obtain ⟨⟨low, mode⟩, rest⟩ := List.forall_mem_cons.1 named
    have eventClass : (BitVec.ofNat 16 x.eventClass).toNat = x.eventClass := toNat_ofNat_word (by omega)
    change responseEntries (BitVec.ofNat 16 x.eventClass :: BitVec.ofNat 16 x.mode.code :: entries.flatMap ResponseEntry.words) = _
    simp only [responseEntries, toNat_ofNat_word x.mode.code_lt, Mode.ofResponseCode_code mode, ih rest, eventClass, low, if_true]

/-- A payload with a class above 15 or a mode code above 3 gives no pairs, whatever pairs stand before it (R76). -/
theorem responseEntries_of_unnamed {c m : Word} (bad : 15 < c.toNat ∨ 3 < m.toNat) (after : List Word) :
    ∀ {before : List Word}, before.length % 2 = 0 → responseEntries (before ++ c :: m :: after) = none
  | [], _ => by
    rw [List.nil_append, responseEntries]
    rcases bad with high | high
    · split
      · exact if_neg (Nat.not_le_of_lt high)
      · rfl
    · rw [Mode.ofResponseCode_above high]
  | [_], even => by simp at even
  | d :: n :: before, even => by
    have rest : responseEntries (before ++ c :: m :: after) = none :=
      responseEntries_of_unnamed bad after (by simp only [List.length_cons] at even; omega)
    rw [List.cons_append, List.cons_append, responseEntries, rest]
    split
    · contradiction
    · rfl

/-! ### The two requests -/

theorem Bank.loadEnvelope_of_words {r : Request} {f : Feeder} {rows : List EnvelopeRow} (target : r.feeder = some f)
    (fits : ∀ x ∈ rows, x.fits) (payload : r.payload.tail = rows.flatMap EnvelopeRow.words) (b : Bank) :
    b.loadEnvelope r = .stored
      (b.setFeeder f
        { b.feeder f with envelope := rows.map fun x => { duration := x.duration, floor := min 1000 x.floor } })
      (if rows.any (fun x => decide (1000 < x.floor)) then .clamped else .done) [] := by
  rw [Bank.loadEnvelope, target, payload, envelopeRows_words fits, floorsClamped_words fits]

theorem Bank.loadResponse_of_words {r : Request} {f : Feeder} {entries : List ResponseEntry} (target : r.feeder = some f)
    (read : responseEntries r.payload = some entries) (b : Bank) :
    b.loadResponse r = .stored
      (b.setFeeder f { b.feeder f with response := writeEntries (b.feeder f).response entries }) .done [] := by
  rw [Bank.loadResponse, target, read]

theorem Bank.loadResponse_of_unnamed {r : Request} (unread : responseEntries r.payload = none) (b : Bank) :
    b.loadResponse r = .refused .malformed := by
  rw [Bank.loadResponse, unread]
  split
  · contradiction
  · rfl

/-- Settles O33. -/
theorem loadedTablesReplaceTheShadowTables : Obligations.LoadedTablesReplaceTheShadowTables := by
  refine ⟨fun s r f count rows acts requests target fits payload => ?_,
    fun s r f entries acts requests target named payload => ?_,
    fun s r before after c m acts requests payload even bad => ?_⟩
  · refine ⟨_, exec_loadEnvelope_of_requests acts requests, ?_⟩
    have tail : r.payload.tail = rows.flatMap EnvelopeRow.words := by rw [payload]; rfl
    rw [Bank.loadEnvelope_of_words (Request.feeder_of_target target) fits tail]
    exact s.answered_stored r _ _ []
  · refine ⟨_, exec_loadResponse_of_requests acts requests, ?_⟩
    have read : responseEntries r.payload = some entries := payload ▸ responseEntries_words named
    rw [Bank.loadResponse_of_words (Request.feeder_of_target target) read]
    exact s.answered_stored r _ .done []
  · refine ⟨_, exec_loadResponse_of_requests acts requests, ?_⟩
    rw [Bank.loadResponse_of_unnamed (payload ▸ responseEntries_of_unnamed bad after even)]
    exact s.answered_refused r .malformed

end Sys2Proof.Machine
end

section
/-! A Feeder Engine's lookups and its decision step, feeder state by feeder state (R62 to R72, R82 to R89). -/
open Sys2Proof Sys2Proof.Machine
namespace Sys2Proof.Machine

/-! ### The envelope floor -/

/-- In a list ordered by a number, an element whose number none exceeds is the last. -/
theorem getLast?_of_pairwise_lt {α : Type} {g : α → Nat} {l : List α} {x : α} (ordered : l.Pairwise fun y z => g y < g z)
    (mem : x ∈ l) (most : ∀ y ∈ l, g y ≤ g x) : l.getLast? = some x := by
  obtain rfl | ⟨init, last, rfl⟩ := l.eq_nil_or_concat'
  · cases mem
  · have before : ∀ y ∈ init, g y < g last := fun y hy =>
      (List.pairwise_append.1 ordered).2.2 y hy last (List.mem_singleton_self last)
    have highest : g last ≤ g x := most last (by simp)
    rcases List.mem_append.1 mem with earlier | final
    · exact absurd (before x earlier) (Nat.not_lt.2 highest)
    · rw [List.mem_singleton.1 final, List.getLast?_concat]

/-- The envelope floor is that of the row with the longest duration not above the elapsed count (R62). -/
theorem envelopeFloor_of_longest {rows : List EnvelopeRow} {r : EnvelopeRow} {elapsed : Nat}
    (ordered : (rows.map EnvelopeRow.duration).Pairwise (· < ·)) (mem : r ∈ rows) (reached : r.duration ≤ elapsed)
    (longest : ∀ q ∈ rows, q.duration ≤ elapsed → q.duration ≤ r.duration) : envelopeFloor rows elapsed = r.floor := by
  have last : (rows.filter fun q => q.duration ≤ elapsed).getLast? = some r :=
    getLast?_of_pairwise_lt ((List.pairwise_map.1 ordered).filter _) (by simp [mem, reached])
      fun q hq => by
        obtain ⟨hq, le⟩ := List.mem_filter.1 hq
        exact longest q hq (of_decide_eq_true le)
  rw [envelopeFloor, last]

/-! ### The lookups -/

/-- The Response Table answers the published class with the mode (R64). -/
def CellView.answers (v : CellView) (m : Mode) : Prop := ∃ c, v.published = some c ∧ v.settings.response[c]? = some m

theorem FeederBank.responseTo_of_some {fb : FeederBank} {c : Nat} {m : Mode} (h : fb.response[c]? = some m) :
    fb.responseTo c = m := by
  rw [FeederBank.responseTo, List.getD_eq_getElem?_getD, h, Option.getD_some]

section
variable {v : CellView} {m : Mode}

/-- A cell that does not qualify, or in which no support is needed, changes nothing (R72). -/
theorem standingLookupIf_of_idle (h : (v.standing && v.needsSupport) = false) (e : Engine) :
    standingLookupIf v e = Lookup.unmade e := by
  unfold standingLookupIf standingLookup
  split
  · rfl
  · split
    · next standing => rw [standing, Bool.true_and] at h; simp [h, Lookup.unmade]
    · rfl

/-- Where support is needed the class's response is recorded, and DECLINE declines (R72). -/
theorem standingLookupIf_of_support (h : (v.standing && v.needsSupport) = true) (answers : v.answers m) (e : Engine) :
    standingLookupIf v e = ⟨{ e with mode := m }, if m = .decline then .declined else .inject m⟩ := by
  obtain ⟨c, published, entry⟩ := answers
  obtain ⟨standing, need⟩ := Bool.and_eq_true_iff.1 h
  rw [standingLookupIf, published]
  simp only [standing, standingLookup, need, if_true, FeederBank.responseTo_of_some entry]
  cases m <;> rfl

/-- The lookup of an INJECTING feeder: the response is recorded at the classification point and at a class rise, and drives unless
it is DECLINE; at the classification point alone a sag that is tolerated ends the injection (R67, R70, R71). -/
theorem injectingLookup_eq {cp rise : Bool} (hcp : cp = v.marks.classificationPoint) (hrise : rise = v.marks.classRise)
    (answers : (cp || rise) = true → v.answers m) (e : Engine) :
    injectingLookup v e =
      ⟨{ e with
          mode := if cp || rise then m else e.mode
          drive := if (cp || rise) && !decide (m = .decline) then m else e.drive },
        if (cp || rise) && decide (m = .decline) then .declined
        else if cp && !decide (m = .decline) && !v.needsSupport then .tolerated else .goOn⟩ := by
  unfold injectingLookup
  rw [← hcp, ← hrise]
  cases marked : cp || rise
  case false =>
    obtain ⟨rfl, rfl⟩ := Bool.or_eq_false_iff.1 marked
    cases v.published <;> rfl
  case true =>
    obtain ⟨c, published, entry⟩ := answers marked
    rw [published]
    cases cp
    case true =>
      simp only [classificationLookup, FeederBank.responseTo_of_some entry, if_true]
      cases m <;> cases v.needsSupport <;> rfl
    case false =>
      rw [Bool.false_or] at marked
      simp only [marked, classRiseLookup, FeederBank.responseTo_of_some entry, if_true]
      cases m <;> rfl

end

/-! ### The decision step -/

section
variable {v : CellView} {e : Engine} {m : Mode}

/-- A lookup that would put a STANDBY feeder into injection: the store low comes first, then echo mode (R82, R83). -/
theorem Engine.enterInjection_eq :
    e.enterInjection v m = if v.storeLow then { e with state := .shed, gain := 0, marks := { e.marks with shed := true } }
      else if v.echo then { e with marks := { e.marks with declined := true } }
      else { e with drive := m, state := .injecting, cause := none, marks := { e.marks with injected := true } } := rfl

/-- The decision step from STANDBY, outside a confirmation cell, where support is needed (R82, R83). -/
theorem Engine.decideStandby_of_support (confirmation : v.marks.confirmation = false)
    (h : (v.standing && v.needsSupport) = true) (answers : v.answers m) :
    e.decideStandby v = if m = .decline then { e with mode := m, marks := { e.marks with declined := true } }
      else Engine.enterInjection v m { e with mode := m } := by
  unfold Engine.decideStandby
  rw [confirmation, if_neg Bool.false_ne_true, standingLookupIf_of_support h answers]
  by_cases decline : m = .decline
  · simp only [decline, if_true]; rfl
  · simp only [decline, if_false]

theorem Engine.decideStandby_of_idle (confirmation : v.marks.confirmation = false)
    (h : (v.standing && v.needsSupport) = false) : e.decideStandby v = e := by
  unfold Engine.decideStandby
  rw [confirmation, if_neg Bool.false_ne_true, standingLookupIf_of_idle h]
  rfl

/-- The decision step from STANDBY in a confirmation cell (R68, R82, R83). -/
theorem Engine.decideStandby_of_confirmation (confirmation : v.marks.confirmation = true) :
    e.decideStandby v = if v.settings.provisionalMode = .none then e
      else Engine.enterInjection v v.settings.provisionalMode { e with mode := v.settings.provisionalMode } := by
  unfold Engine.decideStandby confirmationLookup
  rw [confirmation, if_pos rfl]
  cases v.settings.provisionalMode <;> rfl

/-- The decision step from INJECTING: the release takes the first of its conditions as its cause (R84). -/
theorem Engine.decideInjecting_of_lookup {x : Engine} {declined tolerated : Bool} (h : injectingLookup v e
      = ⟨x, if declined then .declined else if tolerated then .tolerated else .goOn⟩) :
    e.decideInjecting v = { x with
      state := if v.storeLow || declined || tolerated || v.marks.recoveryEntry then .releasing else x.state
      cause := if v.storeLow then some .shed else if declined || tolerated then some .lookup
        else if v.marks.recoveryEntry then some .recovery else x.cause
      marks := { x.marks with shed := x.marks.shed || v.storeLow, declined := x.marks.declined || declined } } := by
  unfold Engine.decideInjecting
  rw [h]
  cases low : v.storeLow
  case true => cases declined <;> cases tolerated <;> simp [Engine.release, Engine.markShed, Engine.markDeclined]
  case false =>
    cases declined
    case true => simp [Engine.release, Engine.markDeclined]
    case false =>
      cases tolerated
      case true => simp [Engine.release]
      case false => cases v.marks.recoveryEntry <;> simp [Engine.release]

/-- The decision step from INJECTING, with what the lookup answers written out (R67, R70, R71, R84). -/
theorem Engine.decideInjecting_eq {cp rise declined tolerated : Bool} (state : e.state = .injecting)
    (hcp : cp = v.marks.classificationPoint) (hrise : rise = v.marks.classRise) (answers : (cp || rise) = true → v.answers m)
    (hd : declined = ((cp || rise) && decide (m = .decline))) (ht : tolerated = (cp && !decide (m = .decline) && !v.needsSupport)) :
    e.decideInjecting v = { e with
      mode := if cp || rise then m else e.mode
      drive := if (cp || rise) && !decide (m = .decline) then m else e.drive
      state := if v.storeLow || declined || tolerated || v.marks.recoveryEntry then .releasing else .injecting
      cause := if v.storeLow then some .shed else if declined || tolerated then some .lookup
        else if v.marks.recoveryEntry then some .recovery else e.cause
      marks := { e.marks with shed := e.marks.shed || v.storeLow, declined := e.marks.declined || declined } } := by
  have lookup := injectingLookup_eq hcp hrise answers e
  rw [← hd, ← ht] at lookup
  rw [Engine.decideInjecting_of_lookup lookup]
  simp only [state]

/-- The decision step from RELEASING where support is needed (R85). -/
theorem Engine.decideReleasing_of_support (h : (v.standing && v.needsSupport) = true) (answers : v.answers m) :
    e.decideReleasing v = if m = .decline then { e with mode := m, marks := { e.marks with declined := true } }
      else if e.cause = some .shed then { e with mode := m }
      else if v.storeLow then { e with mode := m, cause := some .shed, marks := { e.marks with shed := true } }
      else { e with mode := m, drive := m, state := .injecting, cause := none, marks := { e.marks with injected := true } } := by
  unfold Engine.decideReleasing
  rw [standingLookupIf_of_support h answers]
  by_cases decline : m = .decline
  · simp only [decline, if_true]; rfl
  · simp only [decline, if_false]; rfl

/-- The decision step from RELEASING at the return to SAG: a recovery's release is taken back (R86). -/
theorem Engine.decideReturn_eq :
    e.decideReturn v = if e.cause ≠ some .recovery then e
      else if v.storeLow then { e with cause := some .shed, marks := { e.marks with shed := true } }
      else { e with state := .injecting, cause := none, marks := { e.marks with injected := true } } := by
  rw [ite_not]
  rfl

theorem Engine.decideReleasing_of_idle (h : (v.standing && v.needsSupport) = false) : e.decideReleasing v = e := by
  unfold Engine.decideReleasing
  rw [standingLookupIf_of_idle h]
  rfl

end

/-! ### The decision step takes the branch of the state -/

section
variable {e : Engine} (v : CellView) (x : Check)

theorem Engine.decision_of_standby (h : e.state = .standby) : (e.decision v x).engine = e.decideStandby v := by
  rw [Engine.decision, h]

theorem Engine.decision_of_injecting (h : e.state = .injecting) : (e.decision v x).engine = e.decideInjecting v := by
  rw [Engine.decision, h]

theorem Engine.decision_of_releasing (h : e.state = .releasing) :
    (e.decision v x).engine = if v.marks.returnToSag then e.decideReturn v else e.decideReleasing v := by
  rw [Engine.decision, h]

theorem Engine.decision_of_shed (h : e.state = .shed) : (e.decision v x).engine = e.decideShed v := by
  rw [Engine.decision, h]

/-- The states in which no step is decided stand (R80). -/
theorem Engine.decision_of_standing (h : e.state ∈ [FeederState.lockout, .retiring, .offline, .enlisting]) :
    (e.decision v x).engine = e := by
  unfold Engine.decision
  cases state : e.state
  case standby | injecting | releasing | shed | checking => rw [state] at h; simp at h
  all_goals rfl

end

end Sys2Proof.Machine
end

section
/-! What a Feeder Engine's gain and reference step make of a decision, and the confirmation cell (R68, R79, R82, R83, R87, R88,
R95, R111). -/
open Sys2Proof Sys2Proof.Machine
namespace Sys2Proof.Machine

/-! ### The gain and the reference step -/

section
variable (d : Engine) (fb : FeederBank)

/-- The gain a feeder is left with (R88). -/
theorem Engine.nextGain_eq :
    d.nextGain fb = if d.state = .injecting then min 4096 (d.gain + fb.attack)
      else if d.state = .releasing then d.gain - (if d.cause = some .shed then fb.shedDecay else fb.decay)
      else 0 := by
  unfold Engine.nextGain
  cases d.state <;> rfl

/-- A release that goes on, and every other state, stands at the new gain (R87, R88). -/
theorem Engine.gainStep_of_standing (h : d.state ≠ .releasing ∨ d.nextGain fb ≠ 0) :
    d.gainStep fb = { d with gain := d.nextGain fb } := by
  unfold Engine.gainStep Engine.endRelease Engine.releaseDone
  rcases h with state | gain
  · simp [state]
  · simp [gain]

/-- A release whose gain is gone ends in SHED, where that was its cause, or in STANDBY (R87). -/
theorem Engine.gainStep_of_ended (state : d.state = .releasing) (gain : d.nextGain fb = 0) :
    d.gainStep fb
      = { d with gain := 0, state := if d.cause = some .shed then .shed else .standby, cause := none } := by
  unfold Engine.gainStep Engine.endRelease Engine.releaseDone
  simp only [state, gain, decide_true, Bool.and_self, if_true, Engine.enter]
  split <;> rfl

/-- The gain step changes the gain, and the state and cause of a release that ends (R87, R88). -/
theorem Engine.gainStep_frame : d.gainStep fb
    = { d with gain := d.nextGain fb, state := (d.gainStep fb).state, cause := (d.gainStep fb).cause } := by
  by_cases ends : d.state = .releasing ∧ d.nextGain fb = 0
  · rw [d.gainStep_of_ended fb ends.1 ends.2, ends.2]
  · rw [d.gainStep_of_standing fb (not_and_or.1 ends)]

end

section
variable (v : CellView) (e : Engine) (x : Check)

/-- The reference step of a state that does not drive leaves the engine as it is (R79). -/
theorem Engine.referenceStep_of_not_driving (h : e.state.driving = false) : (e.referenceStep v x).1 = e := by
  unfold Engine.referenceStep
  cases state : e.state
  case injecting | releasing => rw [state] at h; cases h
  case checking => cases v.checkRuns <;> rfl
  all_goals rfl

theorem Engine.referenceStep_of_driving (h : e.state.driving = true) :
    (e.referenceStep v x).1 = e.countClamps (v.clampCount e.drive e.gain) := by
  unfold Engine.referenceStep
  cases state : e.state
  case injecting | releasing => rfl
  all_goals rw [state] at h; cases h

/-- Counting clamps changes the limited count and the limited mark only (R111). -/
theorem Engine.countClamps_frame (n : Nat) : e.countClamps n = { e with
    limitedCount := (e.countClamps n).limitedCount
    marks := { e.marks with limited := (e.countClamps n).marks.limited } } := by
  unfold Engine.countClamps
  split <;> rfl

/-- The reference step changes the limited count and the limited mark only (R79, R111). -/
theorem Engine.referenceStep_frame : (e.referenceStep v x).1 = { e with
    limitedCount := (e.referenceStep v x).1.limitedCount
    marks := { e.marks with limited := (e.referenceStep v x).1.marks.limited } } := by
  cases driving : e.state.driving
  · rw [e.referenceStep_of_not_driving v x driving]
  · rw [e.referenceStep_of_driving v x driving]
    exact e.countClamps_frame _

/-- What an engine's decision step leaves in a cell, after its confirmation step (R80). -/
def Engine.decided : Engine := ((e.confirmationStep v).decision v x).engine

theorem Engine.work_engine : (e.work v x).engine
    = (((e.decided v x).gainStep v.settings).referenceStep v ((e.confirmationStep v).decision v x).check).1 := rfl

/-- The gain and the reference step, where the decision step leaves a feeder that does not drive. -/
theorem Engine.work_of_not_driving (h : (e.decided v x).state.driving = false) :
    (e.work v x).engine = { e.decided v x with gain := 0 } := by
  have stands : (e.decided v x).gainStep v.settings = { e.decided v x with gain := 0 } := by
    have gain : (e.decided v x).nextGain v.settings = 0 := by
      unfold Engine.nextGain
      cases state : (e.decided v x).state
      case injecting | releasing => rw [state] at h; cases h
      all_goals rfl
    rw [(e.decided v x).gainStep_of_standing v.settings (.inl fun state => by rw [state] at h; cases h), gain]
  rw [Engine.work_engine, stands]
  exact Engine.referenceStep_of_not_driving v _ _ h

/-- The gain and the reference step change the gain, the state and cause of a release that ends, the limited count and the
limited mark (R87, R88, R111). -/
theorem Engine.work_frame : (e.work v x).engine = { e.decided v x with
    gain := (e.decided v x).nextGain v.settings
    state := ((e.decided v x).gainStep v.settings).state
    cause := ((e.decided v x).gainStep v.settings).cause
    limitedCount := (e.work v x).engine.limitedCount
    marks := { (e.decided v x).marks with limited := (e.work v x).engine.marks.limited } } := by
  rw [Engine.work_engine, Engine.referenceStep_frame, Engine.gainStep_frame]

theorem Engine.work_gain : (e.work v x).engine.gain = (e.decided v x).nextGain v.settings :=
  congrArg Engine.gain (e.work_frame v x)

/-- A release whose gain is gone ends in the cell (R87). -/
theorem Engine.work_ends (state : (e.decided v x).state = .releasing) (gain : (e.work v x).engine.gain = 0) :
    (e.work v x).engine.state = (if (e.decided v x).cause = some .shed then .shed else .standby)
      ∧ (e.work v x).engine.cause = none := by
  rw [Engine.work_gain] at gain
  rw [Engine.work_frame, Engine.gainStep_of_ended _ _ state gain]
  exact ⟨rfl, rfl⟩

theorem Engine.work_stands (h : (e.decided v x).state ≠ .releasing ∨ (e.work v x).engine.gain ≠ 0) :
    (e.work v x).engine.state = (e.decided v x).state ∧ (e.work v x).engine.cause = (e.decided v x).cause := by
  rw [Engine.work_gain] at h
  rw [Engine.work_frame, Engine.gainStep_of_standing _ _ h]
  exact ⟨rfl, rfl⟩

end

/-! ### The confirmation cell -/

section
variable {v : CellView} {e : Engine} {x : Check}

/-- The confirmation step restarts the mode, the accumulators and the marks, and marks a feeder that is not ready (R95). -/
theorem Engine.confirmationStep_of_confirmation (h : v.marks.confirmation = true) :
    e.confirmationStep v = { e with
      mode := .none, peak := 0, limitedCount := 0, energyDraw := 0
      marks := { injected := false, declined := false, linkLost := false, limited := false
                 shed := decide (e.state = .shed ∨ (e.state = .releasing ∧ e.cause = some .shed))
                 locked := decide (e.state = .lockout)
                 notReady := decide (e.state = .checking ∨ e.state = .retiring) } } := by
  rw [Engine.confirmationStep, if_pos h, Engine.readiness, show e.restart.state = e.state from rfl]
  cases state : e.state
  case releasing => by_cases shed : e.cause = some .shed <;> simp [Engine.restart, Engine.markShed, EventMarks.clear, state, shed]
  all_goals simp [Engine.restart, Engine.markShed, Engine.markLocked, Engine.markNotReady, EventMarks.clear, state]

theorem Engine.confirmationStep_of_none (h : v.marks.confirmation = false) : e.confirmationStep v = e := by
  rw [Engine.confirmationStep, h, if_neg Bool.false_ne_true]

section
variable (standby : e.state = .standby) (confirmation : v.marks.confirmation = true)
include standby confirmation

/-- What a confirmation decides for a STANDBY feeder (R68, R82, R83, R95). -/
theorem Engine.decided_at_confirmation :
    e.decided v x = if v.settings.provisionalMode = .none then e.restart
      else Engine.enterInjection v v.settings.provisionalMode { e.restart with mode := v.settings.provisionalMode } := by
  have restarted : e.confirmationStep v = e.restart := by
    rw [Engine.confirmationStep, if_pos confirmation, Engine.readiness]
    simp only [Engine.restart, standby]
  rw [Engine.decided, restarted, Engine.decision]
  simp only [Engine.restart, standby]
  exact Engine.decideStandby_of_confirmation confirmation

/-- The accumulators restart whatever the confirmation decides (R95). -/
theorem Engine.confirmation_restarts : (e.work v x).engine.peak = 0 ∧ (e.work v x).engine.energyDraw = 0 := by
  rw [Engine.work_frame, Engine.decided_at_confirmation standby confirmation, Engine.enterInjection_eq]
  repeat' split
  all_goals exact ⟨rfl, rfl⟩

/-- With PROVISIONAL_MODE NONE the feeder stays STANDBY (R68). -/
theorem Engine.confirmation_stays (none : v.settings.provisionalMode = .none) :
    (e.work v x).engine = { e.restart with gain := 0 } := by
  have decided : e.decided v x = e.restart := (Engine.decided_at_confirmation standby confirmation).trans (if_pos none)
  rw [Engine.work_of_not_driving v e x (by rw [decided]; exact congrArg FeederState.driving standby), decided]

/-- With E below the effective shed level the feeder is SHED (R82). -/
theorem Engine.confirmation_sheds (mode : v.settings.provisionalMode ≠ .none) (low : v.energy < v.shedLevel) :
    (e.work v x).engine = { e.restart with
      mode := v.settings.provisionalMode, state := .shed, gain := 0, marks := { EventMarks.clear with shed := true } } := by
  have storeLow : v.storeLow = true := decide_eq_true low
  have decided : e.decided v x = { e.restart with
      mode := v.settings.provisionalMode, state := .shed, gain := 0, marks := { EventMarks.clear with shed := true } } := by
    rw [Engine.decided_at_confirmation standby confirmation, if_neg mode, Engine.enterInjection_eq, if_pos storeLow]
    rfl
  rw [Engine.work_of_not_driving v e x (by rw [decided]; rfl), decided]

/-- In echo mode the feeder stays STANDBY, declined (R83). -/
theorem Engine.confirmation_declines (mode : v.settings.provisionalMode ≠ .none) (store : v.shedLevel ≤ v.energy)
    (echo : v.echo = true) : (e.work v x).engine = { e.restart with
      mode := v.settings.provisionalMode, gain := 0, marks := { EventMarks.clear with declined := true } } := by
  have storeLow : ¬ v.storeLow = true := by simpa [CellView.storeLow] using store
  have decided : e.decided v x = { e.restart with
      mode := v.settings.provisionalMode, marks := { EventMarks.clear with declined := true } } := by
    rw [Engine.decided_at_confirmation standby confirmation, if_neg mode, Engine.enterInjection_eq, if_neg storeLow, if_pos echo]
    rfl
  rw [Engine.work_of_not_driving v e x (by rw [decided]; exact congrArg FeederState.driving standby), decided]

/-- Otherwise the feeder enters INJECTING in the provisional mode (R68, R82, R88). -/
theorem Engine.confirmation_injects (mode : v.settings.provisionalMode ≠ .none) (store : v.shedLevel ≤ v.energy)
    (echo : v.echo = false) : (e.work v x).engine = { e.restart with
      mode := v.settings.provisionalMode, drive := v.settings.provisionalMode, state := .injecting, cause := none
      gain := min 4096 (e.gain + v.settings.attack)
      limitedCount := (e.work v x).engine.limitedCount
      marks := { EventMarks.clear with injected := true, limited := (e.work v x).engine.marks.limited } } := by
  have storeLow : ¬ v.storeLow = true := by simpa [CellView.storeLow] using store
  have decided : e.decided v x = { e.restart with
      mode := v.settings.provisionalMode, drive := v.settings.provisionalMode, state := .injecting, cause := none
      marks := { EventMarks.clear with injected := true } } := by
    rw [Engine.decided_at_confirmation standby confirmation, if_neg mode, Engine.enterInjection_eq, if_neg storeLow,
      if_neg (ne_true_of_eq_false echo)]
    rfl
  have stands := (e.decided v x).gainStep_of_standing v.settings (.inl (by rw [decided]; exact nofun))
  rw [Engine.work_frame, stands, decided]
  rfl

end
end

/-- The engines' work on a cell gives a feeder with no slot the restarts of the confirmation step alone (R95, R129). -/
theorem State.engageCell_of_unmapped (s : State) (w : Work) {f : Feeder} (h : f ∉ s.maps.active) :
    (s.engageCell w).engines.get f = if w.marks.confirmation then (s.engines.get f).restart else s.engines.get f :=
  calc (s.engageCell w).engines.get f
      = (s.engineStep w f).engine := by
        rw [State.engageCell, State.enginesStepped, State.engineSteps, PerFeeder.get_map, PerFeeder.get_build]
    _ = _ := by rw [State.engineStep, if_neg h]

/-! ### The obligation -/

/-- Settles O16. -/
theorem confirmationStartsOrShedsAStandbyFeeder : Obligations.ConfirmationStartsOrShedsAStandbyFeeder := by
  refine ⟨fun v e x standby confirmation => ?atConfirmation, fun v e d x low need standing cp rise c m hlow hneed hstanding
      hcp hrise answered noConfirmation hd => ?decisions, fun v e => Engine.confirmationStep_of_confirmation,
    fun s w f => s.engageCell_of_unmapped w, fun v e d t x ht hd => ?gain,
    fun rows r elapsed => envelopeFloor_of_longest⟩
  case atConfirmation =>
    obtain ⟨peak, energyDraw⟩ := Engine.confirmation_restarts (x := x) standby confirmation
    refine ⟨peak, energyDraw, fun none => ?_, fun mode low => ?_, fun mode store echo => ?_, fun mode store echo => ?_⟩
    · rw [Engine.confirmation_stays standby confirmation none]
      exact ⟨standby, rfl, rfl, rfl⟩
    · rw [Engine.confirmation_sheds standby confirmation mode low]
      exact ⟨rfl, rfl, rfl, rfl⟩
    · rw [Engine.confirmation_declines standby confirmation mode store echo]
      exact ⟨standby, rfl, rfl⟩
    · rw [Engine.confirmation_injects standby confirmation mode store echo]
      exact ⟨rfl, rfl, rfl, rfl, rfl⟩
  case decisions =>
    obtain rfl : low = v.storeLow := Bool.eq_iff_iff.2 (hlow.trans decide_eq_true_iff.symm)
    obtain rfl : need = v.needsSupport := Bool.eq_iff_iff.2 (hneed.trans decide_eq_true_iff.symm)
    obtain rfl : standing = v.standing := Bool.eq_iff_iff.2 (hstanding.trans (by simp [CellView.standing, and_assoc]))
    rw [hd]
    refine ⟨fun state idle => ?_, fun state support => ?_, fun state declined tolerated hdec htol => ?_,
      fun state returns => ?_, fun state stays idle => ?_, fun state support => ?_, fun state => ?_, fun state => ?_⟩
    · rw [Engine.decision_of_standby v x state]
      exact Engine.decideStandby_of_idle (noConfirmation state) idle
    · rw [Engine.decision_of_standby v x state]
      exact Engine.decideStandby_of_support (noConfirmation state) support ⟨c, answered (.inl ⟨.inl state, support⟩)⟩
    · rw [Engine.decision_of_injecting v x state]
      exact Engine.decideInjecting_eq state hcp hrise (fun marked => ⟨c, answered (.inr ⟨state, marked⟩)⟩) hdec htol
    · rw [Engine.decision_of_releasing v x state, if_pos returns]
      exact Engine.decideReturn_eq
    · rw [Engine.decision_of_releasing v x state, if_neg (ne_true_of_eq_false stays)]
      exact Engine.decideReleasing_of_idle idle
    · have stays : ¬ v.marks.returnToSag = true := fun returns => by simp [CellView.standing, returns] at support
      rw [Engine.decision_of_releasing v x state, if_neg stays]
      exact Engine.decideReleasing_of_support support ⟨c, answered (.inl ⟨.inr state, support⟩)⟩
    · exact Engine.decision_of_shed v x state
    · exact Engine.decision_of_standing v x state
  case gain =>
    obtain rfl : d = e.decided v x := hd
    obtain rfl := ht
    have frame := e.work_frame v x
    exact ⟨Engine.confirmationStep_of_none, (e.work_gain v x).trans (Engine.nextGain_eq _ _), by rw [frame], by rw [frame],
      congrArg Engine.marks frame, e.work_ends v x, e.work_stands v x⟩

end Sys2Proof.Machine
end

section
/-! The gain of one engine stays at most 4096, and 0 outside INJECTING and RELEASING: what each operation on an engine keeps of it
(R87, R88). -/
open Sys2Proof Sys2Proof.Machine
namespace Sys2Proof.Machine

/-- The gain is at most 4096, and 0 unless the feeder is INJECTING or RELEASING (R88). -/
def Engine.gainSound (e : Engine) : Prop := e.gain ≤ 4096 ∧ (e.state.driving = false → e.gain = 0)

theorem Engine.gainSound_of_zero {e : Engine} (h : e.gain = 0) : e.gainSound := ⟨h ▸ Nat.zero_le _, fun _ => h⟩

theorem Engine.gainSound_reset : Engine.reset.gainSound := Engine.gainSound_of_zero rfl

section
variable {e : Engine} (h : e.gainSound)
include h

theorem Engine.gainSound.congr {x : Engine} (gain : x.gain = e.gain) (state : x.state = e.state) : x.gainSound := by
  unfold Engine.gainSound
  rwa [gain, state]

/-! ### Transitions -/

/-- A transition into a state takes the gain to 0 unless the state drives (R88). -/
theorem Engine.gainSound.enter (x : FeederState) : (e.enter x).gainSound := by
  cases driving : x.driving
  case false => exact Engine.gainSound_of_zero (by rw [Engine.enter, driving]; rfl)
  case true =>
    refine ⟨?_, fun idle => absurd (driving.symm.trans idle) nofun⟩
    rw [Engine.enter, driving]
    exact h.1

theorem Engine.gainSound.retire : e.retire.gainSound := (h.enter .retiring).congr rfl rfl

theorem Engine.gainSound.lockOut (eventOpen : Bool) : (e.lockOut eventOpen).gainSound := by
  cases eventOpen <;> exact (h.enter .lockout).congr rfl rfl

theorem Engine.gainSound.quietEntry : e.quietEntry.gainSound := by
  unfold Engine.quietEntry
  split
  · exact (h.enter .standby).congr rfl rfl
  · exact h

theorem Engine.gainSound.abandon : e.abandon.gainSound := by
  unfold Engine.abandon
  split
  · exact h.enter _
  · exact (h.enter _).congr rfl rfl
  all_goals exact h

theorem Engine.gainSound.switch (eventOpen : Bool) : (e.switch eventOpen).gainSound := by
  unfold Engine.switch
  split
  · exact h.enter _
  · cases eventOpen <;> exact (h.enter .offline).congr rfl rfl
  all_goals exact h

/-! ### The verifier step and what follows it -/

theorem Engine.gainSound.verifierStep (fault eventOpen : Bool) : (e.verifierStep fault eventOpen).gainSound := by
  unfold Engine.verifierStep
  split
  · split
    · exact h.lockOut eventOpen
    · split
      · exact h.congr rfl rfl
      · exact h
  · exact h

theorem Engine.gainSound.account (supply : PerPhase Int) (slot : Slot) (o : SlotOutput) (eventOpen : Bool) :
    (e.account supply slot o eventOpen).gainSound := by
  unfold Engine.account
  dsimp only
  repeat' split
  all_goals exact h.congr rfl rfl

end

/-! ### The decision step raises no gain -/

section
variable (v : CellView) (e : Engine)

theorem Engine.confirmationStep_gain : (e.confirmationStep v).gain = e.gain := by
  unfold Engine.confirmationStep Engine.readiness
  repeat' split
  all_goals rfl

theorem confirmationLookup_gain : (confirmationLookup v e).engine.gain = e.gain := by
  unfold confirmationLookup
  split <;> rfl

theorem standingLookupIf_gain : (standingLookupIf v e).engine.gain = e.gain := by
  unfold standingLookupIf standingLookup Lookup.unmade
  repeat' split
  all_goals rfl

theorem injectingLookup_gain : (injectingLookup v e).engine.gain = e.gain := by
  unfold injectingLookup classificationLookup classRiseLookup
  repeat' split
  all_goals rfl

theorem Engine.enter_gain_le (x : FeederState) : (e.enter x).gain ≤ e.gain := by
  unfold Engine.enter
  split
  · exact le_rfl
  · exact Nat.zero_le _

theorem Engine.lockOut_gain (eventOpen : Bool) : (e.lockOut eventOpen).gain = 0 := by cases eventOpen <;> rfl

theorem Engine.enterInjection_gain_le (m : Mode) : (e.enterInjection v m).gain ≤ e.gain := by
  rw [Engine.enterInjection_eq]
  split
  · exact Nat.zero_le _
  · split <;> exact le_rfl

theorem Engine.decideStandby_gain_le : (e.decideStandby v).gain ≤ e.gain := by
  have kept : (if v.marks.confirmation then confirmationLookup v e else standingLookupIf v e).engine.gain = e.gain := by
    split
    · exact confirmationLookup_gain v e
    · exact standingLookupIf_gain v e
  unfold Engine.decideStandby
  generalize (if v.marks.confirmation then confirmationLookup v e else standingLookupIf v e) = l at kept
  rw [← kept]
  dsimp only
  split
  · exact Engine.enterInjection_gain_le v _ _
  · exact Engine.enterInjection_gain_le v _ _
  all_goals exact le_rfl

theorem Engine.decideInjecting_gain_le : (e.decideInjecting v).gain ≤ e.gain := by
  rw [← injectingLookup_gain v e]
  unfold Engine.decideInjecting
  dsimp only
  repeat' split
  all_goals exact le_rfl

theorem Engine.decideReturn_gain_le : (e.decideReturn v).gain ≤ e.gain := by
  unfold Engine.decideReturn
  repeat' split
  all_goals exact le_rfl

theorem Engine.decideReleasing_gain_le : (e.decideReleasing v).gain ≤ e.gain := by
  rw [← standingLookupIf_gain v e]
  unfold Engine.decideReleasing
  dsimp only
  repeat' split
  all_goals exact le_rfl

theorem Engine.decideShed_gain_le : (e.decideShed v).gain ≤ e.gain := by
  unfold Engine.decideShed
  split
  · exact e.enter_gain_le _
  · exact le_rfl

theorem Engine.decideChecking_gain_le (x : Check) : (e.decideChecking v x).engine.gain ≤ e.gain := by
  unfold Engine.decideChecking
  dsimp only
  split
  · split
    · split
      · exact e.enter_gain_le _
      · rw [Engine.lockOut_gain]
        exact Nat.zero_le _
    · exact le_rfl
  · exact le_rfl

/-- The decision step leaves the gain or takes it to 0; only the gain step raises it (R88). -/
theorem Engine.decision_gain_le (x : Check) : (e.decision v x).engine.gain ≤ e.gain := by
  unfold Engine.decision
  split
  · exact e.decideStandby_gain_le v
  · exact e.decideInjecting_gain_le v
  · dsimp only
    split
    · exact e.decideReturn_gain_le v
    · exact e.decideReleasing_gain_le v
  · exact e.decideShed_gain_le v
  · exact e.decideChecking_gain_le v x
  all_goals exact le_rfl

end

/-! ### The work on a cell -/

/-- The gain step holds the gain at 4096 in INJECTING and only lowers it in RELEASING (R88). -/
theorem Engine.nextGain_le {d : Engine} (h : d.gain ≤ 4096) (fb : FeederBank) : d.nextGain fb ≤ 4096 := by
  rw [Engine.nextGain_eq]
  split
  · exact min_le_left _ _
  · split
    · exact (Nat.sub_le _ _).trans h
    · exact Nat.zero_le _

/-- An engine's work on a cell leaves a gain above 0 only where the feeder still drives: a release that has lost its gain ends
(R87, R88). -/
theorem Engine.gainSound.work {e : Engine} (h : e.gainSound) (v : CellView) (x : Check) : (e.work v x).engine.gainSound := by
  have decided : (e.decided v x).gain ≤ 4096 :=
    calc (e.decided v x).gain
        ≤ (e.confirmationStep v).gain := Engine.decision_gain_le v _ x
      _ ≤ 4096 := (e.confirmationStep_gain v).trans_le h.1
  refine ⟨(e.work_gain v x).trans_le (Engine.nextGain_le decided _), fun idle => ?_⟩
  by_contra above
  have stays : (e.work v x).engine.state = (e.decided v x).state := (e.work_stands v x (.inr above)).1
  exact above (congrArg Engine.gain (e.work_of_not_driving v x (stays ▸ idle)))

end Sys2Proof.Machine
end

section
/-! Every gain stays at most 4096, and 0 outside INJECTING and RELEASING: what every operation on the state keeps of it, and that
every step does (R88). -/
open Sys2Proof Sys2Proof.Machine
namespace Sys2Proof.Machine

/-! ### Operations that leave the engines -/

section
variable (s : State)

@[simp] theorem State.offer_engines (r : Request) : (s.offer r).engines = s.engines := by
  unfold State.offer
  split
  · rfl
  · split <;> rfl

@[simp] theorem State.selfTimed_engines : s.selfTimed.engines = s.engines := rfl

@[simp] theorem State.driveSent_engines : s.driveSent.engines = s.engines := by
  unfold State.driveSent
  split <;> rfl

@[simp] theorem State.replySent_engines : s.replySent.engines = s.engines := by
  unfold State.replySent
  split
  · split <;> rfl
  · rfl
  · rfl

@[simp] theorem State.refuseMalformed_engines : s.refuseMalformed.engines = s.engines := by
  unfold State.refuseMalformed
  split
  · rfl
  · split
    · simp
    · rfl

@[simp] theorem State.enquire_engines (r : Request) : (s.enquire r).engines = s.engines := by simp [State.enquire]

@[simp] theorem State.readSetting_engines (r : Request) : (s.readSetting r).engines = s.engines := by
  unfold State.readSetting
  split
  · simp
  · split <;> simp

@[simp] theorem State.settleWrite_engines (r : Request) (w : Written) : (s.settleWrite r w).engines = s.engines := by
  cases w <;> simp [State.settleWrite]

@[simp] theorem State.commitNow_engines (r : Request) : (s.commitNow r).engines = s.engines := by
  unfold State.commitNow
  split
  · simp
  · split <;> simp

@[simp] theorem State.commitSync_engines (r : Request) : (s.commitSync r).engines = s.engines := by
  unfold State.commitSync
  split <;> simp

@[simp] theorem State.writeCounter_engines (r : Request) : (s.writeCounter r).engines = s.engines := by
  unfold State.writeCounter
  split <;> simp

@[simp] theorem State.readEvent_engines (r : Request) : (s.readEvent r).engines = s.engines := by
  unfold State.readEvent
  split <;> simp

@[simp] theorem State.releaseEvent_engines (r : Request) : (s.releaseEvent r).engines = s.engines := by
  unfold State.releaseEvent
  split <;> simp

@[simp] theorem State.echoRequest_engines (r : Request) : (s.echoRequest r).engines = s.engines := by
  unfold State.echoRequest
  split
  · split <;> simp
  · simp

@[simp] theorem State.endSave_engines (result : Result) : (s.endSave result).engines = s.engines := by
  unfold State.endSave
  split <;> simp

@[simp] theorem State.pageWritten_engines : s.pageWritten.engines = s.engines := by
  unfold State.pageWritten
  split
  · rfl
  · split <;> simp

end

/-! ### Operations that move engines -/

namespace gainsSound

variable {s : State}

theorem frame {t : State} (h : gainsSound s) (engines : t.engines = s.engines := by simp) : gainsSound t := by
  unfold gainsSound
  rwa [engines]

/-- Where each engine is left as it was or moved by an operation that keeps a sound gain, the gains stay sound. -/
theorem moved {t : State} (h : gainsSound s)
    (engines : ∀ f, (s.engines.get f).gainSound → (t.engines.get f).gainSound) : gainsSound t :=
  fun f => engines f (h f)

theorem replace {t : State} {f : Feeder} {e : Engine} (h : gainsSound s) (he : (s.engines.get f).gainSound → e.gainSound)
    (engines : t.engines = s.engines.set f e) : gainsSound t := by
  intro g
  change (t.engines.get g).gainSound
  rw [engines, PerFeeder.get_set]
  split
  · exact he (h f)
  · exact h g

theorem autoEnlist (h : gainsSound s) : gainsSound s.autoEnlist := by
  unfold State.autoEnlist
  split
  · exact h
  · refine h.moved fun f hf => ?_
    rw [State.moveEnginesRaising, State.moveEngines, PerFeeder.get_build]
    split
    · exact hf.enter _
    · exact hf

theorem reset {t : State} (engines : t.engines = PerFeeder.fill Engine.reset) : gainsSound t := fun f => by
  rw [engines, PerFeeder.get_fill]
  exact Engine.gainSound_reset

theorem commitImage (h : gainsSound s) : gainsSound s.commitImage := autoEnlist (h.frame rfl)

theorem carryDue (h : gainsSound s) : gainsSound s.carryDue := by
  unfold State.carryDue
  split
  · exact h
  · exact autoEnlist (s := s.manageValues) (reset rfl)
  · exact h.commitImage

theorem failLoad (h : gainsSound s) (outcome : LoadOutcome) : gainsSound (s.failLoad outcome) := autoEnlist (h.frame rfl)

theorem loadImage (h : gainsSound s) : gainsSound s.loadImage := by
  unfold State.loadImage
  split
  · exact h.failLoad _
  · split
    · exact h.frame rfl
    · exact h.failLoad _

theorem readEnds (h : gainsSound s) (a : MemoryAnswer) : gainsSound (s.readEnds a) := by
  cases a with
  | silent => exact h.failLoad _
  | stored => exact h.loadImage
  | replaced bytes => exact loadImage (h.frame rfl)

/-! ### The work of a cell -/

theorem settleSwitch (h : gainsSound s) : gainsSound s.settleSwitch := by
  unfold State.settleSwitch State.switchEpoch
  split
  · exact h
  · split
    · split
      · exact h.frame rfl
      · refine h.moved fun f hf => ?_
        rw [State.moveEnginesRaising, State.moveEngines, PerFeeder.get_map]
        exact hf.switch _
    · exact h

theorem endCell (h : gainsSound s) (zero : Bool) : gainsSound (s.endCell zero) := by
  have aged : gainsSound (s.ageCommit zero) := h.frame
  have waited : gainsSound (s.ageCommit zero).waitImage := by
    rcases (s.ageCommit zero).waitImage_cases with e | e <;> rw [e]
    · exact aged.commitImage
    · exact aged
  exact waited.frame (State.settleEcho_engines _)

theorem engageCell (h : gainsSound s) (w : Work) : gainsSound (s.engageCell w) := by
  refine h.moved fun f hf => ?_
  change ((s.enginesStepped w).get f).gainSound
  rw [State.enginesStepped_get, State.engineStep]
  split
  · exact hf.work _ _
  · dsimp only
    split
    · exact hf.congr rfl rfl
    · exact hf

theorem verifyCell (h : gainsSound s) (w : Work) : gainsSound (s.verifyCell w) := by
  refine h.moved fun f hf => ?_
  have verified : ((s.enginesVerified w).get f).gainSound := by
    rw [State.enginesVerified, PerFeeder.get_build]
    exact hf.verifierStep _ _
  change ((s.enginesAccounted w).get f).gainSound
  rw [State.enginesAccounted, PerFeeder.get_build]
  split
  · exact verified.account _ _ _ _
  · exact verified

theorem abandonChange (h : gainsSound s) (b : Bank) : gainsSound (s.abandonChange b) := by
  rcases s.abandonChange_cases b with e | e <;> rw [e]
  · refine h.moved fun f hf => ?_
    rw [State.dropChange_engines, State.moveEnginesRaising, State.moveEngines, PerFeeder.get_map]
    exact hf.abandon
  · exact h

theorem finishCell (h : gainsSound s) (w : Work) : gainsSound (s.finishCell w) := by
  have recorded : gainsSound (s.recordCell w) := h.frame
  have sent : gainsSound ((((s.recordCell w).abandonChange w.bank).sendDrive (s.recordCell w).engines w).lateRestart w) :=
    (recorded.abandonChange w.bank).frame
  exact (sent.endCell w.zeroCrossing).frame (State.endWork_engines _)

theorem advance (h : gainsSound s) : gainsSound s.advance := by
  unfold State.advance
  split
  · exact h
  · split
    · split
      · exact h.frame
      · exact (endCell (s := (s.passMissing _).restartChecks) h.frame _).settleSwitch
    · exact h.engageCell _
    · exact h.verifyCell _
    · exact h.finishCell _

theorem workTo (h : gainsSound s) (p : WorkPoint) : gainsSound (s.workTo p) := State.workTo_keeps (fun _ hu => hu.advance) p h

theorem finishWork (h : gainsSound s) : gainsSound s.finishWork := h.workTo _

theorem comesAbout (x : Occurrence) (h : gainsSound s) : gainsSound (State.comesAbout x s) := by
  unfold State.comesAbout
  split
  · exact finishWork (s := { s with came := [] }) (h.frame rfl)
  · exact h

/-! ### Arriving cells and the QUIET entry -/

theorem accept (h : gainsSound s) (c : Sense) (missing : Nat) (breaks switches : Bool) :
    gainsSound (s.accept c missing breaks switches) :=
  settleSwitch (s := s.enterCell c missing breaks switches) (h.frame (by rw [State.enterCell_eq]))

theorem arriveSense (h : gainsSound s) (words : List Word) : gainsSound (s.arriveSense words) := by
  have checked : ∀ c switches, gainsSound (s.checkSequence c switches) := fun c switches => by
    unfold State.checkSequence
    split
    · exact h.accept _ _ _ _
    · exact h.frame rfl
    · exact h.accept _ _ _ _
  unfold State.arriveSense
  dsimp only
  split
  · exact h.frame rfl
  · split
    · exact checked _ _
    · exact h.frame rfl

theorem arrive (h : gainsSound s) (words : List Word) : gainsSound (s.arrive words) := by
  have manage : gainsSound (s.arriveManage words) := by
    unfold State.arriveManage
    split
    · exact h.frame
    · exact h.frame rfl
  unfold State.arrive
  split
  · split
    · split
      · exact h.arriveSense words
      · split
        · exact manage
        · exact h.frame rfl
    · exact h.frame rfl
  · exact h.frame rfl

theorem quietEntry (h : gainsSound s) : gainsSound s.quietEntry := by
  have blocks : gainsSound s.quietBlocks := h.moved fun f hf => by
    rw [State.quietBlocks_engines, PerFeeder.get_map]
    exact hf.quietEntry
  rw [State.quietEntry_eq]
  rcases s.quietBlocks.quietCommit_cases with e | ⟨r, e⟩ <;> rw [e]
  · exact blocks
  · exact blocks.frame

/-! ### The requests on feeders and CLEAR_FLAGS -/

theorem forFeeder (r : Request) {act : Feeder → State} (h : gainsSound s) (hact : ∀ f, gainsSound (act f)) :
    gainsSound (s.forFeeder r act) := by
  unfold State.forFeeder
  split
  · exact hact _
  · exact h.frame

theorem enlist (r : Request) (f : Feeder) (h : gainsSound s) : gainsSound (s.enlist r f) := by
  unfold State.enlist
  split
  · split
    · split
      · exact h.replace (fun hf => hf.enter .enlisting) (State.answer_engines _ _ _ _)
      · exact h.frame
    · exact h.frame
  · exact h.frame

theorem retire (r : Request) (f : Feeder) (h : gainsSound s) : gainsSound (s.retire r f) := by
  unfold State.retire
  split
  · exact h.frame
  · split
    · split
      · exact h.replace Engine.gainSound.retire (State.answer_engines _ _ _ _)
      · exact h.frame
    · exact h.frame

theorem forceBypass (r : Request) (f : Feeder) (h : gainsSound s) : gainsSound (s.forceBypass r f) := by
  unfold State.forceBypass
  split
  · exact h.replace (fun hf => hf.lockOut s.eventOpen) (State.answer_engines _ _ _ _)
  · split
    · exact h.frame
    · exact h.frame

theorem clearFlags (r : Request) (h : gainsSound s) : gainsSound (s.clearFlags r) := by
  refine h.moved fun f hf => ?_
  rw [State.clearFlags, State.answer_engines, State.lockoutExit, State.moveEngines, PerFeeder.get_build]
  split
  · exact hf.enter .checking
  · exact hf

/-! ### Every command and every step -/

theorem ite {c : Prop} [Decidable c] {t : State} (hs : gainsSound s) (ht : gainsSound t) : gainsSound (if c then s else t) := by
  split
  · exact hs
  · exact ht

/-- A command acts on a state that has carried out what was due. -/
theorem ready {t : State} (h : gainsSound s) {act : State → State} (hact : ∀ u, gainsSound u → gainsSound (act u))
    (e : (Host.Outcome.next (s.ready act) : Host.Outcome State Fault Refusal) = .next t) : gainsSound t := by
  obtain rfl := Host.Outcome.next.inj e
  unfold State.ready
  split
  · exact h
  · exact hact _ h.carryDue

theorem readyRequest {t : State} (h : gainsSound s) (c : Command) {act : Request → State → State}
    (hact : ∀ r u, gainsSound u → gainsSound (act r u))
    (e : (Host.Outcome.next (s.ready fun u => u.request c act) : Host.Outcome State Fault Refusal) = .next t) : gainsSound t :=
  h.ready (fun u hu => State.request_keeps hu c fun r _ => hact r _ (hu.frame (State.take_engines u r))) e

theorem readyBetween {t : State} (h : gainsSound s) (c : Command) {act : Request → State → State}
    (hact : ∀ r u, gainsSound u → gainsSound (act r u))
    (e : (Host.Outcome.next (s.ready fun u => u.requestBetween c act) : Host.Outcome State Fault Refusal) = .next t) :
    gainsSound t :=
  h.ready (fun _ hu => State.requestBetween_keeps hu c fun r _ =>
    hact r _ ((State.toBetween_keeps (fun _ hv => hv.advance) hu).frame (State.take_engines _ r))) e

theorem exec {c : Instr} {t : State} (h : gainsSound s) (e : exec c s = .next t) : gainsSound t := by
  cases c
  case cellArrival words p => exact h.ready (fun _ hu => (hu.finishWork.arrive words).workTo p) e
  case acquireEnd | confirmation | classificationPoint | eventEnd | burstTimerExpiry | releaseEnd | pathCheckVerdict
      | verifyFailure | mapChangeAbandon | commitTakesEffect | commitExpired | imageCommit =>
    exact h.ready (fun _ => comesAbout _) e
  case quietTimerExpiry => exact h.ready (fun _ hu => hu.finishWork.quietEntry.ite hu) e
  case selfTimedCell => exact h.ready (fun u hu => ite (s := u.selfTimed) hu.frame hu) e
  case driveCellSent | replySent | malformed => exact h.ready (fun _ hu => hu.frame) e
  case enquire | readSetting | writeSetting | loadEnvelope | loadResponse | commitNow | commitSync | discardShadow | setReport
      | readCounters | writeCounter | readEvent | releaseEvent | readLive | setEcho | saveImage =>
    exact h.readyRequest _ (fun _ _ hu => hu.frame) e
  case deviceReset => exact h.readyRequest _ (fun _ _ hu => hu.frame (State.buffer_engines _ _)) e
  case clearFlags => exact h.readyRequest _ (fun r _ => clearFlags r) e
  case enlist => exact h.readyBetween _ (fun r _ hu => hu.forFeeder r fun f => hu.enlist r f) e
  case retire => exact h.readyBetween _ (fun r _ hu => hu.forFeeder r fun f => hu.retire r f) e
  case forceBypass => exact h.readyRequest _ (fun r _ hu => hu.forFeeder r fun f => hu.forceBypass r f) e
  case savePageAck => exact h.ready (fun u hu => ite (s := u.pageWritten) hu.frame hu) e
  case savePollTimeout => exact h.ready (fun u hu => ite (s := u.endSave _) hu.frame hu) e
  case managementReset => exact h.ready (fun _ hu => hu) e
  case powerOnReset => exact Host.Outcome.next.inj e ▸ reset (t := s.powerOn) rfl
  case resetRelease straps => exact Host.Outcome.next.inj e ▸ ite (s := s.release straps) h.frame h.carryDue
  case imageReadComplete a => exact h.ready (fun _ hu => (hu.readEnds a).ite hu) e

theorem step {t : State} (h : gainsSound s) (e : step s = .next t) : gainsSound t := by
  cases hp : s.pending with
  | nil => exact h.ready (fun _ => finishWork) (step_of_nil hp ▸ e)
  | cons c rest => exact exec (s := { s with pending := rest }) (h.frame rfl) (step_of_cons hp ▸ e)

end gainsSound

/-- Settles O51: every operation on an engine keeps its gain sound, and every operation of a step moves the engines by these alone. -/
theorem everyStepKeepsGainsSound : Obligations.EveryStepKeepsGainsSound := fun _ _ => gainsSound.step

end Sys2Proof.Machine
end

section
/-! What a slot shows: its bypass, its modulator and its references, and the path check's pattern (R79, R90, R108, R134, R135). -/
open Sys2Proof Sys2Proof.Machine
namespace Sys2Proof.Machine

/-! ### The references of a slot -/

theorem clampInt_natAbs_le (limit : Nat) (x : Int) : (clampInt (-limit) limit x).natAbs ≤ limit := by
  unfold clampInt
  split
  · omega
  · split <;> omega

section
variable (v : CellView)

theorem CellView.limit_eq : v.limit = if v.sinkHot then v.settings.limit / 2 else v.settings.limit := rfl

/-- The references of an injecting or releasing feeder are clamped to L_eff (R108). -/
theorem CellView.references_natAbs_le (drive : Mode) (gain : Nat) (p : Phase) :
    ((v.references drive gain).get p).natAbs ≤ v.limit := by
  rw [CellView.references, PerPhase.get_build]
  exact clampInt_natAbs_le v.limit _

theorem patternSign_eq (k : Nat) (p : Phase) :
    patternSign k p = (if k % 2 = 0 then 1 else -1) * (if p = .b then -1 else 1) := by
  cases p <;> simp [patternSign]

/-- The pattern on a phase: its level is CHECK_LEVEL or L_eff, whichever is smaller (R135). -/
theorem CellView.pattern_get (k : Nat) (p : Phase) :
    (v.pattern k).get p = patternSign k p * ((min v.settings.checkLevel v.limit : Nat) : Int) := by
  rw [CellView.pattern, PerPhase.get_build, Int.mul_comm]

theorem CellView.pattern_natAbs_le (k : Nat) (p : Phase) : ((v.pattern k).get p).natAbs ≤ v.limit := by
  have unit : (patternSign k p).natAbs = 1 := by
    rw [patternSign_eq]
    split <;> split <;> rfl
  rw [CellView.pattern_get, Int.natAbs_mul, unit, Nat.one_mul, Int.natAbs_natCast]
  exact min_le_right _ _

/-- The reference step holds every reference within L_eff, and at 0 where the modulator is disabled (R79, R108). -/
theorem Engine.referenceStep_references (e : Engine) (x : Check) (p : Phase) :
    ((e.referenceStep v x).2.2.references.get p).natAbs ≤ v.limit
      ∧ ((e.referenceStep v x).2.2.modulator = false → (e.referenceStep v x).2.2.references.get p = 0) := by
  have closed : ∀ y, ((SlotOutput.closed y).references.get p).natAbs ≤ v.limit
      ∧ ((SlotOutput.closed y).modulator = false → (SlotOutput.closed y).references.get p = 0) := fun y => by
    have zero : (SlotOutput.closed y).references.get p = 0 := by cases p <;> rfl
    rw [zero]
    exact ⟨Nat.zero_le _, fun _ => rfl⟩
  unfold Engine.referenceStep
  cases e.state
  case injecting => exact ⟨v.references_natAbs_le _ _ p, nofun⟩
  case releasing => exact ⟨v.references_natAbs_le _ _ p, nofun⟩
  case checking =>
    cases v.checkRuns
    · exact closed _
    · exact ⟨v.pattern_natAbs_le _ p, nofun⟩
  all_goals exact closed _

/-! ### The path check -/

theorem CellView.checkRuns_iff : v.checkRuns = true ↔ (v.sag = .acquiring ∨ v.sag = .normal) ∧ v.echo = false := by
  rw [CellView.checkRuns, Bool.and_eq_true, SagState.quietState_iff, Bool.not_eq_true']

theorem CellView.compareCheck_cell (x : Check) : (v.compareCheck x).cell = x.cell := by
  unfold CellView.compareCheck
  split <;> rfl

variable {v} {e : Engine} {x : Check}

theorem Engine.decision_of_checking (h : e.state = .checking) : e.decision v x = e.decideChecking v x := by
  rw [Engine.decision, h]

/-- A check that does not run restarts (R90, R134). -/
theorem Engine.decideChecking_of_suspended (h : v.checkRuns = false) : e.decideChecking v x = ⟨e, Check.start, false, false⟩ := by
  rw [Engine.decideChecking, h, if_neg Bool.false_ne_true]

/-- A check that runs makes its comparison, and before cell 31 gives no verdict (R136). -/
theorem Engine.decideChecking_of_running (h : v.checkRuns = true) (early : x.cell ≠ 31) :
    e.decideChecking v x = ⟨e, v.compareCheck x, false, false⟩ := by
  rw [Engine.decideChecking, if_pos h, if_neg early]

/-- What a CHECKING feeder's slot shows: the pattern where the check runs, otherwise a closed slot (R79, R135). -/
theorem Engine.referenceStep_of_checking (h : e.state = .checking) :
    (e.referenceStep v x).2.2 = if v.checkRuns then ⟨true, true, v.pattern x.cell, .checking⟩ else SlotOutput.closed .checking := by
  rw [Engine.referenceStep, h]
  cases v.checkRuns <;> rfl

/-- The slot of a feeder whose decision step leaves it CHECKING. -/
theorem Engine.work_output_of_checking (state : e.state = .checking) {y : Check}
    (decided : ∀ d : Engine, d.decideChecking v x = ⟨d, y, false, false⟩) :
    (e.work v x).output = if v.checkRuns then ⟨true, true, v.pattern y.cell, .checking⟩ else SlotOutput.closed .checking := by
  have confirmed : (e.confirmationStep v).state = .checking := (e.confirmationStep_state v).1.trans state
  have decision : (e.confirmationStep v).decision v x = ⟨e.confirmationStep v, y, false, false⟩ :=
    (Engine.decision_of_checking confirmed).trans (decided _)
  have gained := (e.confirmationStep v).gainStep_of_standing v.settings (.inl (confirmed.trans_ne nofun))
  have output : (e.work v x).output
      = ((((e.confirmationStep v).decision v x).engine.gainStep v.settings).referenceStep v
        ((e.confirmationStep v).decision v x).check).2.2 := rfl
  rw [output, decision, gained]
  exact Engine.referenceStep_of_checking confirmed

end

/-- Settles O11. -/
theorem slotOutputsFollowTheFeederState : Obligations.SlotOutputsFollowTheFeederState := by
  intro v e x p
  obtain ⟨bypass, modulator, state⟩ := e.work_shows v x
  obtain ⟨within, idle⟩ : ((e.work v x).output.references.get p).natAbs ≤ v.limit
      ∧ ((e.work v x).output.modulator = false → (e.work v x).output.references.get p = 0) :=
    Engine.referenceStep_references v _ _ p
  refine ⟨state, ?_, fun shown => ?_, within, fun checking early quiet echo => ?_, fun checking suspended => ?_⟩
  · rw [bypass, Bool.not_eq_false', FeederState.driving_iff]
  · have enabled : (e.work v x).output.modulator = true :=
      shown.elim id fun nonzero => by_contra fun disabled => nonzero (idle (Bool.not_eq_true _ ▸ disabled))
    rw [modulator, Bool.or_eq_true, FeederState.driving_iff, Bool.and_eq_true, decide_eq_true_eq, CellView.checkRuns_iff] at enabled
    tauto
  · have runs : v.checkRuns = true := v.checkRuns_iff.2 ⟨quiet, echo⟩
    rw [Engine.work_output_of_checking checking fun _ => Engine.decideChecking_of_running runs early, if_pos runs]
    refine ⟨rfl, rfl, ?_⟩
    rw [CellView.compareCheck_cell, CellView.pattern_get, patternSign_eq, CellView.limit_eq]
  · have stopped : ¬ v.checkRuns = true := by
      rw [CellView.checkRuns_iff]
      rintro ⟨quiet, echo⟩
      rcases suspended with ⟨acquiring, normal⟩ | on
      · exact quiet.elim acquiring normal
      · rw [on] at echo; cases echo
    rw [Engine.work_output_of_checking checking fun _ =>
      Engine.decideChecking_of_suspended (Bool.not_eq_true _ ▸ stopped), if_neg stopped]
    rfl

end Sys2Proof.Machine
end

section
/-! The requests that lock a feeder out and let it leave LOCKOUT: FORCE_BYPASS and CLEAR_FLAGS (R92, R93, R138, R149 to R152). -/
open Sys2Proof Sys2Proof.Machine
namespace Sys2Proof.Machine

/-! ### One engine moved -/

theorem PerFeeder.ext_get {α : Type} {v w : PerFeeder α} (h : ∀ f, v.get f = w.get f) : v = w :=
  calc v = PerFeeder.build fun f => v.get f := rfl
    _ = PerFeeder.build fun f => w.get f := by simp only [h]

/-- A feeder moved to a state other than CHECKING has its check back at the first cell where it was CHECKING (R137, R138). -/
theorem settleChecks_set {before : PerFeeder Engine} {f : Feeder} {e : Engine} (h : e.state ≠ .checking)
    (checks : PerFeeder Check) : settleChecks before (before.set f e) checks
      = if (before.get f).state = .checking then checks.set f Check.start else checks := by
  refine PerFeeder.ext_get fun g => ?_
  rw [settleChecks, PerFeeder.get_build, PerFeeder.get_set]
  by_cases same : g = f
  · subst same
    by_cases checking : (before.get g).state = .checking <;> simp [checking, h, PerFeeder.get_set]
  · by_cases checking : (before.get f).state = .checking <;> simp [checking, same, PerFeeder.get_set]

/-- A feeder moved to a state that does not drive has its mismatch counters at 0 where it drove (R149). -/
theorem Verifier.left_set {before : PerFeeder Engine} {f : Feeder} {e : Engine} (h : e.state.driving = false)
    (u : Verifier) : u.left before (before.set f e) = { u with
      mismatches := if (before.get f).state.driving then u.mismatches.set f ⟨0, 0, 0⟩ else u.mismatches } := by
  refine congrArg (fun m => { u with mismatches := m }) (PerFeeder.ext_get fun g => ?_)
  rw [PerFeeder.get_build, PerFeeder.get_set]
  by_cases same : g = f
  · subst same
    by_cases driving : (before.get g).state.driving = true <;> simp [driving, h, PerFeeder.get_set]
  · by_cases driving : (before.get f).state.driving = true <;> simp [driving, same, PerFeeder.get_set]

theorem Engine.lockOut_eq (e : Engine) (eventOpen : Bool) : e.lockOut eventOpen = { e with
    state := .lockout, gain := 0, cause := none, marks := { e.marks with locked := e.marks.locked || eventOpen } } := by
  cases eventOpen
  · rw [Bool.or_false]; rfl
  · rw [Bool.or_true]; rfl

/-! ### FORCE_BYPASS -/

/-- OPERATOR is latched for the feeder (R92, R150). -/
theorem State.setOperator_eq (s : State) (f : Feeder) : s.setOperator f
    = { s with flags := { s.flags with latched := s.flags.latched ||| (1#32 <<< (14 + 5 * f.number)) } } := by
  cases f <;> rfl

/-- What a lockout by request changes (R92, R138, R149). -/
theorem State.lockFeeder_eq (s : State) (f : Feeder) : s.lockFeeder f = { s with
    engines := s.engines.set f { s.engines.get f with
      state := .lockout, gain := 0, cause := none,
      marks := { (s.engines.get f).marks with
        locked := (s.engines.get f).marks.locked || s.recorder.openRecord.isSome } }
    maps := { s.maps with
      checks := if (s.engines.get f).state = .checking then s.maps.checks.set f ⟨0, ⟨0, 0, 0⟩⟩ else s.maps.checks }
    verifier := { s.verifier with
      mismatches := if (s.engines.get f).state = .injecting ∨ (s.engines.get f).state = .releasing then
          s.verifier.mismatches.set f ⟨0, 0, 0⟩
        else s.verifier.mismatches }
    work := s.work.map fun w =>
      if w.stage = .referenced then { w with outputs := w.outputs.set f ⟨true, false, ⟨0, 0, 0⟩, .lockout⟩ } else w } := by
  have state := (s.engines.get f).lockOut_state s.eventOpen
  have checks := settleChecks_set (before := s.engines) (f := f) (state.trans_ne nofun) s.maps.checks
  have verifier := Verifier.left_set (before := s.engines) (f := f) (congrArg FeederState.driving state) s.verifier
  rw [State.lockFeeder, State.bypassWork, State.moveEngines, checks, verifier, Engine.lockOut_eq]
  simp only [FeederState.driving_iff]
  rfl

theorem exec_forceBypass_of_requests {s : State} {r : Request} {f : Feeder} (acts : s.acts) (h : s.requests .forceBypass r)
    (target : r.feeder = some f) : exec .forceBypass s = .next ((s.take r).forceBypass r f) := by
  refine congrArg Host.Outcome.next ((State.ready_request acts h _).trans ?_)
  rw [State.forFeeder, target]

theorem FeederState.lockable_iff (x : FeederState) :
    x.lockable = true ↔ x ∈ [FeederState.checking, .standby, .injecting, .releasing, .shed] := by cases x <;> decide

/-- Settles O39. -/
theorem forceBypassLocksTheFeederOut : Obligations.ForceBypassLocksTheFeederOut := by
  intro s r f acts requests target
  refine ⟨_, exec_forceBypass_of_requests acts requests (Request.feeder_of_target target), fun refused => ?_,
    fun lockout => ?_, fun lockable => ?_⟩
  · have stands : ¬ ((s.take r).engines.get f).state.lockable = true ∧ ((s.take r).engines.get f).state ≠ .lockout := by
      rw [State.take_engines]
      cases state : (s.engines.get f).state
      case offline | enlisting | retiring => exact ⟨nofun, nofun⟩
      all_goals rw [state] at refused; simp at refused
    rw [State.forceBypass, if_neg stands.1, if_neg stands.2]
    exact s.answered_answer r .refusedState []
  · have locked : ((s.take r).engines.get f).state = .lockout := lockout
    rw [State.forceBypass, locked, if_neg nofun, if_pos rfl, State.setOperator_eq]
    exact State.answered_answer { s with
      flags := { s.flags with latched := s.flags.latched ||| (1#32 <<< (14 + 5 * f.number)) } } r .done []
  · have locks : ((s.take r).engines.get f).state.lockable = true := (FeederState.lockable_iff _).2 lockable
    rw [State.forceBypass, if_pos locks, State.setOperator_eq, State.lockFeeder_eq]
    exact State.answered_answer _ r .done []

/-! ### The flags that are held -/

theorem flagBit_if_getLsbD (condition : Prop) [Decidable condition] {i : Nat} (hi : i < 32) (j : Nat) :
    (if condition then flagBit i else 0).getLsbD j = decide (condition ∧ j = i) := by
  by_cases h : condition
  · rw [if_pos h, flagBit_getLsbD hi]
    simp [h]
  · simp [h]

/-- A fold that adds two flag sets for each feeder of a list holds what it began with and what some feeder adds. -/
theorem foldl_or_getLsbD (a b : Feeder → BitVec 32) (l : List Feeder) (v : BitVec 32) (i : Nat) :
    (l.foldl (fun v f => v ||| a f ||| b f) v).getLsbD i
      = (v.getLsbD i || l.any fun f => (a f).getLsbD i || (b f).getLsbD i) := by
  induction l generalizing v with
  | nil => simp
  | cons f l ih => rw [List.foldl_cons, ih, List.any_cons, BitVec.getLsbD_or, BitVec.getLsbD_or, Bool.or_assoc, Bool.or_assoc,
      Bool.or_assoc]

theorem FeederFlag.index_lt_word (k : FeederFlag) (f : Feeder) : k.index f < 32 := (k.index_lt f).trans (by decide)

/-- The flags whose conditions hold: link QUIET, store HOT, each feeder's overcurrent condition and heat sink (R150). -/
theorem heldConditions_iff (link : LinkState) (storeHot : Bool) (overcurrent sinkHot : PerFeeder Bool) (i : Nat) :
    (heldConditions link storeHot overcurrent sinkHot).getLsbD i = true
      ↔ (i = 0 ∧ link = .quiet) ∨ (i = 8 ∧ storeHot = true) ∨ (∃ f : Feeder, i = 11 + 5 * f.number ∧ overcurrent.get f = true)
        ∨ ∃ f : Feeder, i = 15 + 5 * f.number ∧ sinkHot.get f = true := by
  have overcurrentBit : ∀ f : Feeder, (if overcurrent.get f then flagBit (FeederFlag.overcurrent.index f) else 0).getLsbD i
      = decide (overcurrent.get f = true ∧ i = 11 + 5 * f.number) :=
    fun f => flagBit_if_getLsbD _ (FeederFlag.index_lt_word _ f) i
  have heatBit : ∀ f : Feeder, (if sinkHot.get f then flagBit (FeederFlag.heat.index f) else 0).getLsbD i
      = decide (sinkHot.get f = true ∧ i = 15 + 5 * f.number) := fun f => by
    rw [flagBit_if_getLsbD _ (FeederFlag.index_lt_word _ f), show FeederFlag.heat.index f = 15 + 5 * f.number by cases f <;> rfl]
  unfold heldConditions
  dsimp only
  rw [foldl_or_getLsbD, BitVec.getLsbD_or, flagBit_if_getLsbD _ (by decide), flagBit_if_getLsbD _ (by decide)]
  simp only [overcurrentBit, heatBit, Bool.or_eq_true, decide_eq_true_eq, List.any_eq_true, Feeder.mem_all, true_and, exists_or,
    and_comm, or_assoc]

/-! ### CLEAR_FLAGS on the Flag Unit -/

theorem allFlags_getLsbD {i : Nat} (hi : i < 32) : allFlags.getLsbD i = decide (i < 31) := by
  interval_cases i <;> rfl

/-- A named flag whose condition does not hold is unlatched, and every other flag stands (R150, R151). -/
theorem FlagUnit.clear_getLsbD (u : FlagUnit) (w0 w1 : Word) (conditions : BitVec 32) {i : Nat} (hi : i < 32) :
    (u.clear (flagSetOf w0 w1) conditions).latched.getLsbD i
      = (u.latched.getLsbD i && !((w1 ++ w0).getLsbD i && decide (i < 31) && !conditions.getLsbD i)) := by
  simp only [FlagUnit.clear, flagSetOf, BitVec.getLsbD_and, BitVec.getLsbD_not, allFlags_getLsbD hi, hi, decide_true,
    Bool.true_and]

/-- Naming index 10 empties FEEDER_CHANGE's set (R151). -/
theorem FlagUnit.clear_changed (u : FlagUnit) (w0 w1 : Word) (conditions : BitVec 32) :
    (u.clear (flagSetOf w0 w1) conditions).changed
      = if w0.getLsbD 10 then ⟨false, false, false, false⟩ else u.changed := by
  have named : (flagSetOf w0 w1).getLsbD DeviceFlag.feederChange.index = w0.getLsbD 10 := by
    rw [flagSetOf, BitVec.getLsbD_and, allFlags_getLsbD (by decide), BitVec.getLsbD_append]
    simp [DeviceFlag.index]
  rw [FlagUnit.clear, named]
  rfl

theorem feederFlagBits_getLsbD (f : Feeder) (i : Nat) :
    (feederFlagBits f).getLsbD i = decide (11 + 5 * f.number ≤ i ∧ i < 16 + 5 * f.number) := by
  have five : ∀ j, (0x1F#32).getLsbD j = decide (j < 5) := fun j => by
    rw [BitVec.getLsbD_ofNat, show 31 = 2 ^ 5 - 1 from rfl, Nat.testBit_two_pow_sub_one, ← Bool.decide_and]
    exact decide_eq_decide.2 (by omega)
  have number : f.number ≤ 3 := by cases f <;> decide
  rw [feederFlagBits, BitVec.getLsbD_shiftLeft, five, ← decide_not, ← Bool.decide_and, ← Bool.decide_and]
  exact decide_eq_decide.2 (by omega)

/-- None of a feeder's five flags is latched (R93). -/
theorem FlagUnit.feederClear_iff (u : FlagUnit) (f : Feeder) :
    u.feederClear f = true ↔ ∀ k, k < 5 → u.latched.getLsbD (11 + 5 * f.number + k) = false := by
  rw [FlagUnit.feederClear, decide_eq_true_eq]
  constructor
  · intro none k hk
    have own : 11 + 5 * f.number ≤ 11 + 5 * f.number + k ∧ 11 + 5 * f.number + k < 16 + 5 * f.number := by omega
    have bit : (u.latched &&& feederFlagBits f).getLsbD (11 + 5 * f.number + k) = false := by
      rw [none]
      exact BitVec.getLsbD_zero
    rwa [BitVec.getLsbD_and, feederFlagBits_getLsbD, decide_eq_true own, Bool.and_true] at bit
  · intro clear
    refine BitVec.eq_of_getLsbD_eq fun i _ => ?_
    rw [BitVec.getLsbD_and, feederFlagBits_getLsbD, show (0 : BitVec 32).getLsbD i = false from BitVec.getLsbD_zero]
    by_cases own : 11 + 5 * f.number ≤ i ∧ i < 16 + 5 * f.number
    · have flag := clear (i - (11 + 5 * f.number)) (by omega)
      rw [Nat.add_sub_cancel' own.1] at flag
      rw [flag, Bool.false_and]
    · rw [decide_eq_false own, Bool.and_false]

/-! ### CLEAR_FLAGS -/

/-- The exit from LOCKOUT moves exactly the LOCKOUT feeders with none of their flags latched, to CHECKING (R93). -/
theorem State.lockoutExit_get (s : State) (f : Feeder) : s.lockoutExit.engines.get f
    = if (s.engines.get f).state = .lockout ∧ s.flags.feederClear f = true then { s.engines.get f with state := .checking, gain := 0 }
      else s.engines.get f := by
  rw [State.lockoutExit, State.moveEngines, PerFeeder.get_build]
  rfl

theorem State.lockoutExit_checks (s : State) (f : Feeder) : s.lockoutExit.maps.checks.get f
    = if (s.engines.get f).state = .lockout ∧ s.flags.feederClear f = true then Check.start else s.maps.checks.get f := by
  rw [State.lockoutExit, State.moveEngines, settleChecks, PerFeeder.get_build, PerFeeder.get_build]
  split
  next leaves => simp [leaves.1, Engine.enter]
  next stays => simp

/-- The exit from LOCKOUT leaves the mismatch counters, since no feeder there drives (R149). -/
theorem State.lockoutExit_eq (s : State) : s.lockoutExit
    = { s with engines := s.lockoutExit.engines, maps := { s.maps with checks := s.lockoutExit.maps.checks } } := by
  have verifier : s.lockoutExit.verifier = s.verifier := by
    refine congrArg (fun m => { s.verifier with mismatches := m }) (PerFeeder.ext_get fun f => ?_)
    have idle : ¬ ((s.engines.get f).state.driving && !(s.lockoutExit.engines.get f).state.driving) = true := by
      rw [State.lockoutExit_get]
      split
      next leaves => rw [leaves.1]; exact nofun
      next => simp
    exact (PerFeeder.get_build _ f).trans (if_neg idle)
  calc s.lockoutExit = { s with
        engines := s.lockoutExit.engines, maps := { s.maps with checks := s.lockoutExit.maps.checks },
        verifier := s.lockoutExit.verifier } := rfl
    _ = _ := by rw [verifier]

theorem exec_clearFlags_of_requests {s : State} {r : Request} (acts : s.acts) (h : s.requests .clearFlags r) :
    exec .clearFlags s = .next ((s.take r).clearFlags r) :=
  congrArg Host.Outcome.next (State.ready_request acts h _)

/-- The named flags dealt with, and the feeders that may leave LOCKOUT (R93, R151). -/
def State.cleared (s : State) (r : Request) : State := (s.unlatch (flagSetOf (r.word 0) (r.word 1))).lockoutExit

theorem State.answered_clearFlags (s : State) (r : Request) : answered (s.cleared r) ((s.take r).clearFlags r) r .done
    [(s.cleared r).flags.latched.extractLsb' 0 16, (s.cleared r).flags.latched.extractLsb' 16 16] :=
  (s.cleared r).answered_answer r .done _

/-- Settles O40. -/
theorem clearFlagsKeepsHeldConditions : Obligations.ClearFlagsKeepsHeldConditions := by
  intro s r held acts requests hheld
  have conditions : ∀ i, s.conditions.getLsbD i = held i := fun i =>
    Bool.eq_iff_iff.2 ((heldConditions_iff _ _ _ _ i).trans (hheld i).symm)
  refine ⟨_, s.cleared r, exec_clearFlags_of_requests acts requests, s.answered_clearFlags r, ?_, rfl, fun i hi => ?_,
    FlagUnit.clear_changed _ _ _ _, fun f locked clear => ?_, fun f stays => ?_⟩
  · rw [State.cleared, State.lockoutExit_eq]
    rfl
  · rw [← conditions]
    exact FlagUnit.clear_getLsbD s.flags _ _ _ hi
  · have leaves : (s.engines.get f).state = .lockout ∧ (s.cleared r).flags.feederClear f = true :=
      ⟨locked, (FlagUnit.feederClear_iff _ f).2 clear⟩
    exact ⟨(State.lockoutExit_get _ f).trans (if_pos leaves), (State.lockoutExit_checks _ f).trans (if_pos leaves)⟩
  · have remains : ¬ ((s.engines.get f).state = .lockout ∧ (s.cleared r).flags.feederClear f = true) := by
      rintro ⟨locked, clear⟩
      rcases stays with other | ⟨k, hk, latched⟩
      · exact other locked
      · rw [(FlagUnit.feederClear_iff _ f).1 clear k hk] at latched
        cases latched
    exact ⟨(State.lockoutExit_get _ f).trans (if_neg remains), (State.lockoutExit_checks _ f).trans (if_neg remains)⟩

end Sys2Proof.Machine
end

section
/-! The Injection Verifier's work on a cell: which pairs are eligible, which one is chosen, and what its comparison does (R143 to
R147, R149). -/
open Sys2Proof Sys2Proof.Machine
namespace Sys2Proof.Machine

/-! ### Eligible pairs -/

theorem historyEntry_eq_some_iff (h : List (Option Int)) (d : Nat) (c : Int) :
    historyEntry h d = some c ↔ 1 ≤ d ∧ d ≤ h.length ∧ h[h.length - d]? = some (some c) := by
  unfold historyEntry
  split
  · refine iff_of_false nofun fun ⟨low, high, _⟩ => ?_
    omega
  · rw [Option.join_eq_some_iff]
    exact ⟨fun entry => ⟨by omega, by omega, entry⟩, fun ⟨_, _, entry⟩ => entry⟩

section
variable (b : Bank) (outputs : PerFeeder SlotOutput) (u : Verifier) (x : Pair)

/-- The command a pair is compared against is the D-th newest entry of its history, its slot showing the bypass open (R144). -/
theorem Verifier.command_eq_some_iff (c : Int) : u.command b outputs x = some c ↔
    (outputs.get x.feeder).bypassClosed = false ∧ 1 ≤ (b.feeder x.feeder).verifyDelay
      ∧ (b.feeder x.feeder).verifyDelay ≤ ((u.histories.get x.feeder).get x.phase).length
      ∧ ((u.histories.get x.feeder).get x.phase)[((u.histories.get x.feeder).get x.phase).length
          - (b.feeder x.feeder).verifyDelay]? = some (some c) := by
  rw [Verifier.command, ← historyEntry_eq_some_iff]
  cases (outputs.get x.feeder).bypassClosed <;> simp

theorem Verifier.eligible_iff : u.eligible b outputs x = true ↔
    (outputs.get x.feeder).bypassClosed = false ∧ 1 ≤ (b.feeder x.feeder).verifyDelay
      ∧ (b.feeder x.feeder).verifyDelay ≤ ((u.histories.get x.feeder).get x.phase).length
      ∧ ∃ c, ((u.histories.get x.feeder).get x.phase)[((u.histories.get x.feeder).get x.phase).length
          - (b.feeder x.feeder).verifyDelay]? = some (some c) := by
  rw [Verifier.eligible, Option.isSome_iff_exists]
  simp only [Verifier.command_eq_some_iff, exists_and_left]

end

/-! ### The pair chosen -/

/-- In a list ordered by a number, the first element with a property is the one of least number with it. -/
theorem find?_eq_some_iff_of_pairwise_lt {α : Type} {g : α → Nat} {p : α → Bool} {l : List α}
    (ordered : l.Pairwise fun y z => g y < g z) (x : α) :
    l.find? p = some x ↔ x ∈ l ∧ p x = true ∧ ∀ y ∈ l, p y = true → g x ≤ g y := by
  induction l with
  | nil => simp
  | cons a l ih =>
    obtain ⟨first, ordered⟩ := List.pairwise_cons.1 ordered
    cases found : p a
    case true =>
      rw [List.find?_cons_of_pos found, Option.some.injEq]
      refine ⟨fun same => ?_, fun ⟨mem, _, least⟩ => ?_⟩
      · subst same
        exact ⟨List.mem_cons_self, found, List.forall_mem_cons.2 ⟨fun _ => le_rfl, fun y hy _ => (first y hy).le⟩⟩
      · rcases List.mem_cons.1 mem with same | later
        · exact same.symm
        · exact absurd (least a List.mem_cons_self found) (Nat.not_le.2 (first x later))
    case false =>
      rw [List.find?_cons_of_neg (by simp [found]), ih ordered]
      have passed : ∀ y, p y = true → y ≠ a := fun y hy same => by rw [same, found] at hy; cases hy
      refine ⟨fun ⟨mem, hx, least⟩ => ?_, fun ⟨mem, hx, least⟩ => ?_⟩
      · exact ⟨List.mem_cons_of_mem a mem, hx, fun y hy hp => least y (List.mem_of_ne_of_mem (passed y hp) hy) hp⟩
      · exact ⟨List.mem_of_ne_of_mem (passed x hx) mem, hx, fun y hy => least y (List.mem_cons_of_mem a hy)⟩

/-- How many pairs after the pointer's a pair stands in the search, the pointer's own last (R145). -/
def Pair.turn (pointer x : Pair) : Nat := (x.place + 11 - pointer.place) % 12

theorem searchOrder_pairwise (pointer : Pair) : (searchOrder pointer).Pairwise fun y z => pointer.turn y < pointer.turn z := by
  obtain ⟨f, p⟩ := pointer
  cases f <;> cases p <;> decide

theorem pairOrder_place (x : Pair) : pairOrder[x.place]? = some x := by
  obtain ⟨f, p⟩ := x
  cases f <;> cases p <;> rfl

theorem pairOrder_getElem?_iff (i : Nat) (x : Pair) : pairOrder[i]? = some x ↔ x.place = i := by
  refine ⟨fun h => ?_, fun h => h ▸ pairOrder_place x⟩
  obtain ⟨bound, -⟩ := List.getElem?_eq_some_iff.1 (pairOrder_place x)
  exact (List.getElem?_inj bound (by decide)).1 ((pairOrder_place x).trans h.symm)

theorem mem_searchOrder (pointer x : Pair) : x ∈ searchOrder pointer := by
  rw [searchOrder, List.mem_append, or_comm, ← List.mem_append, List.take_append_drop]
  exact List.mem_of_getElem? (pairOrder_place x)

section
variable {b : Bank} {outputs : PerFeeder SlotOutput} {u : Verifier} {x : Pair}

/-- In ROTATE the pair chosen is the first eligible one after the pointer's, the pointer's own last (R145). -/
theorem Verifier.chosen_rotate_iff (mode : b.verifyMode = 0) : u.chosen b outputs = some x ↔
    u.eligible b outputs x = true ∧ ∀ y, u.eligible b outputs y = true → u.pointer.turn x ≤ u.pointer.turn y := by
  have rotates : b.rotates = true := decide_eq_true mode
  rw [Verifier.chosen, if_pos rotates, find?_eq_some_iff_of_pairwise_lt (searchOrder_pairwise u.pointer)]
  simp only [mem_searchOrder, true_and, true_imp_iff]

/-- In FIXED the pair chosen is the one the setting names, if eligible (R146). -/
theorem Verifier.chosen_fixed_iff (mode : 1 ≤ b.verifyMode) : u.chosen b outputs = some x ↔
    x.place = b.verifyMode - 1 ∧ u.eligible b outputs x = true := by
  have fixed : ¬ b.rotates = true := fun rotates => by
    have : b.verifyMode = 0 := of_decide_eq_true rotates
    omega
  rw [Verifier.chosen, if_neg fixed, Option.filter_eq_some_iff, pairOrder_getElem?_iff]

theorem Verifier.eligible_of_chosen (h : u.chosen b outputs = some x) : u.eligible b outputs x = true := by
  rcases Nat.eq_zero_or_pos b.verifyMode with rotate | fixed
  · exact ((Verifier.chosen_rotate_iff rotate).1 h).1
  · exact ((Verifier.chosen_fixed_iff fixed).1 h).2

theorem Verifier.bypassOpen_of_chosen (h : u.chosen b outputs = some x) : (outputs.get x.feeder).bypassClosed = false :=
  ((u.eligible_iff b outputs x).1 (Verifier.eligible_of_chosen h)).1

/-! ### The comparison -/

variable (supply : PerPhase Int) (slots : Feeder → Slot)

theorem Verifier.compare_of_none (h : u.chosen b outputs = none) : u.compare b supply slots outputs = ⟨u, none⟩ := by
  rw [Verifier.compare, h]

/-- The chosen pair compared with its command: its counter, the pointer in ROTATE, and the feeder's failure (R147, R149). -/
theorem Verifier.compare_of_chosen {f : Feeder} {p : Phase} {c : Int} {bad : Bool} {n : Nat}
    (h : u.chosen b outputs = some ⟨f, p⟩)
    (entry : ((u.histories.get f).get p)[((u.histories.get f).get p).length - (b.feeder f).verifyDelay]? = some (some c))
    (hbad : bad = true ↔ (b.feeder f).verifyTolerance
      < (((slots f).load.get p - supply.get p) - c * 4096 / ((b.feeder f).scale : Int)).natAbs)
    (hn : n = if bad then min 15 ((u.mismatches.get f).get p + 1) else 0) :
    u.compare b supply slots outputs
      = { verifier := { u with
            mismatches := u.mismatches.set f ((u.mismatches.get f).set p n)
            pointer := if b.verifyMode = 0 then ⟨f, p⟩ else u.pointer }
          failed := if bad = true ∧ (b.feeder f).verifyCount ≤ n then some f else none } := by
  obtain ⟨opened, low, high, -⟩ := (u.eligible_iff b outputs _).1 (Verifier.eligible_of_chosen h)
  have command : u.command b outputs ⟨f, p⟩ = some c := (u.command_eq_some_iff b outputs _ c).2 ⟨opened, low, high, entry⟩
  have mismatch : Machine.mismatches (b.feeder f) supply (slots f) c p = bad :=
    Bool.eq_iff_iff.2 (decide_eq_true_iff.trans hbad.symm)
  have counter : nextMismatch bad ((u.mismatches.get f).get p) = n := hn.symm
  rw [Verifier.compare, h]
  simp only [command, mismatch, counter, Bank.rotates, decide_eq_true_eq, Bool.and_eq_true]

/-- A comparison leaves the histories and the overcurrent conditions, and the counters of a feeder whose bypass is closed; it fails
no such feeder (R144, R147). -/
theorem Verifier.compare_frame : (u.compare b supply slots outputs).verifier.histories = u.histories
    ∧ ∀ f, (outputs.get f).bypassClosed = true →
      (u.compare b supply slots outputs).verifier.mismatches.get f = u.mismatches.get f
        ∧ (u.compare b supply slots outputs).failed ≠ some f := by
  unfold Verifier.compare
  split
  · exact ⟨rfl, fun f _ => ⟨rfl, nofun⟩⟩
  next x chosen =>
    split
    · exact ⟨rfl, fun f _ => ⟨rfl, nofun⟩⟩
    · refine ⟨rfl, fun f closed => ?_⟩
      have other : f ≠ x.feeder := fun same => by
        rw [same, Verifier.bypassOpen_of_chosen chosen] at closed
        cases closed
      dsimp only
      refine ⟨by rw [PerFeeder.get_set, if_neg other], ?_⟩
      split
      · exact fun same => other (Option.some.inj same).symm
      · exact nofun

end

end Sys2Proof.Machine
end

section
/-! What the stages after the engines' reference steps leave of a feeder, of the flags and of the Injection Verifier, with no image
waiting (R91, R110, R112, R132, R143, R148 to R150, R156). -/
open Sys2Proof Sys2Proof.Machine
namespace Sys2Proof.Machine

/-! ### Flags that no later operation takes back -/

/-- Every flag latched in the first unit, and every feeder in its set, stands in the second as well (R150, R156). -/
structure FlagUnit.within (u x : FlagUnit) : Prop where
  latched : ∀ i, i < 32 → u.latched.getLsbD i = true → x.latched.getLsbD i = true
  changed : ∀ f, u.changed.get f = true → x.changed.get f = true

namespace FlagUnit.within

theorem refl (u : FlagUnit) : u.within u := ⟨fun _ _ => id, fun _ => id⟩

theorem trans {u x y : FlagUnit} (h : u.within x) (g : x.within y) : u.within y :=
  ⟨fun i hi hu => g.latched i hi (h.latched i hi hu), fun f hu => g.changed f (h.changed f hu)⟩

theorem latchIndex (u : FlagUnit) (i : Nat) : u.within (u.latchIndex i) :=
  ⟨fun j _ hu => by rw [FlagUnit.latchIndex, BitVec.getLsbD_or, hu, Bool.true_or], fun _ => id⟩

theorem latchIf (u : FlagUnit) (condition : Bool) (k : DeviceFlag) : u.within (u.latchIf condition k) := by
  cases condition
  · exact refl u
  · exact latchIndex u _

theorem latchFeeders (u : FlagUnit) (k : FeederFlag) (on : PerFeeder Bool) : u.within (u.latchFeeders k on) := by
  refine List.foldlRecOn _ _ (refl u) fun v hv f _ => ?_
  split
  · exact hv.trans (latchIndex v _)
  · exact hv

theorem raiseChanges (u : FlagUnit) (before after : PerFeeder Engine) : u.within (u.raiseChanges before after) :=
  ⟨fun i hi hu => by rw [FlagUnit.raiseChanges_latched _ _ _ _ hi, hu, Bool.true_or],
    fun f hu => by rw [FlagUnit.raiseChanges_changed, hu, Bool.true_or]⟩

end FlagUnit.within

/-- FEEDER_CHANGE is latched with the feeder in its set (R156). -/
def FlagUnit.raisedFor (u : FlagUnit) (f : Feeder) : Prop := u.latched.getLsbD 10 = true ∧ u.changed.get f = true

theorem FlagUnit.raisedFor.within {u x : FlagUnit} {f : Feeder} (h : u.raisedFor f) (g : u.within x) : x.raisedFor f :=
  ⟨g.latched 10 (by decide) h.1, g.changed f h.2⟩

/-- A feeder whose state differs over a move has FEEDER_CHANGE raised for it (R156). -/
theorem FlagUnit.raisedFor_raiseChanges (u : FlagUnit) {before after : PerFeeder Engine} {f : Feeder}
    (h : (before.get f).state ≠ (after.get f).state) : (u.raiseChanges before after).raisedFor f := by
  have moved : (Feeder.all.any fun g => decide ((before.get g).state ≠ (after.get g).state)) = true :=
    List.any_eq_true.2 ⟨f, Feeder.mem_all f, decide_eq_true h⟩
  refine ⟨?_, ?_⟩
  · rw [FlagUnit.raiseChanges_latched _ _ _ _ (by decide), moved]
    exact Bool.or_true _
  · rw [FlagUnit.raiseChanges_changed, decide_eq_true h, Bool.or_true]

/-- A feeder flag latched over a set of feeders is latched for each of them (R150). -/
theorem FlagUnit.latchFeeders_getLsbD (u : FlagUnit) (k : FeederFlag) {on : PerFeeder Bool} {f : Feeder} (h : on.get f = true) :
    (u.latchFeeders k on).latched.getLsbD (k.index f) = true := by
  have bit : ∀ v : FlagUnit, (v.latchFeeder k f).latched.getLsbD (k.index f) = true := fun v => by
    rw [FlagUnit.latchFeeder, FlagUnit.latchIndex_getLsbD _ (k.index_lt_word f), decide_eq_true rfl, Bool.or_true]
  have fold : ∀ (l : List Feeder) (v : FlagUnit), f ∈ l ∨ v.latched.getLsbD (k.index f) = true →
      (l.foldl (fun v g => if on.get g then v.latchFeeder k g else v) v).latched.getLsbD (k.index f) = true := by
    intro l
    induction l with
    | nil => exact fun v hv => hv.resolve_left List.not_mem_nil
    | cons g l ih =>
      refine fun v hv => ih _ ?_
      dsimp only
      rcases hv with hv | hv
      · rcases List.mem_cons.1 hv with same | later
        · rw [← same, if_pos h]
          exact .inr (bit v)
        · exact .inl later
      · refine .inr ?_
        split
        · exact (FlagUnit.within.latchIndex v _).latched _ (k.index_lt_word f) hv
        · exact hv
  exact fold Feeder.all u (.inl (Feeder.mem_all f))

/-! ### What no later operation takes back from the Injection Verifier -/

/-- The overcurrent conditions stand, a feeder's counters that are at 0 stay so, and each history stands or is emptied (R143, R148,
R149). -/
structure Verifier.within (u x : Verifier) : Prop where
  overcurrent : x.overcurrent = u.overcurrent
  mismatches : ∀ f, u.mismatches.get f = ⟨0, 0, 0⟩ → x.mismatches.get f = ⟨0, 0, 0⟩
  histories : ∀ f p, (x.histories.get f).get p = (u.histories.get f).get p ∨ (x.histories.get f).get p = []

namespace Verifier.within

theorem refl (u : Verifier) : u.within u := ⟨rfl, fun _ => id, fun _ _ => .inl rfl⟩

theorem trans {u x y : Verifier} (h : u.within x) (g : x.within y) : u.within y :=
  ⟨g.overcurrent.trans h.overcurrent, fun f hu => g.mismatches f (h.mismatches f hu), fun f p => by
    rcases g.histories f p with same | emptied
    · rw [same]
      exact h.histories f p
    · exact .inr emptied⟩

theorem empty (u : Verifier) : u.within u.empty :=
  ⟨rfl, fun _ => id, fun f p => .inr (by cases f <;> cases p <;> rfl)⟩

theorem left (u : Verifier) (before after : PerFeeder Engine) : u.within (u.left before after) := by
  refine ⟨rfl, fun f hu => ?_, fun _ _ => .inl rfl⟩
  rw [Verifier.left, PerFeeder.get_build, hu, ite_self]

end Verifier.within

/-- A feeder that leaves INJECTING and RELEASING has its counters at 0 (R149). -/
theorem Verifier.left_mismatches {before after : PerFeeder Engine} {f : Feeder} (driven : (before.get f).state.driving = true)
    (idle : (after.get f).state.driving = false) (u : Verifier) : (u.left before after).mismatches.get f = ⟨0, 0, 0⟩ := by
  rw [Verifier.left, PerFeeder.get_build, driven, idle]
  rfl

/-! ### The last stage -/

/-- No change is due to be abandoned (R132). -/
def State.changeStands (s : State) (b : Bank) : Prop := s.maps.pending = none ∨ s.maps.age < b.mapChangeLimit

theorem State.abandonChange_of_stands {s : State} {b : Bank} (h : s.changeStands b) : s.abandonChange b = s := by
  unfold State.abandonChange
  rcases h with none | young
  · rw [none]
    rfl
  · rw [decide_eq_false (Nat.not_le.2 young), Bool.and_false, if_neg Bool.false_ne_true]

/-- An abandon moves ENLISTING and RETIRING feeders alone (R132). -/
theorem Engine.abandon_of_other {e : Engine} (enlisting : e.state ≠ .enlisting) (retiring : e.state ≠ .retiring) :
    e.abandon = e := by
  unfold Engine.abandon
  split
  · contradiction
  · contradiction
  all_goals rfl

section
variable {s : State} {w : Work}

/-- The last stage leaves a feeder that is neither ENLISTING nor RETIRING, and every feeder where no change is due to be abandoned
(R132). -/
theorem State.finishCell_engine (image : s.loader.state ≠ .waiting) {f : Feeder}
    (settled : ((s.engines.get f).state ≠ .enlisting ∧ (s.engines.get f).state ≠ .retiring) ∨ s.changeStands w.bank) :
    (s.finishCell w).engines.get f = s.engines.get f := by
  have waits : ((s.withDrive w).ageCommit w.zeroCrossing).loader.state ≠ .waiting := by
    rwa [State.ageCommit_loader, State.withDrive_loader]
  have ended : (s.finishCell w).engines = (s.atDrive w).engines := by
    rw [State.finishCell_eq, State.endWork_engines, State.endCell, State.settleEcho_engines, State.waitImage_of_ne waits,
      State.ageCommit_engines, (s.withDrive_sameDrive w).engines]
  rw [ended, State.atDrive]
  rcases settled with ⟨enlisting, retiring⟩ | stands
  · rcases (s.recordCell w).abandonChange_cases w.bank with e | e <;> rw [e]
    · rw [State.dropChange_engines, State.moveEnginesRaising, State.moveEngines, PerFeeder.get_map, State.recordCell_engines]
      exact Engine.abandon_of_other enlisting retiring
    · rw [State.recordCell_engines]
  · have recorded : (s.recordCell w).changeStands w.bank := by
      unfold State.changeStands
      rwa [State.recordCell_maps]
    rw [State.abandonChange_of_stands recorded, State.recordCell_engines]

/-- The last stage latches flags and unlatches none (R132, R150, R163). -/
theorem State.finishCell_flags (image : s.loader.state ≠ .waiting) : s.flags.within (s.finishCell w).flags := by
  have waits : ((s.withDrive w).ageCommit w.zeroCrossing).loader.state ≠ .waiting := by
    rwa [State.ageCommit_loader, State.withDrive_loader]
  have ended : (s.finishCell w).flags = (s.atDrive w).flags := by
    rw [State.finishCell_eq, State.endWork_flags, State.endCell, State.settleEcho_flags, State.waitImage_of_ne waits,
      State.ageCommit_flags, (s.withDrive_sameDrive w).flags]
  have recorded : s.flags.within (s.recordCell w).flags := by
    unfold State.recordCell
    split
    · rw [State.closeRecord_flags]
      exact FlagUnit.within.latchIf _ _ _
    · exact FlagUnit.within.refl _
  rw [ended, State.atDrive]
  refine recorded.trans ?_
  rcases (s.recordCell w).abandonChange_cases w.bank with e | e <;> rw [e]
  · exact (FlagUnit.within.raiseChanges _ _ _).trans (FlagUnit.within.latchIndex _ _)
  · exact FlagUnit.within.refl _

/-- The last stage empties histories and counters at most (R143, R149, R185). -/
theorem State.finishCell_verifier (image : s.loader.state ≠ .waiting) : s.verifier.within (s.finishCell w).verifier := by
  have waits : ((s.withDrive w).ageCommit w.zeroCrossing).loader.state ≠ .waiting := by
    rwa [State.ageCommit_loader, State.withDrive_loader]
  have drive : s.verifier.within (s.withDrive w).verifier := by
    rw [State.withDrive, State.lateRestart_verifier, State.readyDrive_verifier, State.atDrive]
    rcases (s.recordCell w).abandonChange_cases w.bank with e | e <;> rw [e]
    · rw [State.dropChange_verifier, State.moveEnginesRaising, State.moveEngines, State.recordCell_verifier]
      exact Verifier.within.left _ _ _
    · rw [State.recordCell_verifier]
      exact Verifier.within.refl _
  have aged : (s.withDrive w).verifier.within ((s.withDrive w).ageCommit w.zeroCrossing).verifier := by
    rcases (s.withDrive w).ageCommit_cases w.zeroCrossing with ⟨r, e⟩ | ⟨r, e⟩ | e | e <;> rw [e]
    · rw [State.takeCommit, State.answer_verifier]
      exact Verifier.within.empty _
    · rw [State.expireCommit, State.answer_verifier]
      exact Verifier.within.refl _
    · exact Verifier.within.refl _
    · exact Verifier.within.refl _
  rw [State.finishCell_eq, State.endWork_verifier, State.endCell, State.settleEcho_verifier, State.waitImage_of_ne waits]
  exact drive.trans aged

end

/-! ### The last three stages -/

/-- What follows the verifier step changes the references, the accumulators and the not-ready mark alone (R96, R109 to R112). -/
theorem Engine.account_eq (supply : PerPhase Int) (slot : Slot) (o : SlotOutput) (eventOpen : Bool) (e : Engine) :
    e.account supply slot o eventOpen = { e with
      references := o.references
      peak := (e.account supply slot o eventOpen).peak
      energyDraw := (e.account supply slot o eventOpen).energyDraw
      marks := { e.marks with notReady := e.marks.notReady || (eventOpen && decide (e.state = .retiring)) } } := by
  unfold Engine.account
  dsimp only
  cases o.bypassClosed <;> cases eventOpen <;> by_cases retiring : e.state = .retiring <;> simp [retiring, Engine.markNotReady]

/-- A feeder's engine as its verifier step leaves it (R91). -/
def State.engineVerified (s : State) (w : Work) (f : Feeder) : Engine :=
  (s.engineStep w f).engine.verifierStep ((s.tripped w).get f || (s.verifyFailed w).get f) s.eventOpen

section
variable {s : State} {w : Work} {f : Feeder}

theorem State.engageCell_engine : (s.engageCell w).engines.get f = (s.engineStep w f).engine := s.enginesStepped_get w f

theorem State.engageCell_verified : ((s.engageCell w).enginesVerified (s.afterEngage w)).get f = s.engineVerified w f := by
  rw [State.enginesVerified, PerFeeder.get_build, State.engageCell_engine, State.afterEngage, PerFeeder.get_build]
  rfl

/-- The engine of a slot-holding feeder after its verifier step and what follows it (R91, R109 to R112). -/
theorem State.verifyCell_engine (mapped : f ∈ s.maps.active) :
    ∃ references peak energyDraw, ((s.engageCell w).verifyCell (s.afterEngage w)).engines.get f = { s.engineVerified w f with
      references := references, peak := peak, energyDraw := energyDraw
      marks := { (s.engineVerified w f).marks with notReady := (s.engineVerified w f).marks.notReady
        || (s.eventOpen && decide ((s.engineVerified w f).state = .retiring)) } } := by
  have accounted : ((s.engageCell w).verifyCell (s.afterEngage w)).engines.get f
      = ((s.engageCell w).enginesAccounted (s.afterEngage w)).get f := rfl
  have mapped : f ∈ (s.engageCell w).maps.active := mapped
  rw [accounted, State.enginesAccounted, PerFeeder.get_build, if_pos mapped, State.engageCell_verified]
  exact ⟨_, _, _, Engine.account_eq _ _ _ _ _⟩

/-- A slot-holding feeder's engine at the end of the cell's work, where the verifier step leaves it neither ENLISTING nor RETIRING
or no change is due to be abandoned (R91, R109 to R112, R132). -/
theorem State.lastStages_engine (image : s.loader.state ≠ .waiting) (mapped : f ∈ s.maps.active)
    (settled : ((s.engineVerified w f).state ≠ .enlisting ∧ (s.engineVerified w f).state ≠ .retiring)
      ∨ s.changeStands w.bank) :
    ∃ references peak energyDraw, (s.lastStages w).engines.get f = { s.engineVerified w f with
      references := references, peak := peak, energyDraw := energyDraw
      marks := { (s.engineVerified w f).marks with notReady := (s.engineVerified w f).marks.notReady
        || (s.eventOpen && decide ((s.engineVerified w f).state = .retiring)) } } := by
  obtain ⟨references, peak, energyDraw, verified⟩ := State.verifyCell_engine (w := w) mapped
  refine ⟨references, peak, energyDraw, ?_⟩
  rw [State.lastStages, State.finishCell_engine (by exact image), verified]
  rw [verified]
  exact settled

theorem State.lastStages_flags (image : s.loader.state ≠ .waiting) : (s.flagsRaised w).within (s.lastStages w).flags := by
  have verified : (s.flagsRaised w).within ((s.engageCell w).verifyCell (s.afterEngage w)).flags :=
    FlagUnit.within.raiseChanges _ _ _
  exact verified.trans (State.finishCell_flags (by exact image))

/-- A feeder that a verifier step moves has FEEDER_CHANGE raised (R91, R156). -/
theorem State.lastStages_raised (image : s.loader.state ≠ .waiting)
    (moved : (s.engineStep w f).engine.state ≠ (s.engineVerified w f).state) : (s.lastStages w).flags.raisedFor f := by
  have raised : ((s.engageCell w).verifyCell (s.afterEngage w)).flags.raisedFor f := by
    refine FlagUnit.raisedFor_raiseChanges _ ?_
    rw [State.engageCell_engine, ((s.engageCell w).enginesAccounted_frame _ f).1, State.engageCell_verified]
    exact moved
  exact raised.within (State.finishCell_flags (by exact image))

theorem State.lastStages_verifier (image : s.loader.state ≠ .waiting) :
    ((s.engageCell w).verifyCell (s.afterEngage w)).verifier.within (s.lastStages w).verifier :=
  State.finishCell_verifier (by exact image)

theorem State.lastStages_overcurrent (image : s.loader.state ≠ .waiting) : (s.lastStages w).verifier.overcurrent = s.tripped w :=
  (State.lastStages_verifier image).overcurrent

/-- The counters are at 0 at the end of the work where the engines' work left them so, or a verifier step ended the driving
(R149). -/
theorem State.lastStages_mismatches (image : s.loader.state ≠ .waiting)
    (h : (s.compared w).verifier.mismatches.get f = ⟨0, 0, 0⟩
      ∨ ((s.engineStep w f).engine.state.driving = true ∧ (s.engineVerified w f).state.driving = false)) :
    (s.lastStages w).verifier.mismatches.get f = ⟨0, 0, 0⟩ := by
  refine (State.lastStages_verifier image).mismatches f ?_
  change (Verifier.left (s.engageCell w).engines ((s.engageCell w).enginesAccounted (s.afterEngage w))
    { (s.compared w).verifier with overcurrent := s.tripped w }).mismatches.get f = ⟨0, 0, 0⟩
  rcases h with zero | ⟨driven, idle⟩
  · exact (Verifier.within.left _ _ _).mismatches f zero
  · refine Verifier.left_mismatches ?_ ?_ _
    · rw [State.engageCell_engine, driven]
    · rw [((s.engageCell w).enginesAccounted_frame _ f).1, State.engageCell_verified, idle]

theorem joinHistory_getLast? (h : List (Option Int)) (entry : Option Int) : (joinHistory h entry).getLast? = some entry := by
  unfold joinHistory
  rw [List.getLast?_drop, if_neg, List.getLast?_concat]
  simp [Config.historySize]

/-- A feeder locked out in its verifier step adds an entry with no command to each of its histories (R91, R143). -/
theorem State.lastStages_histories (image : s.loader.state ≠ .waiting) (locked : (s.engineVerified w f).state = .lockout)
    (p : Phase) : (((s.lastStages w).verifier.histories.get f).get p) = []
      ∨ (((s.lastStages w).verifier.histories.get f).get p).getLast? = some none := by
  rcases (State.lastStages_verifier (w := w) image).histories f p with same | emptied
  · refine .inr ?_
    have closed : (((s.engageCell w).outputsVerified (s.afterEngage w)).get f).bypassClosed = true := by
      rw [State.outputsVerified, PerFeeder.get_build, State.engageCell_verified, SlotOutput.afterVerifier, if_pos locked]
      rfl
    have joined : ((((s.engageCell w).verifyCell (s.afterEngage w)).verifier.histories.get f).get p)
        = joinHistory (((s.compared w).verifier.histories.get f).get p) none := by
      rw [State.verifyCell, State.appendHistories, State.moveEnginesRaising, State.moveEngines, Verifier.append,
        PerFeeder.get_build, PerPhase.get_build, closed]
      rfl
    rw [same, joined, joinHistory_getLast?]
  · exact .inl emptied

/-- A row whose occurrence comes about in the engines' work on the cell carries that cell's work to its end (log entry 2). -/
theorem exec_of_engineOccurrence {c : Instr} {x : Occurrence} (h : s.standsIn w .tracked)
    (row : exec c s = .next (s.ready (State.comesAbout x)))
    (hx : x ∈ engineOccurrences (s.engineSteps w) (s.compared w).failed) :
    exec c s = .next (State.lastStages { s with came := [] } w) := by
  obtain ⟨acts, hw, stage⟩ := h
  have rest : s.restOfWork = State.lastStages { s with came := [] } w :=
    State.finishWork_tracked (s := { s with came := [] }) hw stage
  have noted : x ∈ s.restOfWork.came := by
    rw [rest]
    exact State.came_finishCell
      (s := (State.engageCell { s with came := [] } w).verifyCell (State.afterEngage { s with came := [] } w))
      (List.mem_append_right [] hx) _
  rw [row, State.ready_acts acts, State.comesAbout_of_mem noted, rest]

theorem releaseEnd_mem_occurrences {steps : PerFeeder EngineStep} (h : (steps.get f).released = true) (failed : Option Feeder) :
    .releaseEnd f ∈ engineOccurrences steps failed := by
  refine List.mem_append_left _ (List.mem_flatMap.2 ⟨f, Feeder.mem_all f, List.mem_append_left _ ?_⟩)
  rw [h]
  exact List.mem_singleton_self _

theorem verifyFailure_mem_occurrences (steps : PerFeeder EngineStep) : .verifyFailure f ∈ engineOccurrences steps (some f) :=
  List.mem_append_right _ (List.mem_singleton_self _)

end

end Sys2Proof.Machine
end
section
/-! A release that ends in a cell (R85, R87, R88), and a feeder whose verifier step has no fault (R91). -/
open Sys2Proof Sys2Proof.Machine
namespace Sys2Proof.Machine

/-! ### The engine's work -/

section
variable {v : CellView} {e : Engine} {x : Check}

theorem standingLookupIf_engine (v : CellView) (e : Engine) :
    (standingLookupIf v e).engine = { e with mode := (standingLookupIf v e).engine.mode } := by
  unfold standingLookupIf standingLookup Lookup.unmade
  repeat' split
  all_goals rfl

/-- The standing lookup of a release for the store's sake is recorded, and takes nothing back (R85). -/
theorem Engine.decideReleasing_of_shed (h : e.cause = some .shed) : e.decideReleasing v
    = if (standingLookupIf v e).answer = .declined then (standingLookupIf v e).engine.markDeclined
      else (standingLookupIf v e).engine := by
  have cause : (standingLookupIf v e).engine.cause = some .shed := by rw [standingLookupIf_engine]; exact h
  unfold Engine.decideReleasing
  simp only [cause, if_true]
  cases (standingLookupIf v e).answer <;> rfl

/-- A release that nothing takes back: the cell is no cell for the standing lookup, or its cause is SHED, or no support is needed
(R72, R85). -/
def CellView.releases (v : CellView) (e : Engine) : Prop :=
  v.sag ≠ .sag ∨ e.cause = some .shed ∨ v.needsSupport = false

/-- The decision step of a release that nothing takes back settles the mode and the declined mark alone (R72, R85). -/
theorem Engine.decideReleasing_frame (h : v.releases e) : e.decideReleasing v = { e with
    mode := (e.decideReleasing v).mode
    marks := { e.marks with declined := (e.decideReleasing v).marks.declined } } := by
  by_cases idle : (v.standing && v.needsSupport) = false
  · rw [Engine.decideReleasing_of_idle idle]
  · obtain ⟨standing, support⟩ := Bool.and_eq_true_iff.1 (Bool.not_eq_false _ ▸ idle)
    have sag : v.sag = .sag := of_decide_eq_true (Bool.and_eq_true_iff.1 (Bool.and_eq_true_iff.1 standing).1).1
    have shed : e.cause = some .shed := (h.resolve_left (not_not_intro sag)).resolve_right (by rw [support]; exact nofun)
    rw [Engine.decideReleasing_of_shed shed]
    split
    · rw [standingLookupIf_engine]; rfl
    · rw [standingLookupIf_engine]

/-- What a release that ends leaves of the engine (R87). -/
def Engine.ended (e : Engine) : Engine :=
  { e with gain := 0, state := if e.cause = some .shed then .shed else .standby, cause := none }

theorem Engine.ended_driving (e : Engine) : e.ended.state.driving = false := by
  unfold Engine.ended
  dsimp only
  split <;> rfl

/-- A release whose gain is at most its decay step ends in the cell (R85, R87, R88). -/
theorem Engine.work_of_release_ended (state : e.state = .releasing) (confirmation : v.marks.confirmation = false)
    (returns : v.marks.returnToSag = false) (h : v.releases e)
    (gain : e.gain ≤ if e.cause = some .shed then v.settings.shedDecay else v.settings.decay) :
    (e.work v x).engine = (e.decideReleasing v).ended ∧ (e.work v x).released = true := by
  have decided : e.decided v x = e.decideReleasing v := by
    rw [Engine.decided, Engine.confirmationStep_of_none confirmation, Engine.decision_of_releasing v x state, returns,
      if_neg Bool.false_ne_true]
  have frame := Engine.decideReleasing_frame h
  have releasing : (e.decideReleasing v).state = .releasing := by rw [frame]; exact state
  have gone : (e.decideReleasing v).nextGain v.settings = 0 := by
    rw [Engine.nextGain_eq, releasing, if_neg nofun, if_pos rfl, frame]
    exact Nat.sub_eq_zero_of_le gain
  constructor
  · rw [Engine.work_engine, decided, Engine.gainStep_of_ended _ _ releasing gone]
    exact Engine.referenceStep_of_not_driving v _ _ (Engine.ended_driving _)
  · change Engine.releaseDone { e.decided v x with gain := (e.decided v x).nextGain v.settings } = true
    rw [decided, gone, Engine.releaseDone, decide_eq_true releasing]
    rfl

end

/-! ### A slot-holding feeder at the end of the work -/

section
variable {s : State} {w : Work} {f : Feeder}

/-- A slot-holding feeder's outputs show the bypass open exactly where it drives (R79). -/
theorem State.outputsFormed_bypass (mapped : f ∈ s.maps.active) :
    ((s.outputsFormed w).get f).bypassClosed = !(s.engineStep w f).engine.state.driving := by
  rw [State.outputsFormed_get, State.engineStep_of_mem mapped]
  exact (Engine.work_shows _ _ _).bypass

/-- A feeder that ends its engine's work neither driving nor tripped has no fault at its verifier step (R91, R146). -/
theorem State.engineVerified_of_sound (mapped : f ∈ s.maps.active) (untripped : (s.tripped w).get f = false)
    (idle : (s.engineStep w f).engine.state.driving = false) : s.engineVerified w f = (s.engineStep w f).engine := by
  have closed : ((s.outputsFormed w).get f).bypassClosed = true := by rw [State.outputsFormed_bypass mapped, idle]; rfl
  have unfailed : (s.verifyFailed w).get f = false := by
    rw [State.verifyFailed, PerFeeder.get_build]
    exact decide_eq_false ((Verifier.compare_frame _ _).2 f closed).2
  rw [State.engineVerified, untripped, unfailed]
  rfl

/-- A driving feeder that its engine's work stops has its counters at 0 after the comparison (R146, R149). -/
theorem State.compared_mismatches_of_left (mapped : f ∈ s.maps.active) (driven : (s.engines.get f).state.driving = true)
    (idle : (s.engineStep w f).engine.state.driving = false) : (s.compared w).verifier.mismatches.get f = ⟨0, 0, 0⟩ := by
  have closed : ((s.outputsFormed w).get f).bypassClosed = true := by rw [State.outputsFormed_bypass mapped, idle]; rfl
  rw [State.compared, ((Verifier.compare_frame _ _).2 f closed).1]
  exact Verifier.left_mismatches driven (by rw [State.enginesStepped_get, idle]) _

/-- A feeder that its engine's work moves has FEEDER_CHANGE raised (R80, R156). -/
theorem State.lastStages_raised_of_stepped (image : s.loader.state ≠ .waiting)
    (moved : (s.engines.get f).state ≠ (s.engineStep w f).engine.state) : (s.lastStages w).flags.raisedFor f := by
  have stepped : ((s.flags.latchFeeders .checkFail ((s.engineSteps w).map EngineStep.failed)).raiseChanges s.engines
      (s.enginesStepped w)).raisedFor f :=
    FlagUnit.raisedFor_raiseChanges _ (by rwa [State.enginesStepped_get])
  have raised : (s.flagsRaised w).raisedFor f :=
    stepped.within ((FlagUnit.within.latchFeeders _ _ _).trans (FlagUnit.within.latchFeeders _ _ _))
  exact raised.within (State.lastStages_flags image)

/-- A release that ends leaves the feeder as its engine's work does, but for what is accounted at the end (R87, R91). -/
theorem State.lastStages_of_release_ended {d : Engine} (image : s.loader.state ≠ .waiting) (mapped : f ∈ s.maps.active)
    (untripped : (s.tripped w).get f = false) (stepped : (s.engineStep w f).engine = d.ended) :
    ∃ references peak energyDraw, (s.lastStages w).engines.get f
      = { d.ended with references := references, peak := peak, energyDraw := energyDraw } := by
  have verified : s.engineVerified w f = d.ended :=
    (State.engineVerified_of_sound mapped untripped (by rw [stepped]; exact d.ended_driving)).trans stepped
  have states : d.ended.state ≠ .enlisting ∧ d.ended.state ≠ .retiring := by
    unfold Engine.ended
    dsimp only
    split <;> exact ⟨nofun, nofun⟩
  obtain ⟨references, peak, energyDraw, ended⟩ := State.lastStages_engine (w := w) image mapped (.inl (by rwa [verified]))
  refine ⟨references, peak, energyDraw, ?_⟩
  rw [ended, verified, decide_eq_false states.2, Bool.and_false, Bool.or_false]

end

/-- Settles O19: the decision step leaves the release as it is, its gain step ends it, and no fault follows. -/
theorem releaseEndLeavesStandbyOrShed : Obligations.ReleaseEndLeavesStandbyOrShed := by
  intro s w f standing mapped releasing confirmation returns image untripped releases gain
  obtain ⟨stepped, released⟩ := Engine.work_of_release_ended (v := s.view w f) (x := s.maps.checks.get f) releasing confirmation
    returns releases gain
  rw [← State.engineStep_of_mem (w := w) mapped] at stepped released
  have idle : (s.engineStep w f).engine.state.driving = false := by rw [stepped]; exact Engine.ended_driving _
  have driven : (s.engines.get f).state.driving = true := by rw [releasing]; rfl
  have occurs : .releaseEnd f ∈ engineOccurrences (s.engineSteps w) (s.compared w).failed :=
    releaseEnd_mem_occurrences (by rwa [State.engineSteps, PerFeeder.get_build]) _
  obtain ⟨references, peak, energyDraw, ended⟩ :=
    State.lastStages_of_release_ended (s := { s with came := [] }) image mapped untripped stepped
  have frame := Engine.decideReleasing_frame (v := s.view w f) (e := s.engines.get f) releases
  have cause : ((s.engines.get f).decideReleasing (s.view w f)).cause = (s.engines.get f).cause := by rw [frame]
  obtain ⟨latched, changed⟩ := State.lastStages_raised_of_stepped (s := { s with came := [] }) (w := w) image
    fun same => absurd (driven.symm.trans ((congrArg FeederState.driving same).trans idle)) nofun
  refine ⟨_, exec_of_engineOccurrence standing rfl occurs, State.finishCell_work _ _, ?_, ?_, ?_, ?_, fun unsupported => ?_,
    fun c m sag classified need published response => ?_,
    State.lastStages_mismatches image (.inl (State.compared_mismatches_of_left mapped driven idle)), latched, changed⟩
  · rw [ended, Engine.ended, cause]
  · rw [ended]; rfl
  · rw [ended]; rfl
  · rw [ended, Engine.ended, frame]
  · have none : ((s.view w f).standing && (s.view w f).needsSupport) = false := by
      rcases unsupported with sag | need
      · rw [CellView.standing, show decide ((s.view w f).sag = .sag) = false from decide_eq_false sag]
        rfl
      · rw [need, Bool.and_false]
    rw [ended, Engine.ended, Engine.decideReleasing_of_idle none]
    exact ⟨rfl, rfl⟩
  · have support : ((s.view w f).standing && (s.view w f).needsSupport) = true := by
      rw [need, Bool.and_true, CellView.standing, show (s.view w f).sag = .sag from sag,
        show (s.view w f).classified = true from classified, show (s.view w f).marks.returnToSag = false from returns]
      rfl
    have shed : (s.engines.get f).cause = some .shed :=
      (releases.resolve_left (not_not_intro sag)).resolve_right (by rw [need]; exact nofun)
    rw [ended, Engine.ended, Engine.decideReleasing_of_support support ⟨c, published, response⟩]
    by_cases decline : m = .decline
    · rw [if_pos decline, decide_eq_true decline, Bool.or_true]
      exact ⟨rfl, rfl⟩
    · rw [if_neg decline, if_pos shed, decide_eq_false decline, Bool.or_false]
      exact ⟨rfl, rfl⟩

end Sys2Proof.Machine
end
section
/-! The verifier step's lockouts (R91, R148, R149): every fault of a feeder that can be locked out, in whatever state its engine's
work leaves it. -/
open Sys2Proof Sys2Proof.Machine
namespace Sys2Proof.Machine

/-! ### A feeder that is locked out -/

/-- The feeder is LOCKOUT with gain 0 and no cause, with the locked mark where an event is open (R88, R91, R96). -/
structure Engine.lockedOut (e : Engine) (eventOpen : Bool) : Prop where
  state : e.state = .lockout
  gain : e.gain = 0
  cause : e.cause = none
  mark : eventOpen = true → e.marks.locked = true

theorem Engine.lockOut_lockedOut (e : Engine) (eventOpen : Bool) : (e.lockOut eventOpen).lockedOut eventOpen := by
  rw [Engine.lockOut_eq]
  exact ⟨rfl, rfl, rfl, fun h => by rw [h]; exact Bool.or_true _⟩

section
variable {e : Engine}

theorem Engine.lockedOut.congr {x : Engine} {eventOpen : Bool} (h : e.lockedOut eventOpen) (state : x.state = e.state)
    (gain : x.gain = e.gain) (cause : x.cause = e.cause) (mark : x.marks.locked = e.marks.locked) : x.lockedOut eventOpen :=
  ⟨state.trans h.state, gain.trans h.gain, cause.trans h.cause, fun o => mark.trans (h.mark o)⟩

/-! ### The verifier step -/

theorem Engine.verifierStep_of_lockable (h : e.state.lockable = true) (eventOpen : Bool) :
    e.verifierStep true eventOpen = e.lockOut eventOpen := by
  rw [Engine.verifierStep, if_pos rfl, if_pos h]

theorem Engine.verifierStep_of_lockout (h : e.state = .lockout) (fault eventOpen : Bool) :
    e.verifierStep fault eventOpen = e := by
  unfold Engine.verifierStep
  rw [h]
  cases fault <;> rfl

theorem Engine.verifierStep_of_retiring (h : e.state = .retiring) (eventOpen : Bool) :
    e.verifierStep true eventOpen = { e with prior := some .lockout } := by
  rw [Engine.verifierStep, if_pos rfl, h, if_neg nofun, if_pos rfl]

/-- A fault leaves a feeder locked out that can be, or is already (R91). -/
theorem Engine.verifierStep_lockedOut {eventOpen : Bool} (h : e.state.lockable = true ∨ e.lockedOut eventOpen) :
    (e.verifierStep true eventOpen).lockedOut eventOpen := by
  rcases h with lockable | locked
  · rw [Engine.verifierStep_of_lockable lockable]
    exact e.lockOut_lockedOut eventOpen
  · rwa [Engine.verifierStep_of_lockout locked.state]

/-! ### The decision step takes no lockable feeder but to a lockable state or to its check's LOCKOUT -/

theorem FeederState.lockable_of_driving {x : FeederState} (h : x.driving = true) : x.lockable = true := by
  cases x
  case injecting | releasing => rfl
  all_goals cases h

theorem Engine.enterInjection_lockable (h : e.state.lockable = true) (v : CellView) (m : Mode) :
    (e.enterInjection v m).state.lockable = true := by
  rw [Engine.enterInjection_eq]
  split
  · rfl
  · split
    · exact h
    · rfl

theorem Engine.decideStandby_lockable (h : e.state.lockable = true) (v : CellView) :
    (e.decideStandby v).state.lockable = true := by
  have kept : (if v.marks.confirmation then confirmationLookup v e else standingLookupIf v e).engine.state.lockable = true := by
    split
    · rwa [confirmationLookup_state]
    · rwa [standingLookupIf_state]
  unfold Engine.decideStandby
  generalize (if v.marks.confirmation then confirmationLookup v e else standingLookupIf v e) = l at kept
  dsimp only
  split
  · exact Engine.enterInjection_lockable kept v _
  · exact Engine.enterInjection_lockable kept v _
  all_goals exact kept

theorem Engine.decideInjecting_lockable (h : e.state.lockable = true) (v : CellView) :
    (e.decideInjecting v).state.lockable = true := by
  have kept : (injectingLookup v e).engine.state.lockable = true := by rwa [injectingLookup_state]
  unfold Engine.decideInjecting
  dsimp only
  split
  · split <;> rfl
  · repeat' split
    case isFalse.isFalse.isFalse.isFalse => exact kept
    all_goals rfl

theorem Engine.decideReturn_lockable (h : e.state.lockable = true) (v : CellView) :
    (e.decideReturn v).state.lockable = true := by
  rw [Engine.decideReturn_eq]
  split
  · exact h
  · split
    · exact h
    · rfl

theorem Engine.decideReleasing_lockable (h : e.state.lockable = true) (v : CellView) :
    (e.decideReleasing v).state.lockable = true := by
  have kept : (standingLookupIf v e).engine.state.lockable = true := by rwa [standingLookupIf_state]
  unfold Engine.decideReleasing
  dsimp only
  split
  · split
    · exact kept
    · split
      · exact kept
      · rfl
  all_goals exact kept

theorem Engine.decideShed_lockable (h : e.state.lockable = true) (v : CellView) : (e.decideShed v).state.lockable = true := by
  unfold Engine.decideShed
  split
  · rfl
  · exact h

theorem Engine.decideChecking_lockable (h : e.state.lockable = true) (v : CellView) (x : Check) :
    (e.decideChecking v x).engine.state.lockable = true ∨ (e.decideChecking v x).engine.lockedOut v.eventOpen := by
  unfold Engine.decideChecking
  dsimp only
  split
  · split
    · split
      · exact .inl rfl
      · exact .inr (e.lockOut_lockedOut v.eventOpen)
    · exact .inl h
  · exact .inl h

theorem Engine.decision_lockable (h : e.state.lockable = true) (v : CellView) (x : Check) :
    (e.decision v x).engine.state.lockable = true ∨ (e.decision v x).engine.lockedOut v.eventOpen := by
  cases state : e.state
  case standby =>
    rw [Engine.decision_of_standby v x state]
    exact .inl (Engine.decideStandby_lockable h v)
  case injecting =>
    rw [Engine.decision_of_injecting v x state]
    exact .inl (Engine.decideInjecting_lockable h v)
  case releasing =>
    rw [Engine.decision_of_releasing v x state]
    split
    · exact .inl (Engine.decideReturn_lockable h v)
    · exact .inl (Engine.decideReleasing_lockable h v)
  case shed =>
    rw [Engine.decision_of_shed v x state]
    exact .inl (Engine.decideShed_lockable h v)
  case checking =>
    rw [Engine.decision_of_checking state]
    exact Engine.decideChecking_lockable h v x
  all_goals rw [state] at h; cases h

/-- A feeder that can be locked out ends its engine's work so, or locked out by its check (R80, R137). -/
theorem Engine.work_lockable (h : e.state.lockable = true) (v : CellView) (x : Check) :
    (e.work v x).engine.state.lockable = true ∨ (e.work v x).engine.lockedOut v.eventOpen := by
  have decided : (e.decided v x).state.lockable = true ∨ (e.decided v x).lockedOut v.eventOpen :=
    Engine.decision_lockable (by rwa [(Engine.confirmationStep_state v e).1]) v x
  rcases decided with lockable | locked
  · refine .inl ?_
    by_cases ends : (e.decided v x).state = .releasing ∧ (e.work v x).engine.gain = 0
    · rw [(Engine.work_ends v e x ends.1 ends.2).1]
      split <;> rfl
    · rwa [(Engine.work_stands v e x (not_and_or.1 ends)).1]
  · rw [Engine.work_of_not_driving v e x (by rw [locked.state]; rfl)]
    exact .inr (locked.congr rfl locked.gain.symm rfl rfl)

/-- A feeder in a state in which no step is decided, and that does not drive, ends its engine's work there, with gain 0 (R80,
R88). -/
theorem Engine.work_of_standing (h : e.state ∈ [FeederState.lockout, .retiring, .offline, .enlisting]) (v : CellView) (x : Check) :
    (e.work v x).engine.state = e.state ∧ (e.work v x).engine.gain = 0 := by
  have state := (Engine.confirmationStep_state v e).1
  have decided : e.decided v x = e.confirmationStep v := Engine.decision_of_standing v x (by rwa [state])
  have idle : (e.decided v x).state.driving = false := by
    rw [decided, state]
    cases stands : e.state
    case injecting | releasing => rw [stands] at h; simp at h
    all_goals rfl
  rw [Engine.work_of_not_driving v e x idle]
  exact ⟨(congrArg Engine.state decided).trans state, rfl⟩

end

/-! ### The conditions of the verifier step -/

theorem phaseMost_lt_iff (n : Nat) (v : PerPhase Nat) : n < phaseMost v ↔ ∃ p, n < v.get p := by
  rw [phaseMost, lt_max_iff, lt_max_iff]
  refine ⟨?_, fun ⟨p, h⟩ => ?_⟩
  · rintro (h | h | h)
    · exact ⟨.a, h⟩
    · exact ⟨.b, h⟩
    · exact ⟨.c, h⟩
  · cases p
    · exact .inl h
    · exact .inr (.inl h)
    · exact .inr (.inr h)

section
variable {s : State} {w : Work} {f : Feeder}

/-- A slot-holding feeder trips where a phase's winding current exceeds TRIP_CURRENT (R148). -/
theorem State.tripped_iff : (s.tripped w).get f = true ↔ f ∈ s.maps.active ∧ ∃ p, (w.bank.feeder f).tripCurrent
    < ((slotOf s.maps.active w.sense.slots f).current.get p).natAbs := by
  rw [State.tripped, overcurrentsOf, PerFeeder.get_build, Bool.and_eq_true_iff, decide_eq_true_iff, overcurrentIn,
    decide_eq_true_iff, phaseMost_lt_iff]
  simp only [PerPhase.get_map]

/-- The feeder whose VERIFY_COUNT is reached holds a slot and drives (R79, R146, R149). -/
theorem State.driving_of_failed (h : (s.compared w).failed = some f) :
    f ∈ s.maps.active ∧ (s.engineStep w f).engine.state.driving = true := by
  have opened : ((s.outputsFormed w).get f).bypassClosed = false := by
    refine Bool.eq_false_iff.2 fun closed => ?_
    exact ((Verifier.compare_frame _ _).2 f closed).2 h
  have mapped : f ∈ s.maps.active := by
    by_contra unmapped
    rw [State.outputsFormed_get, State.engineStep, if_neg unmapped] at opened
    cases opened
  rw [State.outputsFormed_bypass mapped, Bool.not_eq_false'] at opened
  exact ⟨mapped, opened⟩

theorem State.engineVerified_of_failed (h : (s.compared w).failed = some f) :
    s.engineVerified w f = (s.engineStep w f).engine.verifierStep true s.eventOpen := by
  rw [State.engineVerified, State.verifyFailed, PerFeeder.get_build, decide_eq_true h, Bool.or_true]

theorem State.engineVerified_of_tripped (h : (s.tripped w).get f = true) :
    s.engineVerified w f = (s.engineStep w f).engine.verifierStep true s.eventOpen := by
  rw [State.engineVerified, h, Bool.true_or]

/-- A slot-holding feeder that its verifier step leaves locked out is so at the end of the work (R91, R132). -/
theorem State.lastStages_lockedOut {eventOpen : Bool} (image : s.loader.state ≠ .waiting) (mapped : f ∈ s.maps.active)
    (h : (s.engineVerified w f).lockedOut eventOpen) : ((s.lastStages w).engines.get f).lockedOut eventOpen := by
  obtain ⟨references, peak, energyDraw, ended⟩ :=
    State.lastStages_engine (w := w) image mapped (.inl (by rw [h.state]; exact ⟨nofun, nofun⟩))
  exact h.congr (by rw [ended]) (by rw [ended]) (by rw [ended]) (by rw [ended])

/-- The flag of a failed verification stands at the end of the work (R149, R150). -/
theorem State.lastStages_verify_latched (image : s.loader.state ≠ .waiting) (h : (s.compared w).failed = some f) :
    (s.lastStages w).flags.latched.getLsbD (12 + 5 * f.number) = true := by
  have latched : (s.flagsRaised w).latched.getLsbD (FeederFlag.verify.index f) = true :=
    FlagUnit.latchFeeders_getLsbD _ .verify (by rw [State.verifyFailed, PerFeeder.get_build]; exact decide_eq_true h)
  have ended := (State.lastStages_flags image).latched _ (FeederFlag.verify.index_lt_word f) latched
  rwa [FeederFlag.index, show 11 + 5 * f.number + FeederFlag.verify.offset = 12 + 5 * f.number from Nat.add_right_comm _ _ _]
    at ended

/-- The flag of an overcurrent stands at the end of the work (R148, R150). -/
theorem State.lastStages_overcurrent_latched (image : s.loader.state ≠ .waiting) (h : (s.tripped w).get f = true) :
    (s.lastStages w).flags.latched.getLsbD (11 + 5 * f.number) = true := by
  have latched : (s.flagsRaised w).latched.getLsbD (FeederFlag.overcurrent.index f) = true :=
    (FlagUnit.within.latchFeeders _ .verify (s.verifyFailed w)).latched _ (FeederFlag.overcurrent.index_lt_word f)
      (FlagUnit.latchFeeders_getLsbD _ .overcurrent h)
  exact (State.lastStages_flags image).latched _ (FeederFlag.overcurrent.index_lt_word f) latched

/-! ### The two faults -/

/-- What a failed verification leaves at the end of the work (R91, R149). -/
theorem State.lastStages_of_failed (image : s.loader.state ≠ .waiting) (failed : (s.compared w).failed = some f) :
    ((s.lastStages w).engines.get f).lockedOut s.eventOpen
      ∧ (s.lastStages w).verifier.mismatches.get f = ⟨0, 0, 0⟩
      ∧ (∀ p, ((s.lastStages w).verifier.histories.get f).get p = []
        ∨ (((s.lastStages w).verifier.histories.get f).get p).getLast? = some none)
      ∧ (s.lastStages w).flags.raisedFor f := by
  obtain ⟨mapped, driven⟩ := State.driving_of_failed failed
  have locked : (s.engineVerified w f).lockedOut s.eventOpen := by
    rw [State.engineVerified_of_failed failed]
    exact Engine.verifierStep_lockedOut (.inl (FeederState.lockable_of_driving driven))
  have idle : (s.engineVerified w f).state.driving = false := by rw [locked.state]; rfl
  exact ⟨State.lastStages_lockedOut image mapped locked, State.lastStages_mismatches image (.inr ⟨driven, idle⟩),
    State.lastStages_histories image locked.state,
    State.lastStages_raised image fun same =>
      absurd (driven.symm.trans ((congrArg FeederState.driving same).trans idle)) nofun⟩

/-- An overcurrent locks out a feeder that can be (R91, R148). -/
theorem State.lastStages_of_tripped_lockable (image : s.loader.state ≠ .waiting) (tripped : (s.tripped w).get f = true)
    (lockable : (s.engines.get f).state.lockable = true) : ((s.lastStages w).engines.get f).lockedOut s.eventOpen := by
  have mapped := (State.tripped_iff.1 tripped).1
  refine State.lastStages_lockedOut image mapped ?_
  rw [State.engineVerified_of_tripped tripped, State.engineStep_of_mem mapped]
  exact Engine.verifierStep_lockedOut (Engine.work_lockable lockable (s.view w f) _)

/-- An overcurrent leaves a LOCKOUT feeder there, with gain 0 (R91, R148). -/
theorem State.lastStages_of_tripped_lockout (image : s.loader.state ≠ .waiting) (tripped : (s.tripped w).get f = true)
    (lockout : (s.engines.get f).state = .lockout) :
    ((s.lastStages w).engines.get f).state = .lockout ∧ ((s.lastStages w).engines.get f).gain = 0 := by
  have mapped := (State.tripped_iff.1 tripped).1
  obtain ⟨state, gain⟩ := Engine.work_of_standing (by rw [lockout]; simp) (s.view w f) (s.maps.checks.get f)
  rw [← State.engineStep_of_mem (w := w) mapped] at state gain
  have verified : s.engineVerified w f = (s.engineStep w f).engine :=
    Engine.verifierStep_of_lockout (state.trans lockout) _ _
  have stands : (s.engineVerified w f).state = .lockout := by rw [verified, state, lockout]
  obtain ⟨references, peak, energyDraw, ended⟩ :=
    State.lastStages_engine (w := w) image mapped (.inl (by rw [stands]; exact ⟨nofun, nofun⟩))
  rw [ended]
  exact ⟨stands, by rw [verified, gain]⟩

/-- An overcurrent of a RETIRING feeder makes LOCKOUT its prior state (R91, R148). -/
theorem State.lastStages_of_tripped_retiring (image : s.loader.state ≠ .waiting) (tripped : (s.tripped w).get f = true)
    (retiring : (s.engines.get f).state = .retiring) (stands : s.changeStands w.bank) :
    ((s.lastStages w).engines.get f).state = .retiring ∧ ((s.lastStages w).engines.get f).prior = some .lockout := by
  have mapped := (State.tripped_iff.1 tripped).1
  have state := (Engine.work_of_standing (by rw [retiring]; simp) (s.view w f) (s.maps.checks.get f)).1
  rw [← State.engineStep_of_mem (w := w) mapped, retiring] at state
  obtain ⟨references, peak, energyDraw, ended⟩ := State.lastStages_engine (w := w) image mapped (.inr stands)
  rw [ended, State.engineVerified_of_tripped tripped, Engine.verifierStep_of_retiring state]
  exact ⟨state, rfl⟩

end

/-- Settles O21: only a driving feeder is compared, and a fault locks out whatever lockable state the engine's work leaves. -/
theorem verifyFailureLocksTheFeederOut : Obligations.VerifyFailureLocksTheFeederOut := by
  refine ⟨fun s w f standing failed image => ?_, Verifier.eligible_iff,
    fun b outputs u x place places => ?_,
    fun b supply slots outputs u => ⟨Verifier.compare_of_none supply slots,
      fun f p c bad n chosen entry hbad hn => Verifier.compare_of_chosen supply slots chosen entry hbad hn⟩,
    fun s w => rfl, fun s w f standing image => ?_⟩
  · have occurs : .verifyFailure f ∈ engineOccurrences (s.engineSteps w) (s.compared w).failed := by
      rw [failed]
      exact verifyFailure_mem_occurrences _
    obtain ⟨locked, mismatches, histories, latched, changed⟩ :=
      State.lastStages_of_failed (s := { s with came := [] }) image failed
    exact ⟨_, exec_of_engineOccurrence standing rfl occurs, State.finishCell_work _ _, locked.state, locked.gain, locked.cause,
      locked.mark, mismatches, histories, State.lastStages_verify_latched (s := { s with came := [] }) image failed, latched,
      changed⟩
  · obtain rfl : place = Pair.place := funext places
    exact ⟨Verifier.chosen_rotate_iff, fun mode _ => Verifier.chosen_fixed_iff mode⟩
  · obtain ⟨-, hw, stage⟩ := standing
    rw [State.finishWork_tracked hw stage]
    refine ⟨State.tripped_iff, by rw [State.lastStages_overcurrent image], fun tripped =>
      ⟨State.lastStages_overcurrent_latched image tripped, fun held => ?_, fun lockable opened => ?_, fun retiring stands => ?_⟩⟩
    · by_cases lockout : (s.engines.get f).state = .lockout
      · exact State.lastStages_of_tripped_lockout image tripped lockout
      · have lockable : (s.engines.get f).state.lockable = true := by
          rw [FeederState.lockable_iff]
          simpa [lockout] using held
        have locked := State.lastStages_of_tripped_lockable image tripped lockable
        exact ⟨locked.state, locked.gain⟩
    · exact (State.lastStages_of_tripped_lockable image tripped ((FeederState.lockable_iff _).2 lockable)).mark opened
    · exact State.lastStages_of_tripped_retiring image tripped retiring stands

end Sys2Proof.Machine
end

section
/-! The ranges of the chain from the sine table to the reference (R25, R104 to R108). -/
open Sys2Proof Sys2Proof.Machine
namespace Sys2Proof.Machine

/-! ### The sine table -/

theorem getD_le_of_forall_mem_le {l : List Nat} {bound : Nat} (h : ∀ x ∈ l, x ≤ bound) (i : Nat) : l.getD i 0 ≤ bound := by
  rw [List.getD_eq_getElem?_getD]
  cases entry : l[i]? with
  | none => exact Nat.zero_le _
  | some x => exact h x (List.mem_of_getElem? entry)

theorem sineQuarter_le (k : Nat) : sineQuarter k ≤ 32767 := by
  unfold sineQuarter
  split
  case h_9 => exact le_rfl
  all_goals exact getD_le_of_forall_mem_le (by decide) _

/-- The table's later quarters are its first one with the sign of the sine (R25). -/
theorem sineEntry_natAbs_le (k : Nat) : (sineEntry k).natAbs ≤ 32767 := by
  unfold sineEntry
  repeat' split
  all_goals simpa using sineQuarter_le _

theorem sineAt_natAbs_le (angle : Angle) : (sineAt angle).natAbs ≤ 32767 := sineEntry_natAbs_le _

/-! ### The chain -/

theorem natAbs_mul_le {x y : Int} {m n : Nat} (hx : x.natAbs ≤ m) (hy : y.natAbs ≤ n) : (x * y).natAbs ≤ m * n :=
  (Int.natAbs_mul x y).trans_le (Nat.mul_le_mul hx hy)

/-- The floor makes the range one longer below than above (R104). -/
theorem targetSample_range {amplitude : Nat} (h : amplitude ≤ 36862) (angle : Angle) (p : Phase) :
    -36861 ≤ targetSample amplitude angle p ∧ targetSample amplitude angle p ≤ 36860 := by
  have product : ((amplitude : Int) * sineAt (phaseAngle angle p)).natAbs ≤ 36862 * 32767 :=
    natAbs_mul_le (by rwa [Int.natAbs_natCast]) (sineAt_natAbs_le _)
  unfold targetSample
  omega

/-- A support level is at most 1000 per mille, so no drive mode aims above A_ref (R63, R103). -/
theorem CellView.targetAmplitude_le (v : CellView) (drive : Mode) : v.targetAmplitude drive ≤ v.amplitudeRef := by
  cases drive
  case floor =>
    have level : supportLevel v.settings v.elapsed ≤ 1000 := min_le_left _ _
    calc v.amplitudeRef * supportLevel v.settings v.elapsed / 1000
        ≤ v.amplitudeRef * 1000 / 1000 := Nat.div_le_div_right (Nat.mul_le_mul_left _ level)
      _ = v.amplitudeRef := Nat.mul_div_cancel _ (by decide)
  all_goals exact le_rfl

/-- A gain of at most 1 carries a voltage towards 0, and the floor never past it (R106). -/
theorem blended_between {gain : Nat} (h : gain ≤ 4096) (missing : Int) :
    min 0 missing ≤ blended missing gain ∧ blended missing gain ≤ max 0 missing := by
  have gain_le : (gain : Int) ≤ 4096 := Int.ofNat_le.2 h
  unfold blended
  rcases Int.le_total 0 missing with above | below
  · have nonneg : 0 ≤ missing * gain := Int.mul_nonneg above (Int.natCast_nonneg _)
    have most : missing * gain ≤ missing * 4096 := Int.mul_le_mul_of_nonneg_left gain_le above
    omega
  · have nonpos : missing * gain ≤ 0 := Int.mul_nonpos_of_nonpos_of_nonneg below (Int.natCast_nonneg _)
    have least : missing * 4096 ≤ missing * gain := Int.mul_le_mul_of_nonpos_left below gain_le
    omega

section
variable {v : CellView} {drive : Mode} {gain : Nat} {p : Phase}

theorem CellView.missingVoltage_range (amplitude : v.amplitudeRef ≤ 36862) (low : -32768 ≤ v.supply.get p)
    (high : v.supply.get p ≤ 32767) : -69628 ≤ v.missingVoltage drive p ∧ v.missingVoltage drive p ≤ 69628 := by
  obtain ⟨least, most⟩ := targetSample_range ((v.targetAmplitude_le drive).trans amplitude) (v.aim drive) p
  unfold CellView.missingVoltage
  omega

/-- The scaled reference of a blended voltage that does not pass its missing voltage (R106, R107). -/
theorem CellView.scaledReference_range (missing : -69628 ≤ v.missingVoltage drive p ∧ v.missingVoltage drive p ≤ 69628)
    (hgain : gain ≤ 4096) (scale : v.settings.scale ≤ 16383) :
    -278496 ≤ v.scaledReference drive gain p ∧ v.scaledReference drive gain p ≤ 278495 := by
  have between := blended_between hgain (v.missingVoltage drive p)
  have product : (blended (v.missingVoltage drive p) gain * (v.settings.scale : Int)).natAbs ≤ 69628 * 16383 :=
    natAbs_mul_le (by omega) (by rwa [Int.natAbs_natCast])
  unfold CellView.scaledReference
  omega

end

end Sys2Proof.Machine
end

section
/-! The clamps counted in an engine's work: what each of its steps leaves of the limited count and the limited mark (R80, R95,
R111). -/
open Sys2Proof Sys2Proof.Machine
namespace Sys2Proof.Machine

/-! ### The clamps of a cell -/

section
variable (v : CellView)

/-- A value equal to L_eff or -L_eff is not clamped (R108). -/
theorem CellView.clampReference_eq_self_iff (x : Int) : v.clampReference x = x ↔ ¬ v.limit < x.natAbs := by
  unfold CellView.clampReference clampInt
  split_ifs <;> omega

/-- The clamps among three scaled references are those whose magnitude exceeds L_eff (R108, R111). -/
theorem CellView.clamps_eq_countP (scaled : Phase → Int) :
    ((PerPhase.build fun p => if v.clampReference (scaled p) = scaled p then 0 else 1).toList).sum
      = [Phase.a, .b, .c].countP fun p => decide (v.limit < (scaled p).natAbs) := by
  simp only [v.clampReference_eq_self_iff, ite_not, PerPhase.build, PerPhase.toList, List.sum_cons, List.sum_nil,
    List.countP_cons, List.countP_nil, decide_eq_true_eq]
  omega

theorem CellView.clampCount_eq (drive : Mode) (gain : Nat) : v.clampCount drive gain
    = [Phase.a, .b, .c].countP fun p => decide (v.limit < (v.scaledReference drive gain p).natAbs) :=
  v.clamps_eq_countP (v.scaledReference drive gain)

end

/-! ### Steps that count no clamp -/

/-- What an engine records of the clamps since the last restart: the limited count and the limited mark (R111). -/
def Engine.clampRecord (e : Engine) : Nat × Bool := (e.limitedCount, e.marks.limited)

section
variable (v : CellView) (e : Engine)

theorem confirmationLookup_clampRecord : (confirmationLookup v e).engine.clampRecord = e.clampRecord := by
  unfold confirmationLookup
  split <;> rfl

theorem standingLookupIf_clampRecord : (standingLookupIf v e).engine.clampRecord = e.clampRecord := by
  rw [standingLookupIf_engine]
  rfl

theorem injectingLookup_clampRecord : (injectingLookup v e).engine.clampRecord = e.clampRecord := by
  unfold injectingLookup classificationLookup classRiseLookup
  repeat' split
  all_goals rfl

theorem Engine.enterInjection_clampRecord (m : Mode) : (e.enterInjection v m).clampRecord = e.clampRecord := by
  rw [Engine.enterInjection_eq]
  repeat' split
  all_goals rfl

theorem Engine.decideStandby_clampRecord : (e.decideStandby v).clampRecord = e.clampRecord := by
  have kept : (if v.marks.confirmation then confirmationLookup v e else standingLookupIf v e).engine.clampRecord
      = e.clampRecord := by
    split
    · exact confirmationLookup_clampRecord v e
    · exact standingLookupIf_clampRecord v e
  unfold Engine.decideStandby
  generalize (if v.marks.confirmation then confirmationLookup v e else standingLookupIf v e) = l at kept
  rw [← kept]
  dsimp only
  split
  · exact Engine.enterInjection_clampRecord v _ _
  · exact Engine.enterInjection_clampRecord v _ _
  all_goals rfl

theorem Engine.decideInjecting_clampRecord : (e.decideInjecting v).clampRecord = e.clampRecord := by
  rw [← injectingLookup_clampRecord v e]
  unfold Engine.decideInjecting
  dsimp only
  repeat' split
  all_goals rfl

theorem Engine.decideReturn_clampRecord : (e.decideReturn v).clampRecord = e.clampRecord := by
  rw [Engine.decideReturn_eq]
  repeat' split
  all_goals rfl

theorem Engine.decideReleasing_clampRecord : (e.decideReleasing v).clampRecord = e.clampRecord := by
  rw [← standingLookupIf_clampRecord v e]
  unfold Engine.decideReleasing
  dsimp only
  repeat' split
  all_goals rfl

theorem Engine.decideShed_clampRecord : (e.decideShed v).clampRecord = e.clampRecord := by
  unfold Engine.decideShed
  split <;> rfl

theorem Engine.lockOut_clampRecord (eventOpen : Bool) : (e.lockOut eventOpen).clampRecord = e.clampRecord := by
  cases eventOpen <;> rfl

theorem Engine.decideChecking_clampRecord (x : Check) : (e.decideChecking v x).engine.clampRecord = e.clampRecord := by
  unfold Engine.decideChecking
  dsimp only
  repeat' split
  case isTrue.isTrue.isFalse => exact e.lockOut_clampRecord v.eventOpen
  all_goals rfl

/-- The decision step counts no clamp, whatever the state it begins from (R80). -/
theorem Engine.decision_clampRecord (x : Check) : (e.decision v x).engine.clampRecord = e.clampRecord := by
  cases state : e.state
  case standby => rw [Engine.decision_of_standby v x state, Engine.decideStandby_clampRecord]
  case injecting => rw [Engine.decision_of_injecting v x state, Engine.decideInjecting_clampRecord]
  case releasing =>
    rw [Engine.decision_of_releasing v x state]
    split
    · exact e.decideReturn_clampRecord v
    · exact e.decideReleasing_clampRecord v
  case shed => rw [Engine.decision_of_shed v x state, Engine.decideShed_clampRecord]
  case checking => rw [Engine.decision_of_checking state, Engine.decideChecking_clampRecord]
  all_goals rw [Engine.decision_of_standing v x (by rw [state]; decide)]

/-- The confirmation step restarts the count and clears the mark (R95). -/
theorem Engine.confirmationStep_clampRecord : (e.confirmationStep v).clampRecord
    = (if v.marks.confirmation then 0 else e.limitedCount, !v.marks.confirmation && e.marks.limited) := by
  cases confirmation : v.marks.confirmation
  · rw [Engine.confirmationStep_of_none confirmation]
    rfl
  · rw [Engine.confirmationStep_of_confirmation confirmation]
    rfl

theorem Engine.gainStep_clampRecord (fb : FeederBank) : (e.gainStep fb).clampRecord = e.clampRecord := by
  rw [Engine.gainStep_frame]
  rfl

/-- Up to the reference step, the clamps recorded are those the confirmation step leaves (R80). -/
theorem Engine.gained_clampRecord (x : Check) : ((e.decided v x).gainStep v.settings).clampRecord
    = (if v.marks.confirmation then 0 else e.limitedCount, !v.marks.confirmation && e.marks.limited) :=
  calc ((e.decided v x).gainStep v.settings).clampRecord
      = (e.decided v x).clampRecord := Engine.gainStep_clampRecord _ _
    _ = (e.confirmationStep v).clampRecord := Engine.decision_clampRecord v _ x
    _ = _ := e.confirmationStep_clampRecord v

end

/-! ### The reference step counts the clamps -/

theorem Engine.countClamps_clampRecord (n : Nat) (e : Engine) :
    (e.countClamps n).clampRecord = (min 65535 (e.clampRecord.1 + n), e.clampRecord.2 || decide (1 ≤ n)) := by
  unfold Engine.countClamps
  cases n <;> simp [Engine.clampRecord, saturateAdd, Config.counterMax]

section
variable (v : CellView) (e : Engine) (x : Check)

/-- An engine that ends its work driving has counted the clamps of the chain it ran, with the drive mode and the gain it ends with
(R101, R111). -/
theorem Engine.work_clampRecord_of_driving (h : (e.work v x).engine.state.driving = true) : (e.work v x).engine.clampRecord
    = (min 65535 ((if v.marks.confirmation then 0 else e.limitedCount)
        + v.clampCount (e.work v x).engine.drive (e.work v x).engine.gain),
      (!v.marks.confirmation && e.marks.limited)
        || decide (1 ≤ v.clampCount (e.work v x).engine.drive (e.work v x).engine.gain)) := by
  have gained := e.gained_clampRecord v x
  rw [Engine.work_engine] at h ⊢
  rw [(Engine.referenceStep_shows v _ _).1] at h
  rw [Engine.referenceStep_of_driving v _ _ h, Engine.countClamps_clampRecord, gained]
  rfl

theorem Engine.work_clampRecord_of_not_driving (h : (e.work v x).engine.state.driving = false) : (e.work v x).engine.clampRecord
    = (if v.marks.confirmation then 0 else e.limitedCount, !v.marks.confirmation && e.marks.limited) := by
  have gained := e.gained_clampRecord v x
  rw [Engine.work_engine] at h ⊢
  rw [(Engine.referenceStep_shows v _ _).1] at h
  rw [Engine.referenceStep_of_not_driving v _ _ h, gained]

end

end Sys2Proof.Machine
end

section
/-! What a slot-holding feeder's engine takes from its verifier step and the account that follows it: the references held, the
peak reference and the energy draw (R91, R109, R110, R112); and the obligation on the chain. -/
open Sys2Proof Sys2Proof.Machine
namespace Sys2Proof.Machine

/-! ### The account of a cell -/

theorem addEnergy_eq (draw term : Int) : addEnergy draw term = max (-2147483648) (min 2147483647 (draw + term)) :=
  clampInt_eq_max_min (by decide) _

/-- A fault changes none of the accumulators (R91). -/
theorem Engine.verifierStep_accumulators (fault eventOpen : Bool) (e : Engine) :
    (e.verifierStep fault eventOpen).peak = e.peak ∧ (e.verifierStep fault eventOpen).limitedCount = e.limitedCount
      ∧ (e.verifierStep fault eventOpen).energyDraw = e.energyDraw := by
  unfold Engine.verifierStep
  split
  · split
    · cases eventOpen <;> exact ⟨rfl, rfl, rfl⟩
    · split <;> exact ⟨rfl, rfl, rfl⟩
  · exact ⟨rfl, rfl, rfl⟩

section
variable (supply : PerPhase Int) (slot : Slot) {o : SlotOutput} (eventOpen : Bool) (e : Engine)

theorem Engine.account_limitedCount : (e.account supply slot o eventOpen).limitedCount = e.limitedCount := by
  rw [Engine.account_eq]

/-- A slot that shows the bypass open raises the peak reference and the energy draw (R110, R112). -/
theorem Engine.account_of_open (h : o.bypassClosed = false) :
    (e.account supply slot o eventOpen).peak = max e.peak (largestReference o.references)
      ∧ (e.account supply slot o eventOpen).energyDraw = addEnergy e.energyDraw (energyTerm supply slot) := by
  unfold Engine.account
  rw [h]
  dsimp only
  rw [if_neg Bool.false_ne_true]
  split <;> exact ⟨rfl, rfl⟩

theorem Engine.account_of_closed (h : o.bypassClosed = true) : (e.account supply slot o eventOpen).peak = e.peak
    ∧ (e.account supply slot o eventOpen).energyDraw = e.energyDraw := by
  unfold Engine.account
  rw [h]
  dsimp only
  rw [if_pos rfl]
  split <;> exact ⟨rfl, rfl⟩

end

/-! ### The outputs as the verifier step leaves them -/

theorem SlotOutput.afterVerifier_of_lockout (o : SlotOutput) : o.afterVerifier .lockout = SlotOutput.closed .lockout := rfl

theorem SlotOutput.afterVerifier_of_ne {x : FeederState} (h : x ≠ .lockout) (o : SlotOutput) :
    o.afterVerifier x = { o with state := x } := if_neg h

theorem SlotOutput.afterVerifier_references (o : SlotOutput) (x : FeederState) :
    (o.afterVerifier x).references = if x = .lockout then ⟨0, 0, 0⟩ else o.references := by
  unfold SlotOutput.afterVerifier
  split <;> rfl

/-- The verifier step closes the bypass of a feeder it leaves in LOCKOUT, and opens none (R79, R91). -/
theorem SlotOutput.afterVerifier_closed {o : SlotOutput} {x : FeederState} (h : o.bypassClosed = true ∨ x = .lockout) :
    (o.afterVerifier x).bypassClosed = true := by
  by_cases lockout : x = .lockout
  · rw [lockout, SlotOutput.afterVerifier_of_lockout]
    rfl
  · rw [SlotOutput.afterVerifier_of_ne lockout]
    exact h.resolve_right lockout

/-! ### The third stage -/

/-- The third stage on a slot-holding feeder's engine: its verifier step, then its account of the outputs it leaves (R91, R109 to
R112). -/
theorem State.verifyCell_engine_eq {s : State} {f : Feeder} (mapped : f ∈ s.maps.active) (w : Work) :
    (s.verifyCell w).engines.get f = ((s.engines.get f).verifierStep (w.faults.get f) s.eventOpen).account w.sense.supply
      (slotOf s.maps.active w.sense.slots f)
      ((w.outputs.get f).afterVerifier ((s.engines.get f).verifierStep (w.faults.get f) s.eventOpen).state) s.eventOpen := by
  change (s.enginesAccounted w).get f = _
  rw [State.enginesAccounted, PerFeeder.get_build, if_pos mapped, State.outputsVerified, PerFeeder.get_build,
    State.enginesVerified, PerFeeder.get_build]

/-- Settles O10: each step of the chain bounds the next; the reference step alone counts clamps; and the account of a cell follows
the outputs that the verifier step leaves. -/
theorem referenceChainStaysInItsRanges : Obligations.ReferenceChainStaysInItsRanges := by
  refine ⟨fun v drive gain p amplitude hgain scale low high => ?ranges, fun v e x n hn => ?clamps,
    fun s w f e t o slot mapped he ht ho hslot => ?account⟩
  case ranges =>
    have missing := v.missingVoltage_range (drive := drive) amplitude low high
    exact ⟨targetSample_range ((v.targetAmplitude_le drive).trans amplitude) _ p, missing, blended_between hgain _,
      CellView.scaledReference_range missing hgain scale, v.references_natAbs_le drive gain p⟩
  case clamps =>
    obtain rfl : n = v.clampCount (e.work v x).engine.drive (e.work v x).engine.gain :=
      hn.trans (v.clampCount_eq _ _).symm
    rw [← FeederState.driving_iff]
    refine ⟨fun driving => Prod.mk.inj (e.work_clampRecord_of_driving v x driving), fun injecting releasing => ?_⟩
    have idle : (e.work v x).engine.state.driving = false := by
      rw [Bool.eq_false_iff, ne_eq, FeederState.driving_iff]
      exact not_or.2 ⟨injecting, releasing⟩
    exact Prod.mk.inj (e.work_clampRecord_of_not_driving v x idle)
  case account =>
    rw [State.verifyCell_engine_eq mapped, ← he, ← ho, ← hslot] at ht
    obtain ⟨peak, limitedCount, energyDraw⟩ := e.verifierStep_accumulators (w.faults.get f) s.eventOpen
    generalize e.verifierStep (w.faults.get f) s.eventOpen = d at ht peak limitedCount energyDraw
    obtain ⟨state, -, references⟩ := Engine.account_frame w.sense.supply slot (o.afterVerifier d.state) s.eventOpen d
    rw [← ht] at state references
    rw [state, ← peak, ← limitedCount, ← energyDraw]
    refine ⟨?_, references.trans (o.afterVerifier_references _), fun opened active => ?_, fun closed => ?_⟩
    · rw [ht, Engine.account_limitedCount]
    · have after := SlotOutput.afterVerifier_of_ne active o
      obtain ⟨raised, drawn⟩ := Engine.account_of_open (o := o.afterVerifier d.state) w.sense.supply slot s.eventOpen d
        (by rw [after]; exact opened)
      rw [ht, raised, drawn, after, addEnergy_eq]
      exact ⟨rfl, rfl⟩
    · rw [ht]
      exact Engine.account_of_closed w.sense.supply slot s.eventOpen d (SlotOutput.afterVerifier_closed closed)

end Sys2Proof.Machine
end

section
/-! The Store Account's work on a cell (R114 to R121): the energy level, the reading lists and their means, the heat states and the
effective levels; and the flags of the entries to HOT. -/
open Sys2Proof Sys2Proof.Machine
namespace Sys2Proof.Machine

/-! ### The energy level -/

theorem energyLevel_of_le_floor {b : Bank} {v : Nat} (h : v ≤ b.storeFloor) : energyLevel b v = 0 := if_pos h

theorem energyLevel_of_full_le {b : Bank} {v : Nat} (ordered : b.storeFloor < b.storeFull) (h : b.storeFull ≤ v) :
    energyLevel b v = 1000 := by
  rw [energyLevel, if_neg (by omega), if_pos h]

theorem energyLevel_between {b : Bank} {v : Nat} (low : b.storeFloor < v) (high : v < b.storeFull) :
    energyLevel b v = 1000 * (v ^ 2 - b.storeFloor ^ 2) / (b.storeFull ^ 2 - b.storeFloor ^ 2) := by
  rw [energyLevel, if_neg (by omega), if_neg (by omega)]
  simp only [sq]

/-- Between the two store voltages the squares over the floor keep the order of the voltages, so the quotient stays below 1000. -/
theorem energyLevel_between_bounds {b : Bank} {v : Nat} (low : b.storeFloor < v) (high : v < b.storeFull) :
    energyLevel b v < 1000
      ∧ energyLevel b v * (b.storeFull ^ 2 - b.storeFloor ^ 2) ≤ 1000 * (v ^ 2 - b.storeFloor ^ 2)
      ∧ 1000 * (v ^ 2 - b.storeFloor ^ 2) < (energyLevel b v + 1) * (b.storeFull ^ 2 - b.storeFloor ^ 2) := by
  have overFloor : b.storeFloor ^ 2 < v ^ 2 := Nat.pow_lt_pow_left low two_ne_zero
  have underFull : v ^ 2 < b.storeFull ^ 2 := Nat.pow_lt_pow_left high two_ne_zero
  rw [energyLevel_between low high]
  exact ⟨Nat.div_lt_of_lt_mul (by omega), Nat.div_mul_le_self _ _, Nat.lt_mul_of_div_lt (Nat.lt_succ_self _) (by omega)⟩

/-! ### The housekeeping word -/

/-- A housekeeping word read as a number: the channel and the reading are quotient and remainder by 4096, and the top bit and the
channel's bound are one bound on the quotient (R18). -/
theorem housekeepingReading_eq (w : Word) :
    housekeepingReading w = if w.toNat / 4096 ≤ 4 then some (w.toNat / 4096, w.toNat % 4096) else none := by
  have top : w.getLsbD 15 = false ↔ w.toNat < 32768 := by
    rw [← Bool.not_eq_true, ← BitVec.msb_eq_getLsbD_last, BitVec.msb_eq_decide]
    simp
  have channel : (w.extractLsb' 12 3).toNat = w.toNat / 4096 % 8 := by
    rw [BitVec.extractLsb'_toNat, Nat.shiftRight_eq_div_pow]
  have reading : (w.extractLsb' 0 12).toNat = w.toNat % 4096 := by
    rw [BitVec.extractLsb'_toNat, Nat.shiftRight_zero]
  have bound : w.toNat < 65536 := w.isLt
  simp only [housekeepingReading, channel, reading, top]
  by_cases valid : w.toNat / 4096 ≤ 4
  · rw [if_pos valid, if_pos (by omega), Nat.mod_eq_of_lt (by omega)]
  · rw [if_neg valid, if_neg (by omega)]

theorem housekeepingReading_of_channel {k v : Nat} (channel : k ≤ 4) (reading : v < 4096) :
    housekeepingReading (BitVec.ofNat 16 (4096 * k + v)) = some (k, v) := by
  have number : (BitVec.ofNat 16 (4096 * k + v)).toNat = 4096 * k + v := by
    rw [BitVec.toNat_ofNat]
    omega
  have quotient : (4096 * k + v) / 4096 = k := by omega
  have remainder : (4096 * k + v) % 4096 = v := by omega
  rw [housekeepingReading_eq, number, quotient, remainder, if_pos channel]

theorem housekeepingReading_of_invalid {w : Word} (h : 5 * 4096 ≤ w.toNat) : housekeepingReading w = none := by
  rw [housekeepingReading_eq, if_neg (by omega)]

/-! ### The reading lists -/

/-- The lists after a reading of a channel (R118). -/
theorem StoreAccount.takeReading_some (b : Bank) (k v : Nat) (a : StoreAccount) :
    (a.takeReading b (some (k, v))).storeReadings
        = keepNewest b.housekeepingAverage (if k = 0 then a.storeReadings ++ [v] else a.storeReadings)
      ∧ ∀ f, (a.takeReading b (some (k, v))).sinkReadings.get f = keepNewest b.housekeepingAverage
        (if k = f.number + 1 then a.sinkReadings.get f ++ [v] else a.sinkReadings.get f) := by
  refine ⟨?_, fun f => (PerFeeder.get_map _ _ f).trans (congrArg (trimReadings _) (PerFeeder.get_build _ f))⟩
  cases k <;> rfl

/-- The lists after a cell with no valid reading (R118). -/
theorem StoreAccount.takeReading_none (b : Bank) (a : StoreAccount) :
    (a.takeReading b none).storeReadings = keepNewest b.housekeepingAverage a.storeReadings
      ∧ ∀ f, (a.takeReading b none).sinkReadings.get f = keepNewest b.housekeepingAverage (a.sinkReadings.get f) :=
  ⟨rfl, fun f => (PerFeeder.get_map _ _ f).trans (congrArg (trimReadings _) (PerFeeder.get_build _ f))⟩

/-! ### The heat states -/

/-- Hysteresis: a state that is not HOT reads the limit itself, a HOT one the limit less the hysteresis, which may be negative
(R120, R121). -/
theorem heatState_iff (limit hysteresis : Nat) (hot : Bool) (mean : Option Nat) :
    heatState limit hysteresis hot mean = true ↔
      ∃ m, mean = some m ∧ ((hot = false ∧ limit ≤ m) ∨ (hot = true ∧ (limit : Int) - hysteresis < m)) := by
  cases mean with
  | none => simp [heatState]
  | some m => cases hot <;> simp [heatState]

/-! ### The account a cell leaves -/

section
variable (b : Bank) (voltage : Nat) (word : Word) (a : StoreAccount)

/-- The lists are those that the cell's reading leaves: no other step of the work changes them (R114). -/
theorem StoreAccount.work_storeReadings :
    (a.work b voltage word).storeReadings = (a.takeReading b (housekeepingReading word)).storeReadings := rfl

theorem StoreAccount.work_sinkReadings :
    (a.work b voltage word).sinkReadings = (a.takeReading b (housekeepingReading word)).sinkReadings := rfl

theorem StoreAccount.work_storeMean : (a.work b voltage word).storeMean = meanOf (a.work b voltage word).storeReadings := rfl

theorem StoreAccount.work_sinkMean (f : Feeder) :
    (a.work b voltage word).sinkMeans.get f = meanOf ((a.work b voltage word).sinkReadings.get f) :=
  PerFeeder.get_map _ _ f

theorem StoreAccount.work_storeHot :
    (a.work b voltage word).storeHot
      = heatState b.storeHeatLimit b.heatHysteresis a.storeHot (a.work b voltage word).storeMean := rfl

theorem StoreAccount.work_sinkHot (f : Feeder) :
    (a.work b voltage word).sinkHot.get f
      = heatState b.heatLimit b.heatHysteresis (a.sinkHot.get f) ((a.work b voltage word).sinkMeans.get f) :=
  PerFeeder.get_build _ f

theorem StoreAccount.work_shedLevel (f : Feeder) :
    (a.work b voltage word).shedLevels.get f = shedLevelOf (b.feeder f) (a.work b voltage word).storeHot :=
  PerFeeder.get_build _ f

theorem StoreAccount.work_rearmLevel (f : Feeder) :
    (a.work b voltage word).rearmLevels.get f = rearmLevelOf (b.feeder f) ((a.work b voltage word).shedLevels.get f) :=
  PerFeeder.get_build _ f

end

/-! ### The flags of the entries to HOT -/

theorem FlagUnit.latchIf_frame (u : FlagUnit) (condition : Bool) (k : DeviceFlag) :
    u.latchIf condition k = { u with latched := (u.latchIf condition k).latched } := by
  cases condition <;> rfl

theorem FlagUnit.latchFeeders_frame (u : FlagUnit) (k : FeederFlag) (on : PerFeeder Bool) :
    u.latchFeeders k on = { u with latched := (u.latchFeeders k on).latched } := by
  refine List.foldlRecOn (motive := fun v : FlagUnit => v = { u with latched := v.latched }) _ _ rfl fun v hv f _ => ?_
  split
  · rw [FlagUnit.latchFeeder, FlagUnit.latchIndex, hv]
  · exact hv

/-- A fold that latches one kind of flag for some feeders of a list latches theirs, and no other (R150). -/
theorem FlagUnit.foldl_latchFeeder_latched (k : FeederFlag) (on : Feeder → Bool) (l : List Feeder) (u : FlagUnit) (i : Nat) :
    (l.foldl (fun v f => if on f then v.latchFeeder k f else v) u).latched.getLsbD i
      = (u.latched.getLsbD i || l.any fun f => decide (i = k.index f) && on f) := by
  induction l generalizing u with
  | nil => simp
  | cons f l ih =>
    rw [List.foldl_cons, ih, List.any_cons, ← Bool.or_assoc]
    congr 1
    cases on f
    · simp
    · simp [FlagUnit.latchFeeder, FlagUnit.latchIndex_getLsbD _ (k.index_lt_word f)]

theorem FeederFlag.index_heat (f : Feeder) : FeederFlag.heat.index f = 15 + 5 * f.number := by cases f <;> rfl

theorem FlagUnit.heatEntries_frame (u : FlagUnit) (before after : StoreAccount) :
    u.heatEntries before after = { u with latched := (u.heatEntries before after).latched } := by
  rw [FlagUnit.heatEntries, FlagUnit.latchFeeders_frame, FlagUnit.latchIf_frame]

/-- The entries to HOT latch STORE_HOT at index 8 and HEAT of feeder f at index 15 + 5f, and no other flag (R114, R150). -/
theorem FlagUnit.heatEntries_getLsbD (u : FlagUnit) (before after : StoreAccount) (i : Nat) :
    (u.heatEntries before after).latched.getLsbD i
      = (u.latched.getLsbD i || (decide (i = 8) && (after.storeHot && !before.storeHot))
        || Feeder.all.any fun f => decide (i = 15 + 5 * f.number) && (after.sinkHot.get f && !before.sinkHot.get f)) := by
  rw [FlagUnit.heatEntries, FlagUnit.latchFeeders, FlagUnit.foldl_latchFeeder_latched, FlagUnit.latchIf_getLsbD, Bool.and_comm]
  simp only [FeederFlag.index_heat, PerFeeder.get_build]
  rfl

/-! ### The obligation -/

/-- Settles O12: the account's fields are each the stated function of the lists and of one another; the flags are the entries'. -/
theorem storeAccountLevelsAndHeatStates : Obligations.StoreAccountLevelsAndHeatStates := by
  refine ⟨⟨fun b v ordered => ?energy, fun b voltage word a => ?heat⟩, fun b voltage word a => ?lists, fun s w => ?flags⟩
  case energy => exact ⟨energyLevel_of_le_floor, energyLevel_of_full_le ordered, energyLevel_between_bounds⟩
  case heat =>
    refine ⟨fun f => ?_, heatState_iff _ _ _ _, a.work_shedLevel b voltage word, a.work_rearmLevel b voltage word⟩
    rw [StoreAccount.work_sinkHot, heatState_iff]
  case lists =>
    rw [StoreAccount.work_storeReadings, StoreAccount.work_sinkReadings]
    refine ⟨rfl, fun k v channel reading formed => ?_, fun invalid => ?_, rfl, a.work_sinkMean b voltage word⟩
    · rw [formed, housekeepingReading_of_channel channel reading]
      exact a.takeReading_some b k v
    · rw [housekeepingReading_of_invalid invalid]
      exact a.takeReading_none b
  case flags => exact ⟨rfl, s.flags.heatEntries_frame _ _, fun i _ => s.flags.heatEntries_getLsbD _ _ i⟩

end Sys2Proof.Machine
end

section
/-! A feeder's place in the slot maps: the active map holds it, the pending map holds it, and what every operation on an engine
does to that (R125, R126, R128, R131, R132). -/
open Sys2Proof Sys2Proof.Machine
namespace Sys2Proof.Machine

/-! ### Places -/

/-- Whether the active map holds a feeder in the state, and whether the pending map does (R125). -/
def FeederState.place (x : FeederState) : Bool × Bool := (x.holdsSlot, x.inPendingMap)

theorem FeederState.place_offline_iff (x : FeederState) : x.place = (false, false) ↔ x = .offline := by cases x <;> decide

theorem FeederState.place_enlisting_iff (x : FeederState) : x.place = (false, true) ↔ x = .enlisting := by cases x <;> decide

theorem FeederState.place_retiring_iff (x : FeederState) : x.place = (true, false) ↔ x = .retiring := by cases x <;> decide

/-- Every state but OFFLINE, ENLISTING and RETIRING stands in both maps (R125). -/
theorem FeederState.place_both_iff (x : FeederState) : x.place = (true, true) ↔ x.lockable = true ∨ x = .lockout := by
  cases x <;> decide

/-- Outside a change a feeder stands in both maps or in none (R125, R126). -/
theorem FeederState.inPendingMap_of_settled {x : FeederState} (enlisting : x ≠ .enlisting) (retiring : x ≠ .retiring) :
    x.inPendingMap = x.holdsSlot := by
  cases x
  case enlisting => exact absurd rfl enlisting
  case retiring => exact absurd rfl retiring
  all_goals rfl

/-- An operation on an engine leaves its feeder's place in the maps, and a RETIRING feeder a state to return to. -/
structure Engine.keepsPlace (e x : Engine) : Prop where
  place : x.state.place = e.state.place
  prior : e.priorSound → x.priorSound

theorem Engine.priorSound_of_ne {e : Engine} (h : e.state ≠ .retiring) : e.priorSound := fun retiring => absurd retiring h

namespace Engine.keepsPlace

variable {e x y : Engine}

theorem refl (e : Engine) : e.keepsPlace e := ⟨rfl, id⟩

theorem trans (h : e.keepsPlace x) (g : x.keepsPlace y) : e.keepsPlace y := ⟨g.place.trans h.place, g.prior ∘ h.prior⟩

theorem congr (state : x.state = e.state) (prior : x.prior = e.prior) : e.keepsPlace x :=
  ⟨congrArg FeederState.place state, fun h => h.congr state prior⟩

/-- A move between states that stand in both maps. -/
theorem both (before : e.state.place = (true, true)) (after : x.state.place = (true, true)) : e.keepsPlace x :=
  ⟨after.trans before.symm, fun _ => Engine.priorSound_of_ne fun retiring => by rw [retiring] at after; cases after⟩

theorem offline_iff (h : e.keepsPlace x) : x.state = .offline ↔ e.state = .offline := by
  rw [← FeederState.place_offline_iff, h.place, FeederState.place_offline_iff]

theorem enlisting_iff (h : e.keepsPlace x) : x.state = .enlisting ↔ e.state = .enlisting := by
  rw [← FeederState.place_enlisting_iff, h.place, FeederState.place_enlisting_iff]

theorem retiring_iff (h : e.keepsPlace x) : x.state = .retiring ↔ e.state = .retiring := by
  rw [← FeederState.place_retiring_iff, h.place, FeederState.place_retiring_iff]

theorem holdsSlot (h : e.keepsPlace x) : x.state.holdsSlot = e.state.holdsSlot := congrArg Prod.fst h.place

theorem inPendingMap (h : e.keepsPlace x) : x.state.inPendingMap = e.state.inPendingMap := congrArg Prod.snd h.place

end Engine.keepsPlace

/-! ### Operations that leave a feeder's place -/

section
variable (e : Engine)

theorem Engine.keepsPlace_lockOut {e : Engine} (h : e.state.lockable = true) (eventOpen : Bool) :
    e.keepsPlace (e.lockOut eventOpen) :=
  .both ((FeederState.place_both_iff _).2 (.inl h)) (by rw [Engine.lockOut_state]; rfl)

/-- The work of an engine on a cell moves its feeder among the states that stand in both maps alone (R80). -/
theorem Engine.keepsPlace_work (v : CellView) (x : Check) : e.keepsPlace (e.work v x).engine := by
  refine ⟨?_, fun h => Engine.work_priorSound h v x⟩
  by_cases standing : e.state ∈ [FeederState.lockout, .retiring, .offline, .enlisting]
  · rw [(Engine.work_of_standing standing v x).1]
  · have lockable : e.state.lockable = true := by
      cases state : e.state
      case lockout | retiring | offline | enlisting => simp [state] at standing
      all_goals rfl
    rw [(FeederState.place_both_iff _).2 (.inl lockable), FeederState.place_both_iff]
    exact (Engine.work_lockable lockable v x).imp_right Engine.lockedOut.state

/-- The verifier step locks out feeders that stand in both maps alone (R91). -/
theorem Engine.keepsPlace_verifierStep (fault eventOpen : Bool) : e.keepsPlace (e.verifierStep fault eventOpen) := by
  refine ⟨?_, fun h => Engine.verifierStep_priorSound h fault eventOpen⟩
  unfold Engine.verifierStep
  split
  · split
    next lockable => exact (Engine.keepsPlace_lockOut lockable eventOpen).place
    next => split <;> rfl
  · rfl

/-- A QUIET entry moves driving feeders alone, to STANDBY (R94). -/
theorem Engine.keepsPlace_quietEntry : e.keepsPlace e.quietEntry := by
  cases driving : e.state.driving
  · rw [Engine.quietEntry_of_idle driving]
    exact .refl e
  · rw [Engine.quietEntry_of_driving driving]
    exact .both ((FeederState.place_both_iff _).2 (.inl (FeederState.lockable_of_driving driving))) rfl

/-! ### Operations that end a change -/

/-- After the epoch switch the active map holds the feeders that the pending map held (R125, R131). -/
theorem Engine.switch_holdsSlot (eventOpen : Bool) : (e.switch eventOpen).state.holdsSlot = e.state.inPendingMap := by
  rw [Engine.switch_state]
  cases e.state <;> rfl

theorem Engine.switch_settled (eventOpen : Bool) :
    (e.switch eventOpen).state ≠ .enlisting ∧ (e.switch eventOpen).state ≠ .retiring := by
  rw [Engine.switch_state]
  cases e.state <;> decide

theorem Engine.abandon_of_enlisting {e : Engine} (h : e.state = .enlisting) :
    e.abandon = { e with state := .offline, gain := 0 } := by
  rw [Engine.abandon, h]
  rfl

/-- A RETIRING feeder returns to its prior state (R132). -/
theorem Engine.abandon_of_retiring {e : Engine} {x : FeederState} (h : e.state = .retiring) (prior : e.prior = some x) :
    e.abandon = { e.enter x with prior := none } := by
  rw [Engine.abandon, h]
  dsimp only
  rw [prior]
  rfl

/-- An abandon leaves every feeder in the active map or out of it, and none in a change (R125, R132). -/
theorem Engine.abandon_place {e : Engine} (h : e.priorSound) :
    e.abandon.state.holdsSlot = e.state.holdsSlot ∧ e.abandon.state ≠ .enlisting ∧ e.abandon.state ≠ .retiring := by
  by_cases enlisting : e.state = .enlisting
  · rw [Engine.abandon_of_enlisting enlisting, enlisting]
    exact ⟨rfl, nofun, nofun⟩
  · by_cases retiring : e.state = .retiring
    · rcases h retiring with prior | prior | prior <;> rw [Engine.abandon_of_retiring retiring prior, retiring] <;>
        exact ⟨rfl, nofun, nofun⟩
    · rw [Engine.abandon_of_other enlisting retiring]
      exact ⟨rfl, enlisting, retiring⟩

end

end Sys2Proof.Machine
end

section
/-! What the slot maps' invariant reads of a state, and the operations that leave it (R125, R126, R193). -/
open Sys2Proof Sys2Proof.Machine
namespace Sys2Proof.Machine

/-- A load is under way, or the commit of its image is due (R192, R193). -/
def State.loads (s : State) : Bool := s.loader.state.loading || decide (s.due = some .imageCommit)

/-- What the invariant of the slot maps reads of a state. -/
structure SlotView where
  engines : PerFeeder Engine
  active : List Feeder
  pending : Option PendingMap
  inReset : Bool
  loads : Bool

def State.slots (s : State) : SlotView := ⟨s.engines, s.maps.active, s.maps.pending, s.inReset, s.loads⟩

section
variable {s : State}

theorem State.slots_congr {t : State} (engines : t.engines = s.engines := by simp)
    (active : t.maps.active = s.maps.active := by simp)
    (pending : t.maps.pending = s.maps.pending := by simp) (inReset : t.inReset = s.inReset := by simp)
    (loader : t.loader.state = s.loader.state := by simp) (due : t.due = s.due := by simp) : t.slots = s.slots := by
  unfold State.slots State.loads
  rw [engines, active, pending, inReset, loader, due]

variable (s)

/-! ### Answers and the end of a cell's work -/

@[simp] theorem State.buffer_slots (r : Reply) : (s.buffer r).slots = s.slots := State.slots_congr

@[simp] theorem State.answer_slots (r : Request) (result : Result) (payload : List Word) :
    (s.answer r result payload).slots = s.slots := s.buffer_slots _

@[simp] theorem State.takeCommit_slots (r : Request) : (s.takeCommit r).slots = s.slots := State.answer_slots _ _ _ _

@[simp] theorem State.ageCommit_slots (zero : Bool) : (s.ageCommit zero).slots = s.slots := by
  rcases s.ageCommit_cases zero with ⟨r, e⟩ | ⟨r, e⟩ | e | e <;> rw [e]
  · exact State.takeCommit_slots _ r
  · exact State.answer_slots _ _ _ _
  · rfl

@[simp] theorem State.setEcho_slots (r : Request) (on : Bool) : (s.setEcho r on).slots = s.slots := by
  unfold State.setEcho
  split <;> exact State.answer_slots _ _ _ _

@[simp] theorem State.settleEcho_slots : s.settleEcho.slots = s.slots := by
  rcases s.settleEcho_cases with ⟨r, on, e⟩ | e <;> rw [e]
  exact s.setEcho_slots r on

/-- At the end of a cell's work only an image that waits may touch the maps and the feeders (R182 to R184, R192, R23). -/
theorem State.endCell_slots (zero : Bool) : (s.endCell zero).slots = (s.ageCommit zero).waitImage.slots :=
  State.settleEcho_slots _

@[simp] theorem State.recordCell_slots (w : Work) : (s.recordCell w).slots = s.slots := State.slots_congr

@[simp] theorem State.lateRestart_slots (w : Work) : (s.lateRestart w).slots = s.slots := by
  unfold State.lateRestart
  split <;> rfl

@[simp] theorem State.withDrive_slots (w : Work) : (s.withDrive w).slots = (s.atDrive w).slots := State.lateRestart_slots _ w

/-! ### Arriving cells and the links -/

@[simp] theorem State.enterCell_slots (c : Sense) (missing : Nat) (breaks switches : Bool) :
    (s.enterCell c missing breaks switches).slots = s.slots := by
  rw [State.enterCell_eq]
  rfl

@[simp] theorem State.offer_slots (r : Request) : (s.offer r).slots = s.slots := by
  unfold State.offer
  split
  · rfl
  · split <;> rfl

@[simp] theorem State.closeRecord_slots (b : Bank) (cause : EndCause) : (s.closeRecord b cause).slots = s.slots :=
  State.slots_congr

@[simp] theorem State.quietCommit_slots : s.quietCommit.slots = s.slots := by
  rcases s.quietCommit_cases with e | ⟨r, e⟩ <;> rw [e]
  exact s.takeCommit_slots r

theorem State.quietEntry_slots : s.quietEntry.slots = s.quietFeeders.slots :=
  calc s.quietEntry.slots = s.quietBlocks.slots := s.quietBlocks.quietCommit_slots
    _ = (s.loseLink.quietFeeders.closeRecord s.tables.active .linkLost).slots := rfl
    _ = s.loseLink.quietFeeders.slots := State.closeRecord_slots _ _ _

@[simp] theorem State.driveSent_slots : s.driveSent.slots = s.slots := by
  unfold State.driveSent
  split <;> rfl

/-! ### The requests that change no feeder -/

@[simp] theorem State.refuseMalformed_slots : s.refuseMalformed.slots = s.slots := by
  unfold State.refuseMalformed
  split
  · rfl
  · split
    · exact State.answer_slots _ _ _ _
    · rfl

@[simp] theorem State.readSetting_slots (r : Request) : (s.readSetting r).slots = s.slots := by
  unfold State.readSetting
  split
  · exact State.answer_slots _ _ _ _
  · split <;> exact State.answer_slots _ _ _ _

@[simp] theorem State.settleWrite_slots (r : Request) (w : Written) : (s.settleWrite r w).slots = s.slots := by
  cases w <;> exact State.answer_slots _ _ _ _

@[simp] theorem State.commitNow_slots (r : Request) : (s.commitNow r).slots = s.slots := by
  unfold State.commitNow
  split
  · exact State.answer_slots _ _ _ _
  · split
    · exact State.takeCommit_slots _ r
    · rfl

@[simp] theorem State.commitSync_slots (r : Request) : (s.commitSync r).slots = s.slots := by
  unfold State.commitSync
  split
  · exact State.answer_slots _ _ _ _
  · rfl

@[simp] theorem State.writeCounter_slots (r : Request) : (s.writeCounter r).slots = s.slots := by
  unfold State.writeCounter
  split <;> exact State.answer_slots _ _ _ _

@[simp] theorem State.readEvent_slots (r : Request) : (s.readEvent r).slots = s.slots := by
  unfold State.readEvent
  split <;> exact State.answer_slots _ _ _ _

@[simp] theorem State.releaseEvent_slots (r : Request) : (s.releaseEvent r).slots = s.slots := by
  unfold State.releaseEvent
  split <;> exact State.answer_slots _ _ _ _

@[simp] theorem State.echoRequest_slots (r : Request) : (s.echoRequest r).slots = s.slots := by
  unfold State.echoRequest
  split
  · split
    · exact State.setEcho_slots _ _ _
    · rfl
  · exact State.answer_slots _ _ _ _

end

end Sys2Proof.Machine
end

section
/-! The slot maps stay in step with the feeder states: what every operation keeps of it (R125 to R128, R131, R132, R193). -/
open Sys2Proof Sys2Proof.Machine
namespace Sys2Proof.Machine

/-! ### The invariant -/

/-- No feeder holds a slot or awaits one, and no change is pending (R126). -/
structure SlotView.vacant (v : SlotView) : Prop where
  active : v.active = []
  pending : v.pending = none
  offline : ∀ f, (v.engines.get f).state = .offline

/-- A part out of reset whose maps are in step with its feeders, one field for each clause of the invariant. -/
structure SlotView.sound (v : SlotView) : Prop where
  awake : v.inReset = false
  active : v.active = Feeder.all.filter fun f => (v.engines.get f).state.holdsSlot
  announced : ∀ p, v.pending = some p → p.feeders = Feeder.all.filter fun f => (v.engines.get f).state.inPendingMap
  settled : v.pending = none → ∀ f, (v.engines.get f).state ≠ .enlisting ∧ (v.engines.get f).state ≠ .retiring
  prior : ∀ f, (v.engines.get f).priorSound
  empty : v.loads = true → v.pending = none ∧ ∀ f, (v.engines.get f).state = .offline

theorem State.loads_iff (s : State) : s.loads = true ↔ s.loader.state.loading = true ∨ s.due = some .imageCommit := by
  rw [State.loads, Bool.or_eq_true, decide_eq_true_iff]

theorem sound_iff (s : State) : s.slots.sound ↔ s.inReset = false ∧ mapsSound s := by
  constructor
  · rintro ⟨awake, active, announced, settled, prior, empty⟩
    exact ⟨awake, active, announced, settled, prior, fun h =>
      empty (s.loads_iff.2 (h.resolve_left (Bool.eq_false_iff.1 awake)))⟩
  · rintro ⟨awake, active, announced, settled, prior, empty⟩
    exact ⟨awake, active, announced, settled, prior, fun h => empty (.inr (s.loads_iff.1 h))⟩

/-- With every feeder OFFLINE no map holds any (R125). -/
theorem vacant_of_offline {v : SlotView} (active : v.active = Feeder.all.filter fun f => (v.engines.get f).state.holdsSlot)
    (pending : v.pending = none) (offline : ∀ f, (v.engines.get f).state = .offline) : v.vacant := by
  refine ⟨?_, pending, offline⟩
  rw [active]
  exact List.filter_eq_nil_iff.2 fun f _ => by rw [offline]; exact nofun

namespace SlotView.vacant

variable {v : SlotView} (h : v.vacant)
include h

theorem sound (awake : v.inReset = false) : v.sound where
  awake := awake
  active := h.active.trans (List.filter_eq_nil_iff.2 fun f _ => by rw [h.offline]; exact nofun).symm
  announced p hp := by rw [h.pending] at hp; cases hp
  settled _ f := by rw [h.offline]; exact ⟨nofun, nofun⟩
  prior f := Engine.priorSound_of_ne (by rw [h.offline]; exact nofun)
  empty _ := ⟨h.pending, h.offline⟩

/-- AUTO_ENLIST announces a map of the feeders it takes from OFFLINE to ENLISTING (R140). -/
theorem enlisted {x : SlotView} {map : List Feeder} {epoch : BitVec 4} (awake : x.inReset = false) (idle : x.loads = false)
    (active : x.active = v.active) (pending : x.pending = some ⟨epoch, map⟩) (ordered : map = Feeder.all.filter (· ∈ map))
    (engines : ∀ f, x.engines.get f = if f ∈ map then (v.engines.get f).enter .enlisting else v.engines.get f) : x.sound := by
  have state : ∀ f, (x.engines.get f).state = if f ∈ map then .enlisting else .offline := fun f => by
    rw [engines]
    split
    · rfl
    · exact h.offline f
  refine ⟨awake, ?_, fun p hp => ?_, fun none => ?_, fun f => Engine.priorSound_of_ne ?_, fun loads => ?_⟩
  · rw [active, h.active]
    refine (List.filter_eq_nil_iff.2 fun f _ => ?_).symm
    rw [state]
    split <;> exact nofun
  · obtain rfl := Option.some.inj (pending.symm.trans hp)
    refine ordered.trans (List.filter_congr fun f _ => ?_)
    rw [state]
    split
    next inside => exact decide_eq_true inside
    next outside => exact decide_eq_false outside
  · rw [pending] at none; cases none
  · rw [state]
    split <;> exact nofun
  · rw [idle] at loads; cases loads

end SlotView.vacant

theorem Bank.enlisted_ordered (b : Bank) : b.enlisted = Feeder.all.filter (· ∈ b.enlisted) :=
  List.filter_congr fun f _ => by simp [Bank.enlisted]

theorem State.autoEnlist_sound {s : State} (h : s.slots.vacant) (awake : s.inReset = false) (idle : s.loads = false) :
    s.autoEnlist.slots.sound := by
  unfold State.autoEnlist
  split
  · exact h.sound awake
  · exact h.enlisted awake idle rfl rfl s.tables.active.enlisted_ordered fun f => PerFeeder.get_build _ f

namespace SlotView.sound

variable {s : State} (h : s.slots.sound)
include h

theorem frame {t : State} (slots : t.slots = s.slots := by simp) : t.slots.sound := slots ▸ h

/-- The loader may leave a load. -/
theorem unloaded {t : State} (slots : t.slots = { s.slots with loads := t.loads }) (loads : t.loads = true → s.loads = true) :
    t.slots.sound := by
  rw [slots]
  exact ⟨h.awake, h.active, h.announced, h.settled, h.prior, fun l => h.empty (loads l)⟩

theorem vacant (loads : s.loads = true) : s.slots.vacant := by
  obtain ⟨pending, offline⟩ := h.empty loads
  exact vacant_of_offline h.active pending offline

/-- Moves that leave every feeder's place leave the maps in step. -/
theorem moved {t : State} (engines : ∀ f, (s.engines.get f).keepsPlace (t.engines.get f))
    (slots : t.slots = { s.slots with engines := t.engines }) : t.slots.sound := by
  rw [slots]
  refine ⟨h.awake, ?_, fun p hp => ?_, fun none f => ?_, fun f => (engines f).prior (h.prior f), fun loads => ?_⟩
  · exact h.active.trans (List.filter_congr fun f _ => (engines f).holdsSlot.symm)
  · exact (h.announced p hp).trans (List.filter_congr fun f _ => (engines f).inPendingMap.symm)
  · obtain ⟨enlisting, retiring⟩ := h.settled none f
    exact ⟨mt (engines f).enlisting_iff.1 enlisting, mt (engines f).retiring_iff.1 retiring⟩
  · obtain ⟨pending, offline⟩ := h.empty loads
    exact ⟨pending, fun f => (engines f).offline_iff.2 (offline f)⟩

/-- With no change pending the maps a change would make differ from the active map by its own feeder alone (R125, R126). -/
theorem inPendingMap_eq (pending : s.maps.pending = none) (f : Feeder) :
    (s.engines.get f).state.inPendingMap = decide (f ∈ s.maps.active) := by
  have settled : (s.engines.get f).state ≠ .enlisting ∧ (s.engines.get f).state ≠ .retiring := h.settled pending f
  have active : s.maps.active = Feeder.all.filter fun g => (s.engines.get g).state.holdsSlot := h.active
  rw [FeederState.inPendingMap_of_settled settled.1 settled.2, active]
  simp

/-- A change of one feeder is announced: the pending map differs from the active one by that feeder alone, whose new state says
so (R127, R128). -/
theorem change {t : State} {f : Feeder} {e : Engine} {p : PendingMap} (idle : s.loads = false) (pending : s.maps.pending = none)
    (holds : e.state.holdsSlot = (s.engines.get f).state.holdsSlot) (prior : e.priorSound)
    (map : p.feeders = Feeder.all.filter fun g => if g = f then e.state.inPendingMap else decide (g ∈ s.maps.active))
    (slots : t.slots = { s.slots with engines := s.engines.set f e, pending := some p }) : t.slots.sound := by
  rw [slots]
  refine ⟨h.awake, h.active.trans (List.filter_congr fun g _ => ?_), fun q hq => ?_, nofun, fun g => ?_, fun loads => ?_⟩
  · dsimp only
    rw [PerFeeder.get_set]
    split
    next same => rw [same, holds]; rfl
    next => rfl
  · obtain rfl := Option.some.inj hq
    refine map.trans (List.filter_congr fun g _ => ?_)
    dsimp only
    rw [PerFeeder.get_set]
    split
    · rfl
    · exact (h.inPendingMap_eq pending g).symm
  · dsimp only
    rw [PerFeeder.get_set]
    split
    · exact prior
    · exact h.prior g
  · exact absurd (idle.symm.trans loads) nofun

/-- A change ends: no feeder is left in it, and the active map holds what the feeders' new states say (R131, R132). -/
theorem change_ends {t : State} {after : PerFeeder Engine} {map : List Feeder} (due : s.maps.pending ≠ none)
    (active : map = Feeder.all.filter fun f => (after.get f).state.holdsSlot)
    (settled : ∀ f, (after.get f).state ≠ .enlisting ∧ (after.get f).state ≠ .retiring)
    (slots : t.slots = { s.slots with engines := after, active := map, pending := none }) : t.slots.sound := by
  rw [slots]
  exact ⟨h.awake, active, nofun, fun _ => settled, fun f => Engine.priorSound_of_ne (settled f).2,
    fun loads => absurd (h.empty loads).1 due⟩

/-! ### Commits, loads and resets -/

theorem commitImage (loads : s.loads = true) : s.commitImage.slots.sound := by
  obtain ⟨active, pending, offline⟩ := h.vacant loads
  exact State.autoEnlist_sound ⟨active, pending, offline⟩ h.awake rfl

theorem waitImage : s.waitImage.slots.sound := by
  unfold State.waitImage
  split
  next waits => exact h.commitImage (s.loads_iff.2 (.inl (by rw [waits.1]; rfl)))
  next => exact h

omit h in
theorem manageReset (s : State) : s.manageReset.slots.sound :=
  State.autoEnlist_sound ⟨rfl, rfl, fun f => congrArg Engine.state (PerFeeder.get_fill Engine.reset f)⟩ rfl rfl

theorem carryDue : s.carryDue.slots.sound := by
  unfold State.carryDue
  split
  · exact h
  · exact manageReset s
  next due => exact h.commitImage (s.loads_iff.2 (.inr due))

theorem failLoad (acts : s.acts) (loading : s.loader.state.loading = true) (outcome : LoadOutcome) :
    (s.failLoad outcome).slots.sound := by
  obtain ⟨active, pending, offline⟩ := h.vacant (s.loads_iff.2 (.inl loading))
  refine State.autoEnlist_sound ⟨active, pending, offline⟩ h.awake (Bool.eq_false_iff.2 fun loads => ?_)
  rcases (State.loads_iff _).1 loads with loading' | due
  · cases loading'
  · exact absurd (acts.2.symm.trans due) nofun

theorem loadImage (acts : s.acts) (loading : s.loader.state.loading = true) : s.loadImage.slots.sound := by
  unfold State.loadImage
  split
  · exact h.failLoad acts loading _
  · split
    · exact h.unloaded rfl fun _ => s.loads_iff.2 (.inl loading)
    · exact h.failLoad acts loading _

theorem readEnds (acts : s.acts) (loading : s.loader.state.loading = true) (a : MemoryAnswer) : (s.readEnds a).slots.sound := by
  cases a with
  | silent => exact h.failLoad acts loading _
  | stored => exact h.loadImage acts loading
  | replaced bytes => exact loadImage (s := { s with memory := Memory.ofBytes bytes }) h acts loading

/-! ### The work of a cell -/

theorem endCell (zero : Bool) : (s.endCell zero).slots.sound := by
  have aged : (s.ageCommit zero).slots.sound := h.frame
  rw [State.endCell_slots]
  exact aged.waitImage

theorem switchEpoch : s.switchEpoch.slots.sound := by
  unfold State.switchEpoch
  split
  · exact h
  next p hp =>
    refine h.change_ends (after := s.engines.map (Engine.switch s.eventOpen)) (by rw [hp]; exact nofun)
       ((h.announced p hp).trans (List.filter_congr fun f _ => ?_)) (fun f => ?_) rfl
    · rw [PerFeeder.get_map, Engine.switch_holdsSlot]
      rfl
    · rw [PerFeeder.get_map]
      exact Engine.switch_settled _ _

theorem settleSwitch : s.settleSwitch.slots.sound := by
  unfold State.settleSwitch
  split
  · exact h
  next w _ =>
    split
    · exact switchEpoch (s := { s with work := some { w with switches := false } }) h
    · exact h

theorem engageCell (w : Work) : (s.engageCell w).slots.sound := by
  refine h.moved (fun f => ?_) rfl
  change (s.engines.get f).keepsPlace ((s.enginesStepped w).get f)
  rw [State.enginesStepped_get, State.engineStep]
  split
  · exact Engine.keepsPlace_work _ _ _
  · dsimp only
    split
    · exact .congr rfl rfl
    · exact .refl _

theorem verifyCell (w : Work) : (s.verifyCell w).slots.sound := by
  refine h.moved (fun f => ?_) rfl
  obtain ⟨state, prior⟩ := s.enginesAccounted_frame w f
  have verified : (s.engines.get f).keepsPlace ((s.enginesVerified w).get f) := by
    rw [State.enginesVerified, PerFeeder.get_build]
    exact Engine.keepsPlace_verifierStep _ _ _
  exact verified.trans (.congr state prior)

theorem abandonChange (b : Bank) : (s.abandonChange b).slots.sound := by
  by_cases pending : s.maps.pending = none
  · rwa [State.abandonChange_of_none pending]
  · rcases s.abandonChange_cases b with e | e <;> rw [e]
    · have place : ∀ f, _ := fun f => Engine.abandon_place (h.prior f)
      refine h.change_ends (after := s.engines.map Engine.abandon) pending
        (h.active.trans (List.filter_congr fun f _ => ?_)) (fun f => ?_) rfl
      · rw [PerFeeder.get_map]
        exact (place f).1.symm
      · rw [PerFeeder.get_map]
        exact (place f).2
    · exact h

theorem finishCell (w : Work) : (s.finishCell w).slots.sound := by
  have recorded : (s.recordCell w).slots.sound := h.frame
  have sent : (s.withDrive w).slots.sound := frame (s := s.atDrive w) (recorded.abandonChange w.bank)
  rw [State.finishCell_eq]
  exact sent.endCell w.zeroCrossing

theorem advance : s.advance.slots.sound := by
  unfold State.advance
  split
  · exact h
  next w _ =>
    split
    · split
      · exact h.frame rfl
      · exact (endCell (s := (s.passMissing w).restartChecks) (h.frame rfl) _).settleSwitch
    · exact h.engageCell w
    · exact h.verifyCell w
    · exact h.finishCell w

theorem workTo (p : WorkPoint) : (s.workTo p).slots.sound :=
  State.workTo_keeps (P := fun u => u.slots.sound) (fun _ hu => hu.advance) p h

theorem finishWork : s.finishWork.slots.sound := h.workTo _

omit h in
theorem comesAbout (x : Occurrence) (h : s.slots.sound) : (State.comesAbout x s).slots.sound := by
  unfold State.comesAbout
  split
  · exact finishWork (s := { s with came := [] }) h
  · exact h

/-! ### Arriving cells and the links -/

theorem accept (c : Sense) (missing : Nat) (breaks switches : Bool) : (s.accept c missing breaks switches).slots.sound :=
  settleSwitch (s := s.enterCell c missing breaks switches) h.frame

theorem arriveSense (words : List Word) : (s.arriveSense words).slots.sound := by
  have checked : ∀ c switches, (s.checkSequence c switches).slots.sound := fun c switches => by
    unfold State.checkSequence
    split
    · exact h.accept _ _ _ _
    · exact h
    · exact h.accept _ _ _ _
  unfold State.arriveSense
  dsimp only
  split
  · exact h
  · split
    · exact checked _ _
    · exact h

theorem arrive (words : List Word) : (s.arrive words).slots.sound := by
  have manage : (s.arriveManage words).slots.sound := by
    unfold State.arriveManage
    split
    · exact h.frame
    · exact h
  unfold State.arrive
  split
  · split
    · split
      · exact h.arriveSense words
      · split
        · exact manage
        · exact h
    · exact h
  · exact h

theorem quietEntry : s.quietEntry.slots.sound := by
  rw [State.quietEntry_slots]
  refine h.moved (fun f => ?_) rfl
  rw [State.quietFeeders, State.moveEnginesRaising, State.moveEngines, PerFeeder.get_map]
  exact Engine.keepsPlace_quietEntry _

/-- The last word of a reply is sent: what may fall due then is a management reset (R187). -/
theorem replySent : s.replySent.slots.sound := by
  unfold State.replySent
  split
  · split
    · refine h.unloaded rfl fun loads => ?_
      rcases (State.loads_iff _).1 loads with loading | due
      · exact s.loads_iff.2 (.inl loading)
      · cases due
    · exact h.frame rfl
  · exact h
  · exact h

/-! ### The requests on feeders and CLEAR_FLAGS -/

theorem forFeeder (r : Request) {act : Feeder → State} (hact : ∀ f, (act f).slots.sound) :
    (s.forFeeder r act).slots.sound := by
  unfold State.forFeeder
  split
  · exact hact _
  · exact h.frame

theorem enlist (idle : s.loads = false) (r : Request) (f : Feeder) : (s.enlist r f).slots.sound := by
  unfold State.enlist
  split
  next offline =>
    split
    next none =>
      split
      · refine h.change (e := (s.engines.get f).enter .enlisting) idle (Option.isNone_iff_eq_none.1 none)
          (by rw [offline.1]; rfl) (Engine.priorSound_of_ne nofun) ?_ (State.answer_slots _ _ _ _)
        refine List.filter_congr fun g _ => ?_
        by_cases same : g = f <;> simp [same, Engine.enter, FeederState.inPendingMap]
      · exact h.frame
    · exact h.frame
  · exact h.frame

theorem retire (idle : s.loads = false) (r : Request) (f : Feeder) : (s.retire r f).slots.sound := by
  unfold State.retire
  split
  · exact h.frame
  · split
    next retirable =>
      split
      next none =>
        have prior : (s.engines.get f).retire.priorSound := fun _ => by
          change some _ = _ ∨ some _ = _ ∨ some _ = _
          cases state : (s.engines.get f).state
          case standby | shed | lockout => simp
          all_goals rw [state] at retirable; cases retirable
        have holds : (s.engines.get f).state.holdsSlot = true := by
          cases state : (s.engines.get f).state
          case offline | enlisting => rw [state] at retirable; cases retirable
          all_goals rfl
        refine h.change (e := (s.engines.get f).retire) idle (Option.isNone_iff_eq_none.1 none) holds.symm prior ?_
          (State.answer_slots _ _ _ _)
        have active : s.maps.active = _ := h.active
        change s.maps.active.filter _ = _
        rw [active, List.filter_filter]
        refine List.filter_congr fun g _ => ?_
        by_cases same : g = f <;> simp [same, Engine.retire, Engine.enter, FeederState.inPendingMap]
      · exact h.frame
    · exact h.frame

/-- One feeder moved by a request, with its place in the maps kept. -/
theorem replace {t : State} {f : Feeder} {e : Engine} (he : (s.engines.get f).keepsPlace e)
    (engines : t.engines = s.engines.set f e) (slots : t.slots = { s.slots with engines := t.engines }) : t.slots.sound := by
  refine h.moved (fun g => ?_) slots
  rw [engines, PerFeeder.get_set]
  split
  next same => exact same ▸ he
  next => exact .refl _

theorem forceBypass (r : Request) (f : Feeder) : (s.forceBypass r f).slots.sound := by
  unfold State.forceBypass
  split
  next lockable =>
    have locked : (s.lockFeeder f).slots.sound := h.replace (Engine.keepsPlace_lockOut lockable s.eventOpen) rfl rfl
    exact locked.frame (State.answer_slots _ _ _ _)
  next =>
    split
    · exact h.frame (State.answer_slots _ _ _ _)
    · exact h.frame

theorem clearFlags (r : Request) : (s.clearFlags r).slots.sound := by
  have left : (s.cleared r).slots.sound := by
    refine h.moved (fun f => ?_) rfl
    rw [State.cleared, State.lockoutExit_get]
    split
    next leaves => exact .both ((FeederState.place_both_iff _).2 (.inr leaves.1)) rfl
    next => exact .refl _
  exact left.frame (State.answer_slots _ _ _ _)

/-! ### Saving -/

theorem endSave (result : Result) : (s.endSave result).slots.sound := by
  have stopped : s.stopWriting.slots.sound :=
    h.unloaded rfl fun loads => s.loads_iff.2 (.inr (((State.loads_iff _).1 loads).resolve_left nofun))
  unfold State.endSave
  split
  · exact stopped.frame
  · exact stopped

theorem saveImage : s.saveImage.slots.sound :=
  h.unloaded rfl fun loads => s.loads_iff.2 (.inr (((State.loads_iff _).1 loads).resolve_left nofun))

theorem pageWritten : s.pageWritten.slots.sound := by
  unfold State.pageWritten
  split
  · exact h
  · split
    · exact endSave (s := s.storePage _ _) h _
    · exact h

end SlotView.sound
end Sys2Proof.Machine
end

section
/-! Every command and every step keep the slot maps in step with the feeder states (R125 to R128, R131, R132, R190, R193). -/
open Sys2Proof Sys2Proof.Machine
namespace Sys2Proof.Machine

/-! ### Loads -/

section
variable {s : State}

theorem State.loads_of_slots {t : State} (slots : t.slots = s.slots) : t.loads = s.loads := congrArg SlotView.loads slots

/-- Once what was due is carried out, the part has no step of its own due. -/
theorem State.carryDue_acts (awake : s.inReset = false) : s.carryDue.acts := by
  unfold State.carryDue
  split
  next none => exact ⟨awake, none⟩
  next => exact s.manageReset_acts
  next => exact ⟨(State.commitImage_inReset s).trans awake, State.autoEnlist_due _⟩

theorem State.endCell_unloaded (idle : s.loads = false) (zero : Bool) : (s.endCell zero).loads = false := by
  have aged : (s.ageCommit zero).loads = false := (State.loads_of_slots (s.ageCommit_slots zero)).trans idle
  rw [State.loads_of_slots (s.endCell_slots zero)]
  rcases (s.ageCommit zero).waitImage_cases with e | e <;> rw [e]
  · rw [State.loads, State.commitImage, State.autoEnlist_loader, State.autoEnlist_due]
    rfl
  · exact aged

/-- A cell's work begins no load (R190, R193). -/
theorem State.advance_unloaded (idle : s.loads = false) : s.advance.loads = false := by
  have same : ∀ {t u : State}, t.loader = u.loader → t.due = u.due → u.loads = false → t.loads = false :=
    fun loader due h => by rwa [State.loads, loader, due]
  unfold State.advance
  split
  · exact idle
  next w _ =>
    split
    · split
      · exact idle
      · exact same (State.settleSwitch_loader _) (State.settleSwitch_due _)
          (State.endCell_unloaded (s := (s.passMissing w).restartChecks) idle _)
    · exact idle
    · exact idle
    · rw [State.finishCell_eq]
      exact State.endCell_unloaded (s := s.withDrive w)
        (same (s.withDrive_loader w) (by simp [State.withDrive, State.atDrive]) idle) _

/-- The engine's next request finds no load under way (R193). -/
theorem State.loads_of_nextRequest {r : Request} (acts : s.acts) (h : s.nextRequest = some r) : s.loads = false := by
  rw [State.loads, State.nextRequest_loading h, acts.2]
  rfl

end

namespace SlotView.sound

/-! ### Every command and every step -/

/-- A command acts on a part out of reset with no step of its own due; a part held in reset stays as it is. -/
theorem ready {s t : State} (h : mapsSound s) {act : State → State}
    (hact : ∀ u, u.acts → u.slots.sound → (act u).slots.sound)
    (e : (Host.Outcome.next (s.ready act) : Host.Outcome State Fault Refusal) = .next t) : mapsSound t := by
  obtain rfl := Host.Outcome.next.inj e
  unfold State.ready
  split
  · exact h
  next awake =>
    have out : s.inReset = false := Bool.eq_false_iff.2 awake
    exact ((sound_iff _).1 (hact _ (State.carryDue_acts out) ((sound_iff s).2 ⟨out, h⟩).carryDue)).2

/-- The same for a request. -/
theorem readyRequest {s t : State} (h : mapsSound s) (c : Command) {act : Request → State → State}
    (hact : ∀ r u, u.slots.sound → (act r u).slots.sound)
    (e : (Host.Outcome.next (s.ready fun u => u.request c act) : Host.Outcome State Fault Refusal) = .next t) : mapsSound t :=
  ready h (fun u _ hu => State.request_keeps (P := fun v => v.slots.sound) hu c fun r _ => hact r (u.take r) hu) e

/-- The same for a request carried out between cells, whose act finds no load under way. -/
theorem readyBetween {s t : State} (h : mapsSound s) (c : Command) {act : Request → State → State}
    (hact : ∀ r u, u.slots.sound → u.loads = false → (act r u).slots.sound)
    (e : (Host.Outcome.next (s.ready fun u => u.requestBetween c act) : Host.Outcome State Fault Refusal) = .next t) :
    mapsSound t :=
  ready h (fun u acts hu => State.requestBetween_keeps (P := fun v => v.slots.sound) hu c fun r hr =>
    hact r (u.toBetween.take r) (State.toBetween_keeps (P := fun v => v.slots.sound) (fun _ hv => hv.advance) hu)
      (State.toBetween_keeps (P := fun v => v.loads = false) (fun _ => State.advance_unloaded)
        (State.loads_of_nextRequest acts hr))) e

theorem ite {c : Prop} [Decidable c] {s t : State} (hs : c → s.slots.sound) (ht : t.slots.sound) :
    (if c then s else t).slots.sound := by
  split
  · exact hs ‹_›
  · exact ht

theorem powerOn (s : State) : mapsSound s.powerOn := by
  have offline : ∀ f, (s.powerOn.engines.get f).state = .offline := fun f =>
    congrArg Engine.state (PerFeeder.get_fill Engine.reset f)
  have vacant : SlotView.vacant { s.powerOn.slots with inReset := false } := ⟨rfl, rfl, offline⟩
  obtain ⟨-, active, announced, settled, prior, -⟩ := vacant.sound rfl
  exact ⟨active, announced, settled, prior, fun _ => ⟨rfl, offline⟩⟩

/-- Until RESET is released every feeder is OFFLINE, so the load that the release begins finds it so (R190). -/
theorem release {s : State} (h : mapsSound s) (held : s.inReset = true) (straps : BitVec 2) : mapsSound (s.release straps) := by
  obtain ⟨active, announced, settled, prior, empty⟩ := h
  exact ⟨active, announced, settled, prior, fun _ => empty (.inl held)⟩

theorem resetRelease {s : State} (h : mapsSound s) (straps : BitVec 2) :
    mapsSound (if s.inReset then s.release straps else s.carryDue) := by
  split
  next held => exact release h held straps
  next awake => exact ((sound_iff _).1 ((sound_iff s).2 ⟨Bool.eq_false_iff.2 awake, h⟩).carryDue).2

theorem exec {c : Instr} {s t : State} (h : mapsSound s) (e : exec c s = .next t) : mapsSound t := by
  cases c
  case cellArrival words p => exact ready h (fun _ _ hu => (hu.finishWork.arrive words).workTo p) e
  case acquireEnd | confirmation | classificationPoint | eventEnd | burstTimerExpiry | releaseEnd | pathCheckVerdict
      | verifyFailure | mapChangeAbandon | commitTakesEffect | commitExpired | imageCommit =>
    exact ready h (fun _ _ => comesAbout _) e
  case quietTimerExpiry => exact ready h (fun _ _ hu => ite (fun _ => hu.finishWork.quietEntry) hu) e
  case selfTimedCell => exact ready h (fun u _ hu => ite (s := u.selfTimed) (fun _ => hu.frame rfl) hu) e
  case driveCellSent | malformed => exact ready h (fun _ _ hu => hu.frame) e
  case replySent => exact ready h (fun _ _ => replySent) e
  case readSetting | writeSetting | loadEnvelope | loadResponse | commitNow | commitSync | readCounters | writeCounter
      | readEvent | releaseEvent | readLive | setEcho =>
    exact readyRequest h _ (fun _ _ hu => hu.frame) e
  case enquire | discardShadow | setReport =>
    exact readyRequest h _ (fun _ _ hu => hu.frame (by exact State.answer_slots _ _ _ _)) e
  case deviceReset => exact readyRequest h _ (fun _ u hu => hu.frame (u.buffer_slots _)) e
  case enlist => exact readyBetween h _ (fun r _ hu idle => hu.forFeeder r fun f => hu.enlist idle r f) e
  case retire => exact readyBetween h _ (fun r _ hu idle => hu.forFeeder r fun f => hu.retire idle r f) e
  case forceBypass => exact readyRequest h _ (fun r _ hu => hu.forFeeder r fun f => hu.forceBypass r f) e
  case clearFlags => exact readyRequest h _ (fun r _ hu => hu.clearFlags r) e
  case saveImage => exact readyRequest h _ (fun _ _ hu => hu.saveImage) e
  case savePageAck => exact ready h (fun _ _ hu => ite (fun _ => hu.pageWritten) hu) e
  case savePollTimeout => exact ready h (fun _ _ hu => ite (fun _ => hu.endSave _) hu) e
  case managementReset => exact ready h (fun _ _ hu => hu) e
  case powerOnReset => exact Host.Outcome.next.inj e ▸ powerOn s
  case resetRelease straps => exact Host.Outcome.next.inj e ▸ resetRelease h straps
  case imageReadComplete a =>
    exact ready h (fun _ acts hu => ite (fun reading => hu.readEnds acts (by rw [reading]; rfl) a) hu) e

theorem step {s t : State} (h : mapsSound s) (e : step s = .next t) : mapsSound t := by
  cases hp : s.pending with
  | nil => exact ready h (fun _ _ hu => hu.finishWork) (step_of_nil hp ▸ e)
  | cons c rest => exact exec (s := { s with pending := rest }) h (step_of_cons hp ▸ e)

end SlotView.sound

/-- Settles O54: a move keeps every feeder's place in the maps or is a change announced or ended, and a part held in reset, whose
feeders are all OFFLINE, leaves it by a release alone. -/
theorem everyStepKeepsMapsSound : Obligations.EveryStepKeepsMapsSound := fun _ _ => SlotView.sound.step

end Sys2Proof.Machine
end

section
/-! ENLIST and RETIRE: one feeder's change of the slot maps, refused or announced (R127, R128, R130). -/
open Sys2Proof Sys2Proof.Machine
namespace Sys2Proof.Machine

/-! ### Between cells -/

/-- The state on which a request carried out between cells acts: as it stands where no cell's own work has begun, and otherwise as
the rest of that work leaves it (R130). -/
theorem State.eq_toBetween {s u : State} (free : (∀ w, s.work = some w → w.stage = .accepted) → u = s)
    (working : (∃ w, s.work = some w ∧ w.stage ≠ .accepted) → u = s.finishWork) : u = s.toBetween := by
  by_cases begun : ∃ w, s.work = some w ∧ w.stage ≠ .accepted
  · obtain ⟨w, hw, stage⟩ := begun
    rw [working ⟨w, hw, stage⟩, State.toBetween_of_working hw stage]
  · have accepted : ∀ w, s.work = some w → w.stage = .accepted := fun w hw => by_contra fun stage => begun ⟨w, hw, stage⟩
    rw [free accepted, State.toBetween_of_accepted accepted]

section
variable {s : State} {r : Request} {f : Feeder}

theorem exec_enlist_of_requests (acts : s.acts) (h : s.requests .enlist r) (target : r.feeder = some f) :
    exec .enlist s = .next ((s.toBetween.take r).enlist r f) := by
  refine congrArg Host.Outcome.next ((State.ready_acts acts _).trans ((State.requestBetween_requests h _).trans ?_))
  rw [State.forFeeder, target]

theorem exec_retire_of_requests (acts : s.acts) (h : s.requests .retire r) (target : r.feeder = some f) :
    exec .retire s = .next ((s.toBetween.take r).retire r f) := by
  refine congrArg Host.Outcome.next ((State.ready_acts acts _).trans ((State.requestBetween_requests h _).trans ?_))
  rw [State.forFeeder, target]

/-! ### A change announced -/

/-- A feeder that is neither CHECKING nor driving, before and after, is moved with no check restarted and no counter cleared
(R137, R149). -/
theorem State.moveEngines_set {e : Engine}
    (before : (s.engines.get f).state ≠ .checking ∧ (s.engines.get f).state.driving = false)
    (after : e.state ≠ .checking ∧ e.state.driving = false) :
    s.moveEngines (s.engines.set f e) = { s with engines := s.engines.set f e } := by
  rw [State.moveEngines, settleChecks_set after.1, Verifier.left_set after.2, if_neg before.1, before.2,
    if_neg Bool.false_ne_true]

/-- A change announced is its feeder's move, the pending map and age 0, answered ACCEPTED (R127, R128). -/
theorem State.answered_acceptChange {map : List Feeder} {e : Engine}
    (before : (s.engines.get f).state ≠ .checking ∧ (s.engines.get f).state.driving = false)
    (after : e.state ≠ .checking ∧ e.state.driving = false) :
    answered { s with
        engines := s.engines.set f e
        maps := { s.maps with pending := some { epoch := s.maps.epoch + 1, feeders := map }, age := 0 } }
      ((s.take r).acceptChange r map ((s.take r).engines.set f e)) r .accepted (mapPayload (s.maps.epoch + 1) map) := by
  have moved : ((s.take r).announce (s.maps.epoch + 1) map).moveEngines ((s.take r).engines.set f e) = State.take { s with
        engines := s.engines.set f e
        maps := { s.maps with pending := some { epoch := s.maps.epoch + 1, feeders := map }, age := 0 } } r :=
    State.moveEngines_set (s := (s.take r).announce (s.maps.epoch + 1) map) before after
  rw [State.acceptChange, show (s.take r).maps.epoch = s.maps.epoch from rfl, moved]
  exact State.answered_answer _ r .accepted _

end

/-! ### The obligations -/

/-- Settles O37. -/
theorem enlistAnnouncesAMapWithTheFeeder : Obligations.EnlistAnnouncesAMapWithTheFeeder := by
  intro s u r f acts requests target free working
  have carried : exec .enlist s = .next ((u.take r).enlist r f) := by
    rw [State.eq_toBetween free working, exec_enlist_of_requests acts requests (Request.feeder_of_target target)]
  refine ⟨_, carried, fun unfit => ?_,
    fun offline echo busy => ?_, fun offline echo settled acquiring normal => ?_, fun offline echo settled quiet => ?_⟩
  · have refused : ¬ (((u.take r).engines.get f).state = .offline ∧ (u.take r).egress.echo = false) := by
      rintro ⟨offline, echo⟩
      rcases unfit with other | on
      · exact other offline
      · exact absurd (on.symm.trans echo) nofun
    rw [State.enlist, if_neg refused]
    exact u.answered_answer r .refusedState []
  · have pending : ¬ (u.take r).maps.pending.isNone = true := mt Option.isNone_iff_eq_none.1 busy
    rw [State.enlist, if_pos ⟨offline, echo⟩, if_neg pending]
    exact u.answered_answer r .refusedBusyMap []
  · have event : ¬ (u.take r).monitor.sag.quietState = true := fun quiet =>
      ((SagState.quietState_iff _).1 quiet).elim acquiring normal
    rw [State.enlist, if_pos ⟨offline, echo⟩, if_pos (by exact Option.isNone_iff_eq_none.2 settled), if_neg event]
    exact u.answered_answer r .refusedEvent []
  · refine ⟨mapWith u.maps.active f, List.filter_congr fun g _ => (Bool.decide_or _ _).symm, ?_⟩
    rw [State.enlist, if_pos ⟨offline, echo⟩, if_pos (by exact Option.isNone_iff_eq_none.2 settled),
      if_pos (by exact (SagState.quietState_iff _).2 quiet)]
    exact State.answered_acceptChange (e := (u.engines.get f).enter .enlisting) (by rw [offline]; exact ⟨nofun, rfl⟩)
      ⟨nofun, rfl⟩

theorem FeederState.retirable_iff (x : FeederState) : x.retirable = true ↔ x ∈ [FeederState.standby, .shed, .lockout] := by
  cases x <;> decide

/-- A state that a feeder can be retired from neither drives nor checks (R79, R128). -/
theorem FeederState.idle_of_retirable {x : FeederState} (h : x.retirable = true) : x ≠ .checking ∧ x.driving = false := by
  cases x
  case standby | shed | lockout => exact ⟨nofun, rfl⟩
  all_goals cases h

/-- Settles O38. -/
theorem retireAnnouncesAMapWithoutTheFeeder : Obligations.RetireAnnouncesAMapWithoutTheFeeder := by
  intro s u r f acts requests target free working
  have carried : exec .retire s = .next ((u.take r).retire r f) := by
    rw [State.eq_toBetween free working, exec_retire_of_requests acts requests (Request.feeder_of_target target)]
  refine ⟨_, carried, fun driving => ?_, fun unfit => ?_,
    fun fit busy => ?_, fun fit settled => ?_⟩
  · have drives : ((u.take r).engines.get f).state.driving = true := (FeederState.driving_iff _).2 driving
    rw [State.retire, if_pos drives]
    exact u.answered_answer r .refusedEvent []
  · have stands : ¬ ((u.take r).engines.get f).state.driving = true ∧ ¬ ((u.take r).engines.get f).state.retirable = true := by
      rw [FeederState.driving_iff, FeederState.retirable_iff, State.take_engines]
      cases state : (u.engines.get f).state
      case offline | enlisting | checking | retiring => simp
      all_goals rw [state] at unfit; simp at unfit
    rw [State.retire, if_neg stands.1, if_neg stands.2]
    exact u.answered_answer r .refusedState []
  all_goals
    have retirable := (FeederState.retirable_iff _).2 fit
    obtain ⟨checking, idle⟩ := FeederState.idle_of_retirable retirable
    have stands : ¬ ((u.take r).engines.get f).state.driving = true := Bool.eq_false_iff.1 idle
    rw [State.retire, if_neg stands, if_pos (by exact retirable)]
  · rw [if_neg (by exact mt Option.isNone_iff_eq_none.1 busy)]
    exact u.answered_answer r .refusedBusyMap []
  · refine ⟨mapWithout u.maps.active f, rfl, ?_⟩
    rw [if_pos (by exact Option.isNone_iff_eq_none.2 settled)]
    exact State.answered_acceptChange (e := (u.engines.get f).retire) ⟨checking, idle⟩ ⟨nofun, rfl⟩

end Sys2Proof.Machine
end

section
/-! MAP_CHANGE_ABANDON: a change that has reached its age is dropped and its feeders restored (R132, R156). -/
open Sys2Proof Sys2Proof.Machine
namespace Sys2Proof.Machine

section
variable {s : State} {w : Work}

/-- A change whose age has reached MAP_CHANGE_LIMIT is abandoned (R132). -/
theorem State.abandonChange_of_due {b : Bank} (pending : s.maps.pending ≠ none) (age : b.mapChangeLimit ≤ s.maps.age) :
    s.abandonChange b = (s.moveEnginesRaising (s.engines.map Engine.abandon)).dropChange := by
  rw [State.abandonChange, if_pos]
  rw [Option.isSome_iff_ne_none.2 pending, decide_eq_true age]
  rfl

theorem State.atDrive_of_due (pending : s.maps.pending ≠ none) (age : w.bank.mapChangeLimit ≤ s.maps.age) :
    s.atDrive w = ((s.recordCell w).moveEnginesRaising (s.engines.map Engine.abandon)).dropChange := by
  rw [State.atDrive, State.abandonChange_of_due (by rwa [State.recordCell_maps]) (by rwa [State.recordCell_maps]),
    State.recordCell_engines]

/-- A commit at the end of a cell's work leaves a change as it stands (R182 to R185). -/
theorem State.ageCommit_change (s : State) (zero : Bool) :
    (s.ageCommit zero).maps.pending = s.maps.pending ∧ (s.ageCommit zero).maps.age = s.maps.age := by
  rcases s.ageCommit_cases zero with ⟨r, e⟩ | ⟨r, e⟩ | e | e <;> rw [e]
  · rw [State.takeCommit, State.answer_maps]
    exact ⟨rfl, rfl⟩
  · rw [State.expireCommit_maps]
    exact ⟨rfl, rfl⟩
  · exact ⟨rfl, rfl⟩
  · exact ⟨rfl, rfl⟩

/-- With no image waiting, what follows the DRIVE cell leaves the feeders, the flags and a change as they stand. -/
theorem State.finishCell_afterDrive (image : s.loader.state ≠ .waiting) :
    (s.finishCell w).engines = (s.atDrive w).engines ∧ (s.finishCell w).flags = (s.atDrive w).flags
      ∧ (s.finishCell w).maps.pending = (s.atDrive w).maps.pending ∧ (s.finishCell w).maps.age = (s.atDrive w).maps.age := by
  have waits : ((s.withDrive w).ageCommit w.zeroCrossing).loader.state ≠ .waiting := by
    rwa [State.ageCommit_loader, State.withDrive_loader]
  have drive := s.withDrive_sameDrive w
  have made : (s.withDrive w).maps.pending = (s.atDrive w).maps.pending ∧ (s.withDrive w).maps.age = (s.atDrive w).maps.age := by
    unfold State.withDrive State.lateRestart
    split <;> exact ⟨rfl, rfl⟩
  obtain ⟨pending, age⟩ := (s.withDrive w).ageCommit_change w.zeroCrossing
  rw [State.finishCell_eq, State.endCell, State.waitImage_of_ne waits]
  refine ⟨?_, ?_, ?_, ?_⟩
  · rw [State.endWork_engines, State.settleEcho_engines, State.ageCommit_engines, drive.engines]
  · rw [State.endWork_flags, State.settleEcho_flags, State.ageCommit_flags, drive.flags]
  · rw [State.endWork_maps, State.settleEcho_maps, pending, made.1]
  · rw [State.endWork_maps, State.settleEcho_maps, age, made.2]

/-! ### The last stage of a cell whose change is due -/

section due
variable (image : s.loader.state ≠ .waiting) (pending : s.maps.pending ≠ none) (age : w.bank.mapChangeLimit ≤ s.maps.age)
include image pending age

theorem State.finishCell_maps_of_due : (s.finishCell w).maps.pending = none ∧ (s.finishCell w).maps.age = 0
    ∧ (s.finishCell w).maps.epoch = s.maps.epoch ∧ (s.finishCell w).maps.active = s.maps.active := by
  obtain ⟨-, -, change, changeAge⟩ := State.finishCell_afterDrive (w := w) image
  obtain ⟨epoch, active⟩ := s.finishCell_maps w
  rw [change, changeAge, epoch, active, State.atDrive_of_due pending age]
  refine ⟨rfl, rfl, ?_⟩
  change (s.recordCell w).maps.epoch = _ ∧ (s.recordCell w).maps.active = _
  rw [State.recordCell_maps]
  exact ⟨rfl, rfl⟩

theorem State.finishCell_engine_of_due (f : Feeder) : (s.finishCell w).engines.get f = (s.engines.get f).abandon := by
  rw [(State.finishCell_afterDrive image).1, State.atDrive_of_due pending age]
  exact PerFeeder.get_map _ _ f

/-- FEEDER_CHANGE is raised for every feeder that an abandon moves (R132, R156). -/
theorem State.finishCell_raised_of_due {f : Feeder} (moved : (s.engines.get f).state ≠ (s.engines.get f).abandon.state) :
    (s.finishCell w).flags.raisedFor f := by
  rw [(State.finishCell_afterDrive image).2.1, State.atDrive_of_due pending age]
  refine (FlagUnit.raisedFor_raiseChanges _ ?_).within (FlagUnit.within.latchIndex _ _)
  rwa [State.recordCell_engines, PerFeeder.get_map]

theorem State.finishCell_abandoned_of_due : (s.finishCell w).flags.latched.getLsbD 6 = true := by
  rw [(State.finishCell_afterDrive image).2.1, State.atDrive_of_due pending age]
  exact (FlagUnit.latch_getLsbD _ .mapAbandoned 6).trans (Bool.or_true _)

end due

theorem State.finishCell_came_of_due (pending : s.maps.pending ≠ none) (age : w.bank.mapChangeLimit ≤ s.maps.age) :
    .mapChangeAbandon ∈ (s.finishCell w).came := by
  have abandoned : .mapChangeAbandon ∈ (s.atDrive w).came := by
    rw [State.atDrive_of_due pending age]
    exact List.mem_append_right _ (List.mem_singleton_self _)
  rw [State.finishCell_eq, State.endWork_came]
  refine State.came_endCell ?_ _
  rwa [State.withDrive, State.lateRestart_came, State.readyDrive_came]

/-- MAP_CHANGE_ABANDON carries the cell's work to its end where the change is due (log entry 2). -/
theorem exec_mapChangeAbandon_of_due (h : s.standsIn w .engined) (pending : s.maps.pending ≠ none)
    (age : w.bank.mapChangeLimit ≤ s.maps.age) :
    exec .mapChangeAbandon s = .next (State.finishCell { s with came := [] } w) := by
  obtain ⟨acts, hw, stage⟩ := h
  have rest : s.restOfWork = State.finishCell { s with came := [] } w :=
    State.finishWork_engined (s := { s with came := [] }) hw stage
  have noted : .mapChangeAbandon ∈ s.restOfWork.came := by
    rw [rest]
    exact State.finishCell_came_of_due pending age
  change Host.Outcome.next (s.ready (State.comesAbout .mapChangeAbandon)) = _
  rw [State.ready_acts acts, State.comesAbout_of_mem noted, rest]

end

/-- Settles O22: the last stage makes the abandon, and what follows the DRIVE cell leaves it. -/
theorem mapChangeAbandonRestoresTheFeeders : Obligations.MapChangeAbandonRestoresTheFeeders := by
  intro s w p standing announced age image
  have pending : s.maps.pending ≠ none := by rw [announced]; exact nofun
  obtain ⟨dropped, reset, epoch, active⟩ := State.finishCell_maps_of_due (s := { s with came := [] }) image pending age
  have restored := State.finishCell_engine_of_due (s := { s with came := [] }) image pending age
  refine ⟨_, exec_mapChangeAbandon_of_due standing pending age, State.finishCell_work _ _, dropped, reset, epoch, active,
    State.finishCell_abandoned_of_due (s := { s with came := [] }) image pending age, fun f enlisting => ?_,
    fun f x retiring prior => ?_, fun f enlisting retiring => ?_⟩
  · have offline := Engine.abandon_of_enlisting enlisting
    refine ⟨by rw [restored, offline], State.finishCell_raised_of_due (s := { s with came := [] }) image pending age ?_⟩
    rw [enlisting, offline]
    exact nofun
  · have returned := Engine.abandon_of_retiring retiring prior
    refine ⟨by rw [restored, returned]; rfl, by rw [restored, returned], fun other =>
      State.finishCell_raised_of_due (s := { s with came := [] }) image pending age ?_⟩
    rw [retiring, returned]
    exact other.symm
  · rw [restored, Engine.abandon_of_other enlisting retiring]

end Sys2Proof.Machine
end

section
/-! The path check cell by cell: its comparison, its advance, its restart and its verdict (R90, R134 to R137). -/
open Sys2Proof Sys2Proof.Machine
namespace Sys2Proof.Machine

/-! ### The comparison -/

/-- A winding current has the sign the pattern had exactly where their product is above 0 (R136). -/
theorem sign_eq_patternSign_iff (current : Int) (k : Nat) (p : Phase) :
    current.sign = patternSign k p ↔ 0 < current * patternSign k p := by
  have unit : patternSign k p = 1 ∨ patternSign k p = -1 := by
    rw [patternSign_eq]
    split <;> split <;> decide
  rcases unit with plus | minus
  · rw [plus, Int.sign_eq_one_iff_pos, Int.mul_one]
  · rw [minus, Int.sign_eq_neg_one_iff_neg]
    omega

section
variable {v : CellView} {x : Check}

theorem CellView.compareCheck_of_early (h : x.cell < v.settings.verifyDelay) : v.compareCheck x = x := by
  rw [CellView.compareCheck, if_neg (Nat.not_le.2 h)]

/-- A comparison counts one mismatch for each phase whose current has not the pattern's sign (R136). -/
theorem CellView.compareCheck_mismatches (h : v.settings.verifyDelay ≤ x.cell) (p : Phase) :
    (v.compareCheck x).mismatches.get p = x.mismatches.get p
      + if 0 < v.slot.current.get p * patternSign (x.cell - v.settings.verifyDelay) p then 0 else 1 := by
  rw [CellView.compareCheck, if_pos h, PerPhase.get_build]
  simp only [sign_eq_patternSign_iff]
  split <;> rfl

theorem Check.passes_iff : x.passes = true ↔ ∀ p, x.mismatches.get p ≤ 2 := by
  rw [Check.passes, decide_eq_true_iff, ← Nat.not_lt, phaseMost_lt_iff]
  simp only [not_exists, Nat.not_lt]

end

/-! ### The decision step takes no feeder into CHECKING -/

section
variable (v : CellView) (e : Engine) (x : Check)

theorem Engine.decideStandby_state :
    (e.decideStandby v).state = e.state ∨ (e.decideStandby v).state = .shed ∨ (e.decideStandby v).state = .injecting := by
  have kept : (if v.marks.confirmation then confirmationLookup v e else standingLookupIf v e).engine.state = e.state := by
    split
    · exact confirmationLookup_state v e
    · exact standingLookupIf_state v e
  unfold Engine.decideStandby
  generalize (if v.marks.confirmation then confirmationLookup v e else standingLookupIf v e) = l at kept
  have enters : ∀ m, (l.engine.enterInjection v m).state = e.state ∨ (l.engine.enterInjection v m).state = .shed
      ∨ (l.engine.enterInjection v m).state = .injecting := fun m => by
    rw [Engine.enterInjection_eq]
    split
    · exact .inr (.inl rfl)
    · split
      · exact .inl kept
      · exact .inr (.inr rfl)
  dsimp only
  split
  · exact enters _
  · exact enters _
  all_goals exact .inl kept

theorem Engine.decideInjecting_state : (e.decideInjecting v).state = e.state ∨ (e.decideInjecting v).state = .releasing := by
  have kept := injectingLookup_state v e
  unfold Engine.decideInjecting
  dsimp only
  split
  · split <;> exact .inr rfl
  · repeat' split
    case isFalse.isFalse.isFalse.isFalse => exact .inl kept
    all_goals exact .inr rfl

theorem Engine.decideReturn_state : (e.decideReturn v).state = e.state ∨ (e.decideReturn v).state = .injecting := by
  rw [Engine.decideReturn_eq]
  split
  · exact .inl rfl
  · split
    · exact .inl rfl
    · exact .inr rfl

theorem Engine.decideReleasing_state : (e.decideReleasing v).state = e.state ∨ (e.decideReleasing v).state = .injecting := by
  have kept := standingLookupIf_state v e
  unfold Engine.decideReleasing
  dsimp only
  split
  · split
    · exact .inl kept
    · split
      · exact .inl kept
      · exact .inr rfl
  all_goals exact .inl kept

theorem Engine.decideShed_state : (e.decideShed v).state = e.state ∨ (e.decideShed v).state = .standby := by
  unfold Engine.decideShed
  split
  · exact .inr rfl
  · exact .inl rfl

variable {e}

/-- A feeder that is not CHECKING does not become so in its decision step, which leaves its check record (R80). -/
theorem Engine.decision_of_not_checking (h : e.state ≠ .checking) :
    (e.decision v x).engine.state ≠ .checking ∧ (e.decision v x).check = x := by
  have moves : ∀ {y z : FeederState}, y = e.state ∨ y = z → z ≠ .checking → y ≠ .checking := fun hy hz =>
    hy.elim (fun same => same.trans_ne h) fun moved => moved.trans_ne hz
  unfold Engine.decision
  split
  · refine ⟨?_, rfl⟩
    rcases e.decideStandby_state v with same | shed | injecting
    · exact same.trans_ne h
    · exact shed.trans_ne nofun
    · exact injecting.trans_ne nofun
  · exact ⟨moves (e.decideInjecting_state v) nofun, rfl⟩
  · refine ⟨?_, rfl⟩
    dsimp only
    split
    · exact moves (e.decideReturn_state v) nofun
    · exact moves (e.decideReleasing_state v) nofun
  · exact ⟨moves (e.decideShed_state v) nofun, rfl⟩
  · contradiction
  all_goals exact ⟨h, rfl⟩

/-- The gain step takes a feeder to SHED or STANDBY at most (R87). -/
theorem Engine.gainStep_state (fb : FeederBank) :
    (e.gainStep fb).state = e.state ∨ (e.gainStep fb).state = .shed ∨ (e.gainStep fb).state = .standby := by
  by_cases ends : e.state = .releasing ∧ e.nextGain fb = 0
  · rw [e.gainStep_of_ended fb ends.1 ends.2]
    dsimp only
    split
    · exact .inr (.inl rfl)
    · exact .inr (.inr rfl)
  · rw [e.gainStep_of_standing fb (not_and_or.1 ends)]
    exact .inl rfl

theorem Engine.referenceStep_check_of_ne (h : e.state ≠ .checking) : (e.referenceStep v x).2.1 = x := by
  unfold Engine.referenceStep
  split
  case h_3 => contradiction
  all_goals rfl

theorem Engine.work_check : (e.work v x).check
    = (((e.decided v x).gainStep v.settings).referenceStep v ((e.confirmationStep v).decision v x).check).2.1 := rfl

/-- The work of an engine whose feeder is not CHECKING leaves its check record (R80, R135). -/
theorem Engine.work_check_of_not_checking (h : e.state ≠ .checking) : (e.work v x).check = x := by
  obtain ⟨decided, check⟩ := Engine.decision_of_not_checking v x ((e.confirmationStep_state v).1.trans_ne h)
  have gained : ((e.decided v x).gainStep v.settings).state ≠ .checking := by
    rcases Engine.gainStep_state (e := e.decided v x) v.settings with same | shed | standby
    · exact same.trans_ne decided
    · exact shed.trans_ne nofun
    · exact standby.trans_ne nofun
  rw [Engine.work_check, Engine.referenceStep_check_of_ne v _ gained, check]

/-! ### The cells of a check -/

variable {v x}

/-- The work of an engine whose decision step leaves its feeder CHECKING: the reference step advances the check that runs (R135). -/
theorem Engine.work_of_checking (state : e.state = .checking) {y : Check}
    (decided : ∀ d : Engine, d.decideChecking v x = ⟨d, y, false, false⟩) :
    (e.work v x).engine.state = .checking
      ∧ (e.work v x).check = if v.checkRuns then { y with cell := y.cell + 1 } else y := by
  have confirmed : (e.confirmationStep v).state = .checking := (e.confirmationStep_state v).1.trans state
  have decision : (e.confirmationStep v).decision v x = ⟨e.confirmationStep v, y, false, false⟩ :=
    (Engine.decision_of_checking confirmed).trans (decided _)
  have stands : e.decided v x = e.confirmationStep v := congrArg Decision.engine decision
  have gained := (e.decided v x).gainStep_of_standing v.settings (.inl (by rw [stands, confirmed]; exact nofun))
  have checking : ((e.decided v x).gainStep v.settings).state = .checking := by rw [gained, stands]; exact confirmed
  constructor
  · rw [Engine.work_engine, Engine.referenceStep_of_not_driving v _ _ (by rw [checking]; rfl), checking]
  · rw [Engine.work_check, Engine.referenceStep, checking, decision]
    cases v.checkRuns <;> rfl

/-- A check that runs to its last cell gives its verdict (R137). -/
theorem Engine.decideChecking_of_last (runs : v.checkRuns = true) (last : x.cell = 31) : e.decideChecking v x
    = ⟨if (v.compareCheck x).passes then e.enter .standby else e.lockOut v.eventOpen, Check.start, true,
        !(v.compareCheck x).passes⟩ := by
  rw [Engine.decideChecking, if_pos runs, if_pos last]
  cases (v.compareCheck x).passes <;> rfl

/-- The work of an engine whose feeder's check gives its verdict (R137). -/
theorem Engine.work_of_verdict (state : e.state = .checking) (runs : v.checkRuns = true) (last : x.cell = 31) :
    (e.work v x).verdict = true ∧ (e.work v x).check = Check.start
      ∧ (e.work v x).failed = !(v.compareCheck x).passes ∧ (e.work v x).engine.gain = 0
      ∧ ((v.compareCheck x).passes = true → (e.work v x).engine.state = .standby)
      ∧ ((v.compareCheck x).passes = false → (e.work v x).engine.lockedOut v.eventOpen) := by
  have confirmed : (e.confirmationStep v).state = .checking := (e.confirmationStep_state v).1.trans state
  have decision := (Engine.decision_of_checking (v := v) (x := x) confirmed).trans (Engine.decideChecking_of_last runs last)
  have decided : e.decided v x = if (v.compareCheck x).passes then (e.confirmationStep v).enter .standby
      else (e.confirmationStep v).lockOut v.eventOpen := congrArg Decision.engine decision
  have left : (e.decided v x).state = if (v.compareCheck x).passes then .standby else .lockout := by
    rw [decided, apply_ite Engine.state, Engine.lockOut_state]
    rfl
  have idle : (e.decided v x).state.driving = false := by rw [left]; split <;> rfl
  have unchecked : ((e.decided v x).gainStep v.settings).state ≠ .checking := by
    rw [(e.decided v x).gainStep_of_standing v.settings (.inl fun releasing => by rw [releasing] at idle; cases idle)]
    change (e.decided v x).state ≠ .checking
    rw [left]
    split <;> exact nofun
  have worked := e.work_of_not_driving v x idle
  refine ⟨congrArg Decision.verdict decision, ?_, congrArg Decision.failed decision, by rw [worked],
    fun passes => ?_, fun fails => ?_⟩
  · rw [Engine.work_check, Engine.referenceStep_check_of_ne v _ unchecked]
    exact congrArg Decision.check decision
  · rw [worked]
    exact left.trans (if_pos passes)
  · have locked : (e.decided v x).lockedOut v.eventOpen := by
      rw [decided, if_neg (Bool.eq_false_iff.1 fails)]
      exact Engine.lockOut_lockedOut _ _
    rw [worked]
    exact locked.congr rfl locked.gain.symm rfl rfl

end

/-! ### A check record at its first cell -/

section
variable {s : State} {w : Work} {f : Feeder}

theorem settleChecks_of_start {checks : PerFeeder Check} (h : checks.get f = Check.start) (before after : PerFeeder Engine) :
    (settleChecks before after checks).get f = Check.start := by
  rw [settleChecks, PerFeeder.get_build, h, ite_self]

theorem State.restartChecks_of_start (h : s.maps.checks.get f = Check.start) :
    s.restartChecks.maps.checks.get f = Check.start := by
  rw [State.restartChecks, PerFeeder.get_build, h, ite_self]

theorem State.commitBank_of_start (h : s.maps.checks.get f = Check.start) : s.commitBank.maps.checks.get f = Check.start := by
  rw [State.commitBank]
  exact State.restartChecks_of_start (by exact h)

/-- The last stage takes no check record off its first cell (R137, R138). -/
theorem State.finishCell_checks_of_start (image : s.loader.state ≠ .waiting) (h : s.maps.checks.get f = Check.start) :
    (s.finishCell w).maps.checks.get f = Check.start := by
  have waits : ((s.withDrive w).ageCommit w.zeroCrossing).loader.state ≠ .waiting := by
    rwa [State.ageCommit_loader, State.withDrive_loader]
  have recorded : (s.recordCell w).maps.checks.get f = Check.start := by rwa [State.recordCell_maps]
  have drive : (s.atDrive w).maps.checks.get f = Check.start := by
    rw [State.atDrive]
    rcases (s.recordCell w).abandonChange_cases w.bank with e | e <;> rw [e]
    · exact settleChecks_of_start recorded _ _
    · exact recorded
  have sent : (s.withDrive w).maps.checks.get f = Check.start := by
    unfold State.withDrive State.lateRestart
    split
    · exact State.restartChecks_of_start (s := (s.atDrive w).readyDrive _ _) drive
    · exact drive
  rw [State.finishCell_eq, State.endCell, State.waitImage_of_ne waits, State.endWork_maps, State.settleEcho_maps]
  rcases (s.withDrive w).ageCommit_cases w.zeroCrossing with ⟨r, e⟩ | ⟨r, e⟩ | e | e <;> rw [e]
  · rw [State.takeCommit, State.answer_maps]
    exact State.commitBank_of_start (s := (s.withDrive w).growOlder) sent
  · rw [State.expireCommit_maps]
    exact sent
  · exact sent
  · exact sent

theorem State.lastStages_checks_of_start (image : s.loader.state ≠ .waiting) (h : (s.engineStep w f).check = Check.start) :
    (s.lastStages w).maps.checks.get f = Check.start := by
  have engaged : (s.engageCell w).maps.checks.get f = Check.start := by
    rw [State.engageCell, PerFeeder.get_map, State.engineSteps, PerFeeder.get_build, h]
  exact State.finishCell_checks_of_start (s := (s.engageCell w).verifyCell (s.afterEngage w)) image
    (settleChecks_of_start engaged _ _)

theorem pathCheckVerdict_mem_occurrences {steps : PerFeeder EngineStep} (h : (steps.get f).verdict = true)
    (failed : Option Feeder) : .pathCheckVerdict f ∈ engineOccurrences steps failed := by
  refine List.mem_append_left _ (List.mem_flatMap.2 ⟨f, Feeder.mem_all f, List.mem_append_right _ ?_⟩)
  rw [h]
  exact List.mem_singleton_self _

/-- The flag of a failed check stands at the end of the work (R137, R150). -/
theorem State.lastStages_checkFail_latched (image : s.loader.state ≠ .waiting) (h : (s.engineStep w f).failed = true) :
    (s.lastStages w).flags.latched.getLsbD (13 + 5 * f.number) = true := by
  have on : ((s.engineSteps w).map EngineStep.failed).get f = true := by
    rwa [PerFeeder.get_map, State.engineSteps, PerFeeder.get_build]
  have raised : (s.flagsRaised w).latched.getLsbD (FeederFlag.checkFail.index f) = true :=
    (((FlagUnit.within.raiseChanges _ _ _).trans (FlagUnit.within.latchFeeders _ _ _)).trans
      (FlagUnit.within.latchFeeders _ _ _)).latched _ (FeederFlag.checkFail.index_lt_word f)
      (FlagUnit.latchFeeders_getLsbD s.flags .checkFail on)
  have ended := (State.lastStages_flags image).latched _ (FeederFlag.checkFail.index_lt_word f) raised
  rwa [show FeederFlag.checkFail.index f = 13 + 5 * f.number by cases f <;> rfl] at ended

/-! ### The verdict -/

/-- The cell gives the verdict of a feeder's check: a slot-holding CHECKING feeder at the last cell of a check that runs, with no
overcurrent, and no image waiting (R134, R137). -/
structure State.verdictDue (s : State) (w : Work) (f : Feeder) : Prop where
  mapped : f ∈ s.maps.active
  checking : (s.engines.get f).state = .checking
  runs : (s.view w f).checkRuns = true
  last : (s.maps.checks.get f).cell = 31
  untripped : (s.tripped w).get f = false
  image : s.loader.state ≠ .waiting

/-- The verdict: the counts after the cell's comparison are few enough on every phase (R136, R137). -/
def State.checkPasses (s : State) (w : Work) (f : Feeder) : Bool := ((s.view w f).compareCheck (s.maps.checks.get f)).passes

namespace State.verdictDue

variable (h : s.verdictDue w f)
include h

/-- The engine's work on the cell of the verdict (R137). -/
theorem stepped : (s.engineStep w f).verdict = true ∧ (s.engineStep w f).check = Check.start
    ∧ (s.engineStep w f).failed = !s.checkPasses w f ∧ (s.engineStep w f).engine.gain = 0
    ∧ (s.checkPasses w f = true → (s.engineStep w f).engine.state = .standby)
    ∧ (s.checkPasses w f = false → (s.engineStep w f).engine.lockedOut s.eventOpen) := by
  rw [State.engineStep_of_mem h.mapped]
  exact Engine.work_of_verdict h.checking h.runs h.last

theorem left : (s.engineStep w f).engine.state = .standby ∨ (s.engineStep w f).engine.state = .lockout := by
  obtain ⟨-, -, -, -, standby, lockout⟩ := h.stepped
  cases passes : s.checkPasses w f
  · exact .inr (lockout passes).state
  · exact .inl (standby passes)

/-- No fault follows a verdict (R91). -/
theorem verified : s.engineVerified w f = (s.engineStep w f).engine :=
  State.engineVerified_of_sound h.mapped h.untripped (by rcases h.left with e | e <;> rw [e] <;> rfl)

/-- The feeder's engine at the end of the work (R137). -/
theorem engine : ((s.lastStages w).engines.get f).gain = 0
    ∧ (s.checkPasses w f = true → ((s.lastStages w).engines.get f).state = .standby)
    ∧ (s.checkPasses w f = false → ((s.lastStages w).engines.get f).lockedOut s.eventOpen) := by
  obtain ⟨-, -, -, gain, standby, lockout⟩ := h.stepped
  have settled : (s.engineVerified w f).state ≠ .enlisting ∧ (s.engineVerified w f).state ≠ .retiring := by
    rw [h.verified]
    rcases h.left with e | e <;> rw [e] <;> exact ⟨nofun, nofun⟩
  obtain ⟨references, peak, energyDraw, ended⟩ := State.lastStages_engine (w := w) h.image h.mapped (.inl settled)
  rw [← h.verified] at gain standby lockout
  refine ⟨by rw [ended]; exact gain, fun passes => by rw [ended]; exact standby passes, fun fails => ?_⟩
  exact State.lastStages_lockedOut h.image h.mapped (lockout fails)

theorem checks : (s.lastStages w).maps.checks.get f = Check.start := by
  obtain ⟨-, check, -⟩ := h.stepped
  exact State.lastStages_checks_of_start h.image check

theorem checkFail (fails : s.checkPasses w f = false) : (s.lastStages w).flags.latched.getLsbD (13 + 5 * f.number) = true := by
  obtain ⟨-, -, failed, -⟩ := h.stepped
  exact State.lastStages_checkFail_latched h.image (by rw [failed, fails]; rfl)

theorem raised : (s.lastStages w).flags.raisedFor f :=
  State.lastStages_raised_of_stepped h.image (by rw [h.checking]; rcases h.left with e | e <;> rw [e] <;> exact nofun)

theorem occurs : .pathCheckVerdict f ∈ engineOccurrences (s.engineSteps w) (s.compared w).failed := by
  obtain ⟨verdict, -⟩ := h.stepped
  exact pathCheckVerdict_mem_occurrences (by rwa [State.engineSteps, PerFeeder.get_build]) _

end State.verdictDue

end

/-- Settles O20: the verdict leaves a feeder that no fault follows, and every later operation leaves its check at the first cell. -/
theorem pathCheckVerdictPassesOrLocksOut : Obligations.PathCheckVerdictPassesOrLocksOut := by
  refine ⟨fun s w f standing mapped checking quiet echo image untripped last => ?_, fun v e x sign pattern =>
    ⟨CellView.compareCheck_of_early, fun compared => ⟨v.compareCheck_cell x, fun p => ?_⟩, fun state quiet echo early => ?_,
      fun state suspended => ?_, Engine.work_check_of_not_checking v x⟩⟩
  · have runs : (s.view w f).checkRuns = true := (s.view w f).checkRuns_iff.2 ⟨quiet, echo⟩
    have due : s.verdictDue w f := ⟨mapped, checking, runs, last, untripped, image⟩
    have rest : State.verdictDue { s with came := [] } w f := ⟨mapped, checking, runs, last, untripped, image⟩
    obtain ⟨gain, standby, lockout⟩ := rest.engine
    refine ⟨_, exec_of_engineOccurrence standing rfl due.occurs, State.finishCell_work _ _,
      fun few => standby (Check.passes_iff.2 few), fun ⟨p, three⟩ => ?_, gain, rest.checks, rest.raised⟩
    have fails : State.checkPasses { s with came := [] } w f = false :=
      Bool.eq_false_iff.2 fun passes => absurd (Check.passes_iff.1 passes p) (Nat.not_le.2 three)
    exact ⟨(lockout fails).state, rest.checkFail fails, (lockout fails).mark⟩
  · rw [CellView.compareCheck_mismatches compared, pattern, patternSign_eq]
  · have runs : v.checkRuns = true := v.checkRuns_iff.2 ⟨quiet, echo⟩
    have worked := Engine.work_of_checking (v := v) state fun _ => Engine.decideChecking_of_running runs early
    rwa [if_pos runs, CellView.compareCheck_cell] at worked
  · have stopped : v.checkRuns = false := by
      refine Bool.eq_false_iff.2 fun runs => ?_
      obtain ⟨quiet, echo⟩ := v.checkRuns_iff.1 runs
      rcases suspended with ⟨acquiring, normal⟩ | on
      · exact quiet.elim acquiring normal
      · exact absurd (on.symm.trans echo) nofun
    have worked := Engine.work_of_checking (v := v) (x := x) state fun _ => Engine.decideChecking_of_suspended stopped
    rwa [if_neg (Bool.eq_false_iff.1 stopped)] at worked

end Sys2Proof.Machine
end

section
/-! The report masks and the attention code (R153 to R155). -/
open Sys2Proof Sys2Proof.Machine
namespace Sys2Proof.Machine

/-! ### SET_REPORT and ALERT -/

/-- The set's flags are reported and every other one is masked (R150, R153). -/
theorem FlagUnit.report_getLsbD (u : FlagUnit) (w0 w1 : Word) {i : Nat} (hi : i < 32) :
    (u.report (flagSetOf w0 w1)).reported.getLsbD i = ((w1 ++ w0).getLsbD i && decide (i < 31)) := by
  simp only [FlagUnit.report, flagSetOf, BitVec.getLsbD_and, allFlags_getLsbD hi, Bool.and_assoc, Bool.and_self]

/-- ALERT is active exactly where a flag is latched and reported; where index 31 is masked, that flag has an index below it
(R150, R154). -/
theorem FlagUnit.alert_iff {u : FlagUnit} (masked : u.reported.getLsbD 31 = false) :
    u.alert = true ↔ ∃ i, i < 31 ∧ u.latched.getLsbD i = true ∧ u.reported.getLsbD i = true := by
  have quiet : u.alert = false ↔ ∀ i, (u.latched &&& u.reported).getLsbD i = false := by
    simp [FlagUnit.alert, BitVec.zero_iff_eq_false]
  have below : ∀ i, u.reported.getLsbD i = true → i < 31 := by
    intro i reported
    have word : i < 32 := BitVec.lt_of_getLsbD reported
    have other : i ≠ 31 := by
      rintro rfl
      exact absurd (masked.symm.trans reported) nofun
    omega
  rw [← Bool.not_eq_false, quiet, not_forall]
  simp only [BitVec.getLsbD_and, Bool.not_eq_false, Bool.and_eq_true]
  exact exists_congr fun i => ⟨fun both => ⟨below i both.2, both⟩, And.right⟩

theorem exec_setReport_of_requests {s : State} {r : Request} (acts : s.acts) (h : s.requests .setReport r) :
    exec .setReport s
      = .next (State.answer { s.take r with flags := s.flags.report (flagSetOf (r.word 0) (r.word 1)) } r .done []) :=
  congrArg Host.Outcome.next (State.ready_request acts h _)

/-- Settles O41. -/
theorem setReportSetsTheMasks : Obligations.SetReportSetsTheMasks := by
  intro s r acts requests
  have reported := fun i hi => FlagUnit.report_getLsbD s.flags (r.word 0) (r.word 1) (i := i) hi
  have masked : (s.flags.report (flagSetOf (r.word 0) (r.word 1))).reported.getLsbD 31 = false := by
    rw [reported 31 (by decide)]
    exact Bool.and_false _
  refine ⟨_, { s with flags := s.flags.report (flagSetOf (r.word 0) (r.word 1)) }, exec_setReport_of_requests acts requests,
    State.answered_answer _ r .done [], rfl, reported, FlagUnit.alert_iff masked, ?_⟩
  rw [State.alert, State.answer_flags]
  rfl

/-! ### The causes of the attention code -/

/-- The flag indices that stand for a cause, a feeder cause's in ascending order of the feeders (R150, R155). -/
def Cause.indices : Cause → List Nat
  | .feeder k => Feeder.all.map k.index
  | .device k => [k.index]

theorem FlagUnit.feederField_device (u : FlagUnit) {k : DeviceFlag} (h : k ≠ .feederChange) :
    u.feederField (.device k) = if u.calls k.index then some 7 else none := by
  cases k
  case feederChange => exact absurd rfl h
  all_goals rfl

/-- A cause calls for attention exactly where one of its flags is latched and reported (R155). -/
theorem FlagUnit.feederField_isSome (u : FlagUnit) (c : Cause) : (u.feederField c).isSome = c.indices.any u.calls := by
  cases c with
  | feeder k => rw [FlagUnit.feederField, Option.isSome_map, List.isSome_find?, Cause.indices, List.any_map]; rfl
  | device k =>
    rw [Cause.indices, List.any_cons, List.any_nil, Bool.or_false]
    by_cases change : k = .feederChange
    · subst change
      rw [FlagUnit.feederField]
      cases u.calls DeviceFlag.feederChange.index <;> rfl
    · rw [u.feederField_device change]
      cases u.calls k.index <;> rfl

theorem Feeder.number_getD_le (o : Option Feeder) : (o.map Feeder.number).getD 7 ≤ 7 := by
  rcases o with _ | f
  · exact Nat.le_refl 7
  · cases f <;> decide

/-- A feeder field fits its three bits (R155). -/
theorem FlagUnit.feederField_le {u : FlagUnit} {c : Cause} {x : Nat} (h : u.feederField c = some x) : x ≤ 7 := by
  have getD : (u.feederField c).getD 7 ≤ 7 := by
    cases c with
    | feeder k => exact Feeder.number_getD_le _
    | device k =>
      by_cases change : k = .feederChange
      · subst change
        rw [FlagUnit.feederField]
        split
        · exact Feeder.number_getD_le _
        · exact Nat.le_refl 7
      · rw [u.feederField_device change]
        split <;> exact Nat.le_refl 7
  rwa [h] at getD

/-! ### The feeder field -/

/-- The first feeder that meets a condition, by its place in the ascending order. -/
theorem Feeder.find?_number {p : Feeder → Bool} {n : Nat} (h : Feeder.all.findIdx p = n) (hn : n < 4) :
    (Feeder.all.find? p).map Feeder.number = some n := by
  rw [List.find?_eq_getElem?_findIdx, h]
  interval_cases n <;> rfl

/-- The feeder field of a feeder cause is the place of its first flag that is reported and latched (R155). -/
theorem FlagUnit.feederField_feeder {u : FlagUnit} {k : FeederFlag} {n : Nat}
    (h : (Cause.feeder k).indices.findIdx u.calls = n) (hn : n < 4) : u.feederField (.feeder k) = some n := by
  rw [Cause.indices, List.findIdx_map] at h
  exact Feeder.find?_number h hn

/-- The lowest-numbered feeder that meets a condition is the first in the ascending order. -/
theorem Feeder.find?_eq_some {p : Feeder → Bool} {f : Feeder} (meets : p f = true)
    (lowest : ∀ g : Feeder, g.number < f.number → p g = false) : Feeder.all.find? p = some f := by
  have bound : f.number < Feeder.all.length := by cases f <;> decide
  have own : Feeder.all[f.number] = f := by cases f <;> rfl
  have place : ∀ j (h : j < Feeder.all.length), Feeder.all[j].number = j := by decide
  refine List.find?_eq_some_iff_getElem.2 ⟨meets, f.number, bound, own, fun j hj => ?_⟩
  rw [lowest _ ((place j (hj.trans bound)).trans_lt hj), Bool.not_false]

/-- The feeder field of FEEDER_CHANGE is the lowest-numbered feeder of its set (R155, R156). -/
theorem FlagUnit.feederField_feederChange {u : FlagUnit} {f : Feeder} (calls : u.calls DeviceFlag.feederChange.index = true)
    (member : u.changed.get f = true) (lowest : ∀ g : Feeder, g.number < f.number → u.changed.get g = false) :
    u.feederField (.device .feederChange) = some f.number := by
  rw [FlagUnit.feederField, if_pos calls, Feeder.find?_eq_some member lowest]
  rfl

/-! ### The search along the priorities -/

/-- The code is 0x07 where no cause calls (R155). -/
theorem FlagUnit.attentionFrom_of_none {u : FlagUnit} {causes : List Cause} (none : ∀ c ∈ causes, u.feederField c = none)
    (priority : Nat) : u.attentionFrom causes priority = 7#8 := by
  induction causes generalizing priority with
  | nil => rfl
  | cons c rest ih =>
    rw [FlagUnit.attentionFrom, none c List.mem_cons_self]
    exact ih (fun d hd => none d (List.mem_cons_of_mem c hd)) _

/-- The code is that of the first cause that calls (R155). -/
theorem FlagUnit.attentionFrom_of_first {u : FlagUnit} {causes : List Cause} {n x : Nat} {c : Cause}
    (at_n : causes[n]? = some c) (field : u.feederField c = some x)
    (first : ∀ m d, m < n → causes[m]? = some d → u.feederField d = none) (priority : Nat) :
    u.attentionFrom causes priority = BitVec.ofNat 8 ((priority + n) * 8 + x) := by
  induction n generalizing causes priority with
  | zero =>
    obtain ⟨rest, rfl⟩ : ∃ rest, causes = c :: rest := by
      cases causes with
      | nil => cases at_n
      | cons d rest => exact ⟨rest, by rw [Option.some.inj at_n]⟩
    rw [FlagUnit.attentionFrom, field]
    rfl
  | succ n ih =>
    cases causes with
    | nil => cases at_n
    | cons d rest =>
      rw [FlagUnit.attentionFrom, first 0 d n.succ_pos rfl]
      exact (ih at_n (fun m e hm he => first (m + 1) e (Nat.succ_lt_succ hm) he) (priority + 1)).trans
        (by rw [Nat.add_right_comm, Nat.add_assoc])

/-- FEEDER_CHANGE is the last of the sixteen causes (R155). -/
theorem causesByPriority_feederChange_iff {n : Nat} {c : Cause} (h : causesByPriority[n]? = some c) :
    c = .device .feederChange ↔ n = 15 := by
  have bound : n < 16 := (List.getElem?_eq_some_iff.1 h).1
  interval_cases n <;> obtain rfl := Option.some.inj h <;> decide

/-- The cause field and the feeder field of the first cause that calls (R155). -/
theorem FlagUnit.attention_fields {u : FlagUnit} {n x : Nat} {c : Cause} (at_n : causesByPriority[n]? = some c)
    (field : u.feederField c = some x) (first : ∀ m d, m < n → causesByPriority[m]? = some d → u.feederField d = none) :
    u.attention.toNat / 8 = n + 1 ∧ u.attention.toNat % 8 = x := by
  have bound : n < 16 := (List.getElem?_eq_some_iff.1 at_n).1
  have fits := FlagUnit.feederField_le field
  rw [FlagUnit.attention, FlagUnit.attentionFrom_of_first at_n field first, BitVec.toNat_ofNat]
  omega

theorem FlagUnit.feederField_eq_none_iff (u : FlagUnit) (c : Cause) : u.feederField c = none ↔ c.indices.any u.calls = false := by
  rw [← FlagUnit.feederField_isSome, ← Option.isNone_iff_eq_none, Option.isSome_eq_false_iff]

/-- Settles O42: the search stops at the first cause with a flag that calls, and that cause's feeder field joins its number. -/
theorem attentionNamesTheHighestPriority : Obligations.AttentionNamesTheHighestPriority := by
  intro u on causes hon _ hcauses
  obtain rfl : on = u.calls := funext fun i => (hon i).trans BitVec.getLsbD_and.symm
  obtain rfl : causes = causesByPriority.map Cause.indices := hcauses
  refine ⟨fun off => FlagUnit.attentionFrom_of_none (fun c _ => ?_) 1, fun n indices at_n calls earlier => ?_⟩
  · rw [FlagUnit.feederField_eq_none_iff, List.any_eq_false]
    exact fun i _ => Bool.eq_false_iff.1 (off i)
  · rw [List.getElem?_map, Option.map_eq_some_iff] at at_n
    obtain ⟨c, at_n, rfl⟩ := at_n
    have first : ∀ m d, m < n → causesByPriority[m]? = some d → u.feederField d = none := fun m d hm hd =>
      (u.feederField_eq_none_iff d).2 (earlier m d.indices hm (by rw [List.getElem?_map, hd]; rfl))
    have fields := fun x (field : u.feederField c = some x) => FlagUnit.attention_fields at_n field first
    obtain ⟨x, field⟩ := Option.isSome_iff_exists.1 ((u.feederField_isSome c).trans calls)
    have last := causesByPriority_feederChange_iff at_n
    refine ⟨(fields x field).1, fun four k hk place => ?_, fun one other => ?_, fun fifteen f member lowest => ?_⟩
    · cases c with
      | feeder flag => exact (fields k (FlagUnit.feederField_feeder place hk)).2
      | device flag => exact absurd four nofun
    · cases c with
      | feeder flag => exact absurd one nofun
      | device flag =>
        have plain : flag ≠ .feederChange := fun change => other (last.1 (congrArg Cause.device change))
        have latched : u.calls flag.index = true := by simpa [Cause.indices] using calls
        exact (fields 7 ((u.feederField_device plain).trans (if_pos latched))).2
    · obtain rfl := last.2 fifteen
      have latched : u.calls DeviceFlag.feederChange.index = true := by simpa [Cause.indices] using calls
      exact (fields f.number (FlagUnit.feederField_feederChange latched member lowest)).2

end Sys2Proof.Machine
end

section
/-! What the recorder's invariant reads of a state, and the operations that leave it (R158, R160, R161). -/
open Sys2Proof Sys2Proof.Machine
namespace Sys2Proof.Machine

/-- The accepted cell's own work has begun, and the cell ends the event: its record is closed in the last stage (R160). -/
def Work.closes (w : Work) : Bool := decide (w.stage ≠ .accepted) && w.marks.eventEnd

/-- What the invariant of the open record reads of a state. -/
structure EventView where
  recorded : Bool
  inEvent : Bool
  closing : Bool

def State.event (s : State) : EventView := ⟨s.recorder.openRecord.isSome, s.monitor.sag.inEvent, s.work.any Work.closes⟩

/-- A record is open in an event and in the cell that ends it, which leaves the event in its first stage. -/
structure EventView.sound (v : EventView) : Prop where
  recorded : v.recorded = (v.inEvent || v.closing)
  ended : v.closing = true → v.inEvent = false

theorem recordSound_iff (s : State) : recordSound s ↔ s.event.sound := by
  have fields : s.event.sound ↔ s.recorder.openRecord.isSome = (s.monitor.sag.inEvent || s.work.any Work.closes)
      ∧ (s.work.any Work.closes = true → s.monitor.sag.inEvent = false) := ⟨fun ⟨a, b⟩ => ⟨a, b⟩, fun ⟨a, b⟩ => ⟨a, b⟩⟩
  rw [fields, recordSound]
  cases s.work with
  | none => simp
  | some w => by_cases accepted : w.stage = .accepted <;> simp [Work.closes, accepted]

/-! ### Operations that leave the event -/

section
variable {s : State}

theorem State.event_congr {t : State} (recorder : t.recorder.openRecord = s.recorder.openRecord := by simp)
    (monitor : t.monitor.sag = s.monitor.sag := by simp) (work : t.work = s.work := by simp) : t.event = s.event := by
  rw [State.event, recorder, monitor, work]
  rfl

/-- The work under way may be changed where it closes the record as before. -/
theorem State.event_of_work {t : State} (g : Work → Work) (closes : ∀ w, (g w).closes = w.closes)
    (work : t.work = s.work.map g) (recorder : t.recorder.openRecord = s.recorder.openRecord := by simp)
    (monitor : t.monitor.sag = s.monitor.sag := by simp) : t.event = s.event := by
  simp only [State.event, recorder, monitor, work, Option.any_map, closes]

theorem Work.closes_bypass (f : Feeder) (w : Work) : (w.bypass f).closes = w.closes := by
  unfold Work.bypass
  split <;> rfl

/-- A bar on a COMMIT SYNC leaves what a cell closes (R183). -/
theorem Work.closes_bar (w : Work) : Work.closes (if w.stage = .accepted then w else { w with syncBarred := true }) = w.closes := by
  split <;> rfl

variable (s)

@[simp] theorem State.buffer_event (r : Reply) : (s.buffer r).event = s.event := State.event_congr

@[simp] theorem State.answer_event (r : Request) (result : Result) (payload : List Word) :
    (s.answer r result payload).event = s.event := s.buffer_event _

@[simp] theorem State.autoEnlist_event : s.autoEnlist.event = s.event := State.event_congr

/-- A commit trims windows and marks the work under way (R44, R138). -/
@[simp] theorem State.commitBank_event : s.commitBank.event = s.event :=
  State.event_of_work (fun w => { w with commitDuring := true }) (fun _ => rfl) rfl (monitor := rfl)

@[simp] theorem State.takeCommit_event (r : Request) : (s.takeCommit r).event = s.event :=
  (State.answer_event _ _ _ _).trans s.commitBank_event

@[simp] theorem State.commitImage_event : s.commitImage.event = s.event :=
  (State.autoEnlist_event _).trans s.commitBank_event

@[simp] theorem State.failLoad_event (outcome : LoadOutcome) : (s.failLoad outcome).event = s.event := State.autoEnlist_event _

@[simp] theorem State.loadImage_event : s.loadImage.event = s.event := by
  unfold State.loadImage
  split
  · exact s.failLoad_event _
  · split
    · rfl
    · exact s.failLoad_event _

@[simp] theorem State.readEnds_event (a : MemoryAnswer) : (s.readEnds a).event = s.event := by
  cases a with
  | silent => exact s.failLoad_event _
  | stored => exact s.loadImage_event
  | replaced bytes => exact State.loadImage_event _

/-! ### The end of a cell's work and the gap -/

@[simp] theorem State.ageCommit_event (zero : Bool) : (s.ageCommit zero).event = s.event := by
  rcases s.ageCommit_cases zero with ⟨r, e⟩ | ⟨r, e⟩ | e | e <;> rw [e]
  · exact State.takeCommit_event _ r
  · exact State.answer_event _ _ _ _
  · rfl

@[simp] theorem State.waitImage_event : s.waitImage.event = s.event := by
  rcases s.waitImage_cases with e | e <;> rw [e]
  exact s.commitImage_event

@[simp] theorem State.setEcho_event (r : Request) (on : Bool) : (s.setEcho r on).event = s.event := by
  unfold State.setEcho
  split <;> exact State.answer_event _ _ _ _

@[simp] theorem State.settleEcho_event : s.settleEcho.event = s.event := by
  rcases s.settleEcho_cases with ⟨r, on, e⟩ | e <;> rw [e]
  exact s.setEcho_event r on

@[simp] theorem State.endCell_event (zero : Bool) : (s.endCell zero).event = s.event := by
  rw [State.endCell, State.settleEcho_event, State.waitImage_event, State.ageCommit_event]

@[simp] theorem State.settleSwitch_event : s.settleSwitch.event = s.event := by
  unfold State.settleSwitch
  split
  · rfl
  next w hw =>
    split
    · exact State.event_of_work (fun w => { w with switches := false }) (fun _ => rfl) (by simp [hw])
    · rfl

/-- A missing cell makes no decision of the sag state (R42, R45). -/
theorem State.workMissing_event {w : Work} (hw : s.work = some w) : (s.workMissing w).event = s.event := by
  have sag : (s.monitorAlone w).sag = s.monitor.sag := by rw [State.monitorAlone, Monitor.workMissing_eq]
  exact (State.endCell_event _ _).trans
    (State.event_of_work (fun w => { w with missing := w.missing - 1 }) (fun _ => rfl) (by rw [hw]; rfl) (monitor := sag))

/-! ### Arriving cells and the links -/

@[simp] theorem State.offer_event (r : Request) : (s.offer r).event = s.event := by
  unfold State.offer
  split
  · rfl
  · split <;> rfl

/-- Where no cell is being worked, the acceptance of one leaves the event: its own work has not begun (R11). -/
theorem State.accept_event (idle : s.work = none) (c : Sense) (missing : Nat) (breaks switches : Bool) :
    (s.accept c missing breaks switches).event = s.event := by
  rw [State.accept, State.settleSwitch_event, State.enterCell_eq, State.event, State.event, idle]
  rfl

theorem State.arriveSense_event (idle : s.work = none) (words : List Word) : (s.arriveSense words).event = s.event := by
  have checked : ∀ c switches, (s.checkSequence c switches).event = s.event := fun c switches => by
    unfold State.checkSequence
    split
    · exact s.accept_event idle _ _ _ _
    · rfl
    · exact s.accept_event idle _ _ _ _
  unfold State.arriveSense
  dsimp only
  split
  · rfl
  · split
    · exact checked _ _
    · rfl

theorem State.arrive_event (idle : s.work = none) (words : List Word) : (s.arrive words).event = s.event := by
  have manage : (s.arriveManage words).event = s.event := by
    unfold State.arriveManage
    split
    · exact s.offer_event _
    · rfl
  unfold State.arrive
  split
  · split
    · split
      · exact s.arriveSense_event idle words
      · split
        · exact manage
        · rfl
    · rfl
  · rfl

@[simp] theorem State.driveSent_event : s.driveSent.event = s.event := by
  unfold State.driveSent
  split <;> rfl

@[simp] theorem State.replySent_event : s.replySent.event = s.event := by
  unfold State.replySent
  split
  · split <;> rfl
  · rfl
  · rfl

/-! ### The requests -/

@[simp] theorem State.refuseMalformed_event : s.refuseMalformed.event = s.event := by
  unfold State.refuseMalformed
  split
  · rfl
  · split
    · exact State.answer_event _ _ _ _
    · rfl

@[simp] theorem State.readSetting_event (r : Request) : (s.readSetting r).event = s.event := by
  unfold State.readSetting
  split
  · exact State.answer_event _ _ _ _
  · split <;> exact State.answer_event _ _ _ _

@[simp] theorem State.settleWrite_event (r : Request) (w : Written) : (s.settleWrite r w).event = s.event := by
  cases w <;> exact State.answer_event _ _ _ _

@[simp] theorem State.commitNow_event (r : Request) : (s.commitNow r).event = s.event := by
  unfold State.commitNow
  split
  · exact State.answer_event _ _ _ _
  · split
    · exact State.takeCommit_event _ r
    · rfl

@[simp] theorem State.commitSync_event (r : Request) : (s.commitSync r).event = s.event := by
  unfold State.commitSync
  split
  · exact State.answer_event _ _ _ _
  · exact State.event_of_work _ Work.closes_bar rfl

theorem State.forFeeder_event (r : Request) {act : Feeder → State} (h : ∀ f, (act f).event = s.event) :
    (s.forFeeder r act).event = s.event := by
  unfold State.forFeeder
  split
  · exact h _
  · exact State.answer_event _ _ _ _

@[simp] theorem State.enlist_event (r : Request) (f : Feeder) : (s.enlist r f).event = s.event := by
  unfold State.enlist
  repeat' split
  all_goals exact State.answer_event _ _ _ _

@[simp] theorem State.retire_event (r : Request) (f : Feeder) : (s.retire r f).event = s.event := by
  unfold State.retire
  repeat' split
  all_goals exact State.answer_event _ _ _ _

@[simp] theorem State.forceBypass_event (r : Request) (f : Feeder) : (s.forceBypass r f).event = s.event := by
  have locked : (s.lockFeeder f).event = s.event := State.event_of_work _ (Work.closes_bypass f) rfl
  unfold State.forceBypass
  split
  · exact (State.answer_event _ _ _ _).trans locked
  · split <;> exact State.answer_event _ _ _ _

@[simp] theorem State.writeCounter_event (r : Request) : (s.writeCounter r).event = s.event := by
  unfold State.writeCounter
  split <;> exact State.answer_event _ _ _ _

@[simp] theorem State.readEvent_event (r : Request) : (s.readEvent r).event = s.event := by
  unfold State.readEvent
  split <;> exact State.answer_event _ _ _ _

/-- A closed record released leaves the open one (R167). -/
@[simp] theorem State.releaseEvent_event (r : Request) : (s.releaseEvent r).event = s.event := by
  unfold State.releaseEvent
  split <;> exact State.answer_event _ _ _ _

@[simp] theorem State.echoRequest_event (r : Request) : (s.echoRequest r).event = s.event := by
  unfold State.echoRequest
  split
  · split
    · exact State.setEcho_event _ _ _
    · rfl
  · exact State.answer_event _ _ _ _

@[simp] theorem State.saveImage_event : s.saveImage.event = s.event := rfl

@[simp] theorem State.endSave_event (result : Result) : (s.endSave result).event = s.event := by
  unfold State.endSave
  split
  · exact State.answer_event _ _ _ _
  · rfl

@[simp] theorem State.pageWritten_event : s.pageWritten.event = s.event := by
  unfold State.pageWritten
  split
  · rfl
  · split
    · exact State.endSave_event _ _
    · rfl

end

end Sys2Proof.Machine
end

section
/-! A record is open exactly in an event and in the cell that ends it: what a cell's work, a QUIET entry and a reset keep of it, and
that every step does (R49, R55, R57, R158, R160, R161, R168, R188). -/
open Sys2Proof Sys2Proof.Machine
namespace Sys2Proof.Machine

/-! ### The sag state's steps in and out of an event -/

/-- A settling enters the event with the confirmation mark alone, and leaves it with the event-end mark alone. -/
structure Settled.marksEvent (before : Bool) (x : Settled) : Prop where
  recorded : (before || x.marks.confirmation) = (x.monitor.sag.inEvent || x.marks.eventEnd)
  ended : x.marks.eventEnd = true → x.monitor.sag.inEvent = false

/-- A settling with neither mark keeps the sag state in the event or out of it. -/
theorem Settled.marksEvent_of_going {before : Bool} {x : Settled} (confirmation : x.marks.confirmation = false)
    (going : x.marks.eventEnd = false) (same : x.monitor.sag.inEvent = before) : x.marksEvent before := by
  constructor
  · rw [confirmation, going, same]
  · rw [going]
    exact nofun

section
variable (b : Bank) (jump : Int) (m : Monitor)

/-- The confirmation enters SAG (R49). -/
theorem Monitor.confirm_marksEvent (before : Bool) : (m.confirm b jump).marksEvent before :=
  ⟨Bool.or_true before, nofun⟩

/-- The event's end enters NORMAL (R55). -/
theorem Monitor.endEvent_marksEvent (marks : Marks) : (m.endEvent b marks).marksEvent true := ⟨rfl, fun _ => rfl⟩

theorem Monitor.publish_sag : (m.publish b).sag = m.sag := by rw [Monitor.publish_eq]

theorem Monitor.settleAcquiring_marksEvent : (m.settleAcquiring b).marksEvent false := by
  refine Settled.marksEvent_of_going rfl rfl ?_
  change SagState.inEvent (if b.acquireCells ≤ m.acquireCount + 1 then .normal else .acquiring) = false
  split <;> rfl

theorem Monitor.settleNormal_marksEvent (deviates : Bool) (sag : m.sag.inEvent = false) :
    (m.settleNormal b deviates jump).marksEvent false := by
  unfold Monitor.settleNormal
  split
  · split
    · exact Settled.marksEvent_of_going rfl rfl rfl
    · exact Monitor.confirm_marksEvent _ _ _ _
  · exact Settled.marksEvent_of_going rfl rfl sag

theorem Monitor.settleSuspect_marksEvent (deviates : Bool) (sag : m.sag.inEvent = false) :
    (m.settleSuspect b deviates jump).marksEvent false := by
  unfold Monitor.settleSuspect
  split
  · split
    · exact Monitor.confirm_marksEvent _ _ _ _
    · exact Settled.marksEvent_of_going rfl rfl sag
  · exact Settled.marksEvent_of_going rfl rfl rfl

theorem Monitor.settleSag_marksEvent (sag : m.sag.inEvent = true) : (m.settleSag b jump).marksEvent true := by
  unfold Monitor.settleSag
  dsimp only
  split
  · split
    · exact Monitor.endEvent_marksEvent _ _ _
    · exact Settled.marksEvent_of_going rfl rfl rfl
  · exact Settled.marksEvent_of_going rfl rfl ((congrArg SagState.inEvent (Monitor.publish_sag _ _)).trans sag)

theorem Monitor.settleRecovering_marksEvent (sag : m.sag.inEvent = true) : (m.settleRecovering b jump).marksEvent true := by
  unfold Monitor.settleRecovering
  dsimp only
  split
  · split
    · exact Monitor.endEvent_marksEvent _ _ _
    · exact Settled.marksEvent_of_going rfl rfl ((congrArg SagState.inEvent (Monitor.publish_sag _ _)).trans sag)
  · exact Settled.marksEvent_of_going rfl rfl (congrArg SagState.inEvent (Monitor.publish_sag _ _))

theorem Monitor.settle_marksEvent (deviates : Bool) : (m.settle b deviates jump).marksEvent m.sag.inEvent := by
  unfold Monitor.settle
  cases sag : m.sag with
  | acquiring => exact m.settleAcquiring_marksEvent b
  | normal => exact m.settleNormal_marksEvent b jump deviates (by rw [sag]; rfl)
  | suspect => exact m.settleSuspect_marksEvent b jump deviates (by rw [sag]; rfl)
  | sag => exact m.settleSag_marksEvent b jump (by rw [sag]; rfl)
  | recovering => exact m.settleRecovering_marksEvent b jump (by rw [sag]; rfl)

end

section
variable {s : State}

theorem State.settled_marksEvent (s : State) (w : Work) : (s.settled w).marksEvent s.monitor.sag.inEvent := by
  have settled := (s.measured w).settle_marksEvent w.bank (s.liveTracker w).jump (s.deviates w)
  rwa [← State.settled_eq, show (s.measured w).sag = s.monitor.sag from Monitor.measure_sag _ _ _ _] at settled

/-! ### The record opened and closed -/

/-- The confirmation opens a record (R158). -/
theorem State.recorderOpened_isSome (s : State) (w : Work) :
    (s.recorderOpened w).openRecord.isSome = (s.recorder.openRecord.isSome || (s.settled w).marks.confirmation) := by
  unfold State.recorderOpened
  split
  next confirms =>
    rw [confirms, Bool.or_true]
    rfl
  next going => rw [Bool.eq_false_iff.2 going, Bool.or_false]

theorem State.closeRecord_openRecord (s : State) (b : Bank) (cause : EndCause) :
    (s.closeRecord b cause).recorder.openRecord = none := by
  unfold State.closeRecord
  split
  · assumption
  · rfl

/-- The recorder's part of the last stage closes the record in the cell that ends the event, and else keeps it open (R159, R160). -/
theorem State.recordCell_isSome (s : State) (w : Work) :
    (s.recordCell w).recorder.openRecord.isSome = (s.recorder.openRecord.isSome && !w.marks.eventEnd) := by
  unfold State.recordCell
  split
  next ends => rw [State.closeRecord_openRecord, ends, Bool.not_true, Bool.and_false, Option.isSome_none]
  next going =>
    rw [Bool.eq_false_iff.2 going, Bool.not_false, Bool.and_true]
    exact Option.isSome_map

/-- Carried to its end, the work leaves no cell being worked (R11). -/
theorem State.finishWork_work (s : State) : s.finishWork.work = none := by
  cases hw : s.work with
  | none => rwa [State.finishWork_of_none hw]
  | some w =>
    cases stage : w.stage with
    | accepted =>
      obtain ⟨u, v, -, -, -, e⟩ := State.finishWork_through_gap (P := fun _ => True) (fun _ _ _ h => h) hw stage trivial
      rw [e]
      rfl
    | tracked => rw [State.finishWork_tracked hw stage]; rfl
    | referenced => rw [State.finishWork_eq hw, State.advanceTo_referenced hw stage]; rfl
    | engined => rw [State.finishWork_engined hw stage]; rfl

namespace EventView.sound

theorem frame {t : State} (h : s.event.sound) (event : t.event = s.event := by simp) : t.event.sound := event ▸ h

/-- With no event and no cell that ends one, no record is open. -/
theorem quiet {t : State} (recorder : t.recorder.openRecord = none) (monitor : t.monitor.sag = .acquiring) (idle : t.work = none) :
    t.event.sound := by
  rw [State.event, recorder, monitor, idle]
  exact ⟨rfl, nofun⟩

/-! ### The work of a cell -/

/-- The first stage opens the record in the confirmation cell, and leaves it open in the cell that ends the event (R158, R160). -/
theorem trackCell (h : s.event.sound) {w : Work} (hw : s.work = some w) (accepted : w.stage = .accepted) :
    (s.trackCell w).event.sound := by
  have begun : s.work.any Work.closes = false := by rw [hw, Option.any_some, Work.closes, accepted]; rfl
  have recorded : s.recorder.openRecord.isSome = s.monitor.sag.inEvent := by
    refine h.recorded.trans ?_
    rw [show s.event.closing = false from begun, Bool.or_false]
    rfl
  obtain ⟨opens, ended⟩ := s.settled_marksEvent w
  refine ⟨?_, ended⟩
  calc (s.recorderOpened w).openRecord.isSome
    _ = (s.monitor.sag.inEvent || (s.settled w).marks.confirmation) := by rw [s.recorderOpened_isSome, recorded]
    _ = ((s.settled w).monitor.sag.inEvent || (s.settled w).marks.eventEnd) := opens

theorem engageCell (h : s.event.sound) {w : Work} (hw : s.work = some w) (begun : w.stage ≠ .accepted) :
    (s.engageCell w).event.sound := by
  refine h.frame ?_
  simp [State.event, State.engageCell, Work.closes, hw, begun]

theorem verifyCell (h : s.event.sound) {w : Work} (hw : s.work = some w) (begun : w.stage ≠ .accepted) :
    (s.verifyCell w).event.sound := by
  refine h.frame ?_
  simp [State.event, State.verifyCell, State.appendHistories, Work.closes, hw, begun]

/-- The last stage closes the record where the cell ends the event (R160). -/
theorem finishCell (h : s.event.sound) {w : Work} (hw : s.work = some w) (begun : w.stage ≠ .accepted) :
    (s.finishCell w).event.sound := by
  have closing : s.event.closing = w.marks.eventEnd := by simp [State.event, Work.closes, hw, begun]
  have inEvent : (s.finishCell w).monitor.sag = s.monitor.sag := by rw [s.sameMeasures_finishCell w]
  obtain ⟨recorded, ended⟩ := h
  rw [closing] at recorded ended
  refine ⟨?_, nofun⟩
  calc (s.finishCell w).recorder.openRecord.isSome
    _ = (s.event.recorded && !w.marks.eventEnd) := by rw [State.finishCell_recorder, s.recordCell_isSome]; rfl
    _ = s.event.inEvent := by
      rw [recorded]
      cases ends : w.marks.eventEnd with
      | true => simp [ended ends]
      | false => simp
    _ = ((s.finishCell w).monitor.sag.inEvent || false) := by rw [inEvent, Bool.or_false]; rfl

theorem advance (h : s.event.sound) : s.advance.event.sound := by
  unfold State.advance
  split
  · exact h
  next w hw =>
    split
    next accepted =>
      split
      · exact h.trackCell hw accepted
      · exact h.frame ((State.settleSwitch_event _).trans (s.workMissing_event hw))
    next stage => exact h.engageCell hw (by rw [stage]; exact nofun)
    next stage => exact h.verifyCell hw (by rw [stage]; exact nofun)
    next stage => exact h.finishCell hw (by rw [stage]; exact nofun)

theorem workTo (h : s.event.sound) (p : WorkPoint) : (s.workTo p).event.sound :=
  State.workTo_keeps (P := fun u => u.event.sound) (fun _ hu => hu.advance) p h

theorem finishWork (h : s.event.sound) : s.finishWork.event.sound := h.workTo _

theorem comesAbout (x : Occurrence) (h : s.event.sound) : (State.comesAbout x s).event.sound := by
  unfold State.comesAbout
  split
  · exact finishWork (s := { s with came := [] }) h
  · exact h

/-! ### QUIET entries and resets -/

/-- A QUIET entry closes the record and leaves the event (R57, R161). -/
theorem quietEntry (idle : s.work = none) : s.quietEntry.event.sound := by
  have blocks : s.quietBlocks.event.sound := by
    refine quiet (State.closeRecord_openRecord _ _ _) ?_ ?_
    · rw [State.quietBlocks_monitor]
      rfl
    · simpa [State.quietBlocks] using idle
  rw [State.quietEntry_eq]
  rcases s.quietBlocks.quietCommit_cases with e | ⟨r, e⟩ <;> rw [e]
  · exact blocks
  · exact blocks.frame

/-- A management reset drops the open record (R188). -/
theorem carryDue (h : s.event.sound) : s.carryDue.event.sound := by
  have reset : s.manageValues.event.sound := quiet rfl rfl rfl
  unfold State.carryDue
  split
  · exact h
  · exact reset.frame (State.autoEnlist_event _)
  · exact h.frame

/-! ### Every command and every step -/

theorem ite {c : Prop} [Decidable c] {t : State} (hs : s.event.sound) (ht : t.event.sound) :
    (if c then s else t).event.sound := by
  split
  · exact hs
  · exact ht

/-- A command acts on a state that has carried out what was due. -/
theorem ready {t : State} (h : s.event.sound) {act : State → State} (hact : ∀ u, u.event.sound → (act u).event.sound)
    (e : (Host.Outcome.next (s.ready act) : Host.Outcome State Fault Refusal) = .next t) : t.event.sound := by
  obtain rfl := Host.Outcome.next.inj e
  unfold State.ready
  split
  · exact h
  · exact hact _ h.carryDue

theorem readyRequest {t : State} (h : s.event.sound) (c : Command) {act : Request → State → State}
    (hact : ∀ r u, (act r u).event = u.event)
    (e : (Host.Outcome.next (s.ready fun u => u.request c act) : Host.Outcome State Fault Refusal) = .next t) : t.event.sound :=
  h.ready (fun u hu => State.request_keeps (P := fun v => v.event.sound) hu c fun r _ => hu.frame (hact r (u.take r))) e

theorem readyBetween {t : State} (h : s.event.sound) (c : Command) {act : Request → State → State}
    (hact : ∀ r u, (act r u).event = u.event)
    (e : (Host.Outcome.next (s.ready fun u => u.requestBetween c act) : Host.Outcome State Fault Refusal) = .next t) :
    t.event.sound :=
  h.ready (fun u hu => State.requestBetween_keeps (P := fun v => v.event.sound) hu c fun r _ =>
    (State.toBetween_keeps (P := fun v => v.event.sound) (fun _ hv => hv.advance) hu).frame (hact r (u.toBetween.take r))) e

theorem exec {c : Instr} {t : State} (h : s.event.sound) (e : exec c s = .next t) : t.event.sound := by
  cases c
  case cellArrival words p =>
    exact h.ready (fun u hu => (hu.finishWork.frame (u.finishWork.arrive_event u.finishWork_work words)).workTo p) e
  case acquireEnd | confirmation | classificationPoint | eventEnd | burstTimerExpiry | releaseEnd | pathCheckVerdict
      | verifyFailure | mapChangeAbandon | commitTakesEffect | commitExpired | imageCommit =>
    exact h.ready (fun _ => comesAbout _) e
  case quietTimerExpiry => exact h.ready (fun u hu => ite (quietEntry u.finishWork_work) hu) e
  case selfTimedCell => exact h.ready (fun u hu => ite (s := u.selfTimed) hu hu) e
  case driveCellSent | replySent | malformed => exact h.ready (fun _ hu => hu.frame) e
  case readSetting | writeSetting | loadEnvelope | loadResponse | commitNow | commitSync | readCounters | writeCounter
      | readEvent | releaseEvent | readLive | setEcho | saveImage =>
    exact h.readyRequest _ (fun _ _ => by simp) e
  case enquire | discardShadow | clearFlags | setReport =>
    exact h.readyRequest _ (fun _ _ => by exact State.answer_event _ _ _ _) e
  case deviceReset => exact h.readyRequest _ (fun _ u => u.buffer_event _) e
  case enlist => exact h.readyBetween _ (fun r u => u.forFeeder_event r fun f => u.enlist_event r f) e
  case retire => exact h.readyBetween _ (fun r u => u.forFeeder_event r fun f => u.retire_event r f) e
  case forceBypass => exact h.readyRequest _ (fun r u => u.forFeeder_event r fun f => u.forceBypass_event r f) e
  case savePageAck => exact h.ready (fun u hu => ite (s := u.pageWritten) hu.frame hu) e
  case savePollTimeout => exact h.ready (fun u hu => ite (s := u.endSave _) hu.frame hu) e
  case managementReset => exact h.ready (fun _ hu => hu) e
  case powerOnReset => exact Host.Outcome.next.inj e ▸ quiet (t := s.powerOn) rfl rfl rfl
  case resetRelease straps => exact Host.Outcome.next.inj e ▸ ite (s := s.release straps) h h.carryDue
  case imageReadComplete a => exact h.ready (fun u hu => ite (s := u.readEnds a) hu.frame hu) e

theorem step {t : State} (h : s.event.sound) (e : step s = .next t) : t.event.sound := by
  cases hp : s.pending with
  | nil => exact h.ready (fun _ hu => hu.finishWork) (step_of_nil hp ▸ e)
  | cons c rest => exact exec (s := { s with pending := rest }) h (step_of_cons hp ▸ e)

end EventView.sound
end

/-- Settles O56: the first stage of a cell's work opens the record with the event, the last stage and a QUIET entry close it, a reset
drops it, and every other operation leaves the record and the event as they are. -/
theorem everyStepKeepsRecordSound : Obligations.EveryStepKeepsRecordSound := fun s t h e =>
  (recordSound_iff t).2 (((recordSound_iff s).1 h).step e)

end Sys2Proof.Machine
end

section
/-! READ_EVENT and RELEASE_EVENT: what the index or the number names, and the reply (R162, R165 to R167). -/
open Sys2Proof Sys2Proof.Machine
namespace Sys2Proof.Machine

section
variable {s : State} {r : Request}

/-! ### READ_EVENT -/

theorem exec_readEvent_of_requests (acts : s.acts) (h : s.requests .readEvent r) :
    exec .readEvent s = .next ((s.take r).readEvent r) :=
  congrArg Host.Outcome.next (State.ready_request acts h _)

/-- A record's place in the queue names it (R165). -/
theorem State.eventPayload_of_queued {k : Nat} {x : EventRecord} (small : k ≤ 15) (place : s.recorder.queue[k]? = some x) :
    s.eventPayload k = some (x.words x.cause.code) := by
  rw [State.eventPayload, if_neg (by omega), if_pos small, place]
  rfl

/-- Index 255 names the open record (R166). -/
theorem State.eventPayload_of_open {o : OpenRecord} (ho : s.recorder.openRecord = some o) :
    s.eventPayload 255 = some (s.openPayload o) := by
  rw [State.eventPayload, if_pos rfl, ho]
  rfl

/-- Every other index names no record (R165, R166). -/
theorem State.eventPayload_of_empty {k : Nat}
    (h : (k ≤ 15 ∧ s.recorder.queue.length ≤ k) ∨ (16 ≤ k ∧ k ≠ 255) ∨ (k = 255 ∧ s.recorder.openRecord = none)) :
    s.eventPayload k = none := by
  unfold State.eventPayload
  rcases h with ⟨small, past⟩ | ⟨large, other⟩ | ⟨rfl, closed⟩
  · rw [if_neg (by omega), if_pos small, List.getElem?_eq_none past]
    rfl
  · rw [if_neg other, if_neg (by omega)]
  · rw [if_pos rfl, closed]
    rfl

/-- A READ_EVENT whose index names a record is answered with its payload (R165). -/
theorem State.answered_readEvent_done {payload : List Word} (h : s.eventPayload (r.word 0).toNat = some payload) :
    answered s ((s.take r).readEvent r) r .done payload := by
  have taken : (s.take r).eventPayload (r.word 0).toNat = some payload := h
  rw [State.readEvent, taken]
  exact s.answered_answer r .done payload

theorem State.answered_readEvent_empty (h : s.eventPayload (r.word 0).toNat = none) :
    answered s ((s.take r).readEvent r) r .empty [] := by
  have taken : (s.take r).eventPayload (r.word 0).toNat = none := h
  rw [State.readEvent, taken]
  exact s.answered_answer r .empty []

/-- The end cause's code, case by case (R165). -/
theorem EndCause.code_eq (c : EndCause) : c.code = if c = .recovered then 0 else 1 := by cases c <;> rfl

end

/-- Settles O43: the index names a queued record, the open one or none, and the reply carries what it names. -/
theorem readEventReturnsTheNamedRecord : Obligations.ReadEventReturnsTheNamedRecord := by
  intro s r k words acts requests index hwords
  obtain rfl : (r.word 0).toNat = k := index
  have payload : ∀ x cause, words x cause = x.words cause := hwords
  refine ⟨_, exec_readEvent_of_requests acts requests, fun x small place => ?queued, fun o last ho => ?opened, fun empty => ?none⟩
  case queued =>
    rw [payload, ← EndCause.code_eq]
    exact State.answered_readEvent_done (State.eventPayload_of_queued small place)
  case opened =>
    rw [payload]
    refine State.answered_readEvent_done ?_
    rw [last]
    exact State.eventPayload_of_open ho
  case none => exact State.answered_readEvent_empty (State.eventPayload_of_empty empty)

/-! ### RELEASE_EVENT -/

section
variable {s : State} {r : Request}

theorem exec_releaseEvent_of_requests (acts : s.acts) (h : s.requests .releaseEvent r) :
    exec .releaseEvent s = .next ((s.take r).releaseEvent r) :=
  congrArg Host.Outcome.next (State.ready_request acts h _)

/-- A RELEASE_EVENT that carries the oldest record's number removes that record (R167). -/
theorem State.answered_releaseEvent_done (h : s.recorder.namesOldest (r.word 0).toNat = true) :
    answered s.dropOldest ((s.take r).releaseEvent r) r .done s.dropOldest.recorder.releasePayload := by
  have names : (s.take r).recorder.namesOldest (r.word 0).toNat = true := h
  rw [State.releaseEvent, if_pos names]
  exact s.dropOldest.answered_answer r .done _

theorem State.answered_releaseEvent_stale (h : s.recorder.namesOldest (r.word 0).toNat = false) :
    answered s ((s.take r).releaseEvent r) r .stale s.recorder.releasePayload := by
  have names : (s.take r).recorder.namesOldest (r.word 0).toNat = false := h
  rw [State.releaseEvent, names, if_neg Bool.false_ne_true]
  exact s.answered_answer r .stale _

end

/-- Settles O44: the oldest record is removed exactly where it carries the number, and the payload is formed of what is left. -/
theorem releaseEventRemovesOnlyTheOldest : Obligations.ReleaseEventRemovesOnlyTheOldest := by
  intro s r n acts requests number
  obtain rfl : (r.word 0).toNat = n := number
  refine ⟨_, exec_releaseEvent_of_requests acts requests, fun x rest queue names => ?done, fun other => ?stale⟩
  case done =>
    have oldest : s.recorder.namesOldest (r.word 0).toNat = true := by simp [Recorder.namesOldest, queue, names]
    have dropped : s.dropOldest = { s with recorder := { s.recorder with queue := rest } } := by
      rw [State.dropOldest, queue]
      rfl
    have done := State.answered_releaseEvent_done oldest
    rwa [dropped] at done
  case stale =>
    refine State.answered_releaseEvent_stale ?_
    rcases other with none | ⟨x, rest, queue, differs⟩
    · simp [Recorder.namesOldest, none]
    · simp [Recorder.namesOldest, queue, differs]

end Sys2Proof.Machine
end

section
/-! The value a write stores and the settings catalogue: what is stored lies in its item's range and is read back, and a write keeps
a bank in the catalogue (R75, R76, R176, R178). -/
open Sys2Proof Sys2Proof.Machine
namespace Sys2Proof.Machine

/-! ### The value stored -/

theorem clampNat_within {low high : Nat} (h : low ≤ high) (v : Nat) : low ≤ clampNat low high v ∧ clampNat low high v ≤ high := by
  unfold clampNat
  omega

/-- Every device item but two stores the clamped value (R178). -/
theorem DeviceItem.stored_clamped {d : DeviceItem} (housekeeping : d ≠ .housekeepingAverage) (enlist : d ≠ .autoEnlist) (v : Nat) :
    d.stored v = clampNat d.low d.high v := by
  cases d
  case housekeepingAverage => exact absurd rfl housekeeping
  case autoEnlist => exact absurd rfl enlist
  all_goals rfl

/-- Every feeder item but PROVISIONAL_MODE stores the clamped value (R178). -/
theorem FeederItem.stored_clamped {i : FeederItem} (h : i ≠ .provisionalMode) (v : Nat) : i.stored v = clampNat i.low i.high v := by
  cases i
  case provisionalMode => exact absurd rfl h
  all_goals rfl

theorem DeviceItem.low_le_high (d : DeviceItem) : d.low ≤ d.high := by cases d <;> decide

theorem FeederItem.low_le_high (i : FeederItem) : i.low ≤ i.high := by cases i <;> decide

/-- HOUSEKEEPING_AVERAGE stores the power of two not above the value, from 1 to 8 (R178). -/
theorem DeviceItem.stored_housekeepingAverage (v : Nat) :
    (v < 2 ∧ DeviceItem.housekeepingAverage.stored v = 1) ∨ (2 ≤ v ∧ v < 4 ∧ DeviceItem.housekeepingAverage.stored v = 2)
      ∨ (4 ≤ v ∧ v < 8 ∧ DeviceItem.housekeepingAverage.stored v = 4) ∨ (8 ≤ v ∧ DeviceItem.housekeepingAverage.stored v = 8) := by
  unfold DeviceItem.stored
  dsimp only
  repeat' split
  all_goals omega

/-- PROVISIONAL_MODE stores 0 and 1 as they are, and NONE for any other value (R76). -/
theorem FeederItem.stored_provisionalMode (v : Nat) : FeederItem.provisionalMode.stored v = if v = 0 ∨ v = 1 then v else 4 :=
  match v with
  | 0 => rfl
  | 1 => rfl
  | n + 2 => (if_neg (by omega)).symm

theorem DeviceItem.stored_within (d : DeviceItem) (v : Nat) : d.low ≤ d.stored v ∧ d.stored v ≤ d.high := by
  by_cases housekeeping : d = .housekeepingAverage
  · subst housekeeping
    have stored := DeviceItem.stored_housekeepingAverage v
    change 1 ≤ _ ∧ _ ≤ 8
    omega
  · by_cases enlist : d = .autoEnlist
    · subst enlist
      change 0 ≤ v % 16 ∧ v % 16 ≤ 15
      omega
    · rw [DeviceItem.stored_clamped housekeeping enlist]
      exact clampNat_within d.low_le_high v

theorem FeederItem.stored_within (i : FeederItem) (v : Nat) : i.low ≤ i.stored v ∧ i.stored v ≤ i.high := by
  by_cases provisional : i = .provisionalMode
  · subst provisional
    rw [FeederItem.stored_provisionalMode]
    change 0 ≤ _ ∧ _ ≤ 4
    split <;> omega
  · rw [FeederItem.stored_clamped provisional]
    exact clampNat_within i.low_le_high v

/-! ### The value read back -/

/-- An item written reads the value written, every other device item what it read before. -/
theorem Bank.read_write (b : Bank) (d e : DeviceItem) (v : Nat) : (b.write d v).read e = if e = d then v else b.read e := by
  cases d <;> cases e <;> rfl

/-- PROVISIONAL_MODE keeps a mode, so it reads the code of the mode that the value written names (R76). -/
theorem FeederBank.read_write (b : FeederBank) (i j : FeederItem) (v : Nat) :
    (b.write i (i.stored v)).read j = if j = i then i.stored v else b.read j := by
  have provisional : (Mode.ofProvisionalCode (FeederItem.provisionalMode.stored v)).code = FeederItem.provisionalMode.stored v :=
    match v with
    | 0 | 1 | _ + 2 => rfl
  cases i <;> cases j
  case provisionalMode.provisionalMode => exact provisional
  all_goals rfl

/-- Settles O32. -/
theorem storedValuesLieInTheCatalogue : Obligations.StoredValuesLieInTheCatalogue := by
  refine ⟨DeviceItem.stored_within, FeederItem.stored_within, fun d v housekeeping enlist =>
    DeviceItem.stored_clamped housekeeping enlist v, fun i v provisional => FeederItem.stored_clamped provisional v, fun _ => rfl,
    fun v => ?_, FeederItem.stored_provisionalMode, fun b d e v => b.read_write d e _, FeederBank.read_write⟩
  rcases DeviceItem.stored_housekeepingAverage v with ⟨range, stored⟩ | ⟨low, high, stored⟩ | ⟨low, high, stored⟩ | ⟨low, stored⟩ <;>
    rw [stored] <;> refine ⟨by omega, by omega, by simp⟩

/-! ### A write keeps the catalogue -/

theorem FeederBank.inCatalogue.write {b : FeederBank} (h : b.inCatalogue) (i : FeederItem) (v : Nat) :
    (b.write i (i.stored v)).inCatalogue := by
  obtain ⟨read, provisional, rows⟩ := h
  refine ⟨fun j => ?_, ?_, by rwa [FeederBank.envelope_write, FeederBank.response_write]⟩
  · rw [FeederBank.read_write]
    split
    next same => exact same ▸ i.stored_within v
    next => exact read j
  · cases i
    case provisionalMode =>
      match v with
      | 0 => exact .inl rfl
      | 1 => exact .inr (.inl rfl)
      | _ + 2 => exact .inr (.inr rfl)
    all_goals exact provisional

theorem Bank.inCatalogue.write {b : Bank} (h : b.inCatalogue) (d : DeviceItem) (v : Nat) : (b.write d (d.stored v)).inCatalogue := by
  obtain ⟨read, average, feeders⟩ := h
  refine ⟨fun e => ?_, ?_, fun f => by rw [Bank.feeder_write]; exact feeders f⟩
  · rw [Bank.read_write]
    split
    next same => exact same ▸ d.stored_within v
    next => exact read e
  · have stored := DeviceItem.stored_housekeepingAverage v
    cases d
    case housekeepingAverage =>
      change DeviceItem.housekeepingAverage.stored v = 1 ∨ DeviceItem.housekeepingAverage.stored v = 2
        ∨ DeviceItem.housekeepingAverage.stored v = 4 ∨ DeviceItem.housekeepingAverage.stored v = 8
      omega
    all_goals exact average

theorem FeederBank.inCatalogue.envelope {b : FeederBank} (h : b.inCatalogue) {rows : List EnvelopeRow} (nonempty : 1 ≤ rows.length)
    (few : rows.length ≤ 8) (fits : ∀ x ∈ rows, x.duration ≤ 65535 ∧ x.floor ≤ 1000) : { b with envelope := rows }.inCatalogue := by
  obtain ⟨read, provisional, -, -, -, response⟩ := h
  exact ⟨fun i => (by cases i <;> rfl : { b with envelope := rows }.read i = b.read i) ▸ read i, provisional, nonempty, few, fits, response⟩

theorem FeederBank.inCatalogue.response {b : FeederBank} (h : b.inCatalogue) {entries : List ResponseEntry}
    (named : ∀ x ∈ entries, x.mode ≠ .none) : { b with response := writeEntries b.response entries }.inCatalogue := by
  obtain ⟨read, provisional, nonempty, few, fits, length, modes⟩ := h
  refine ⟨fun i => ?_, provisional, nonempty, few, fits, (length_writeEntries _ _).trans length, fun m hm => ?_⟩
  · cases i <;> exact read _
  · rcases mem_writeEntries hm with old | ⟨x, hx, rfl⟩
    · exact modes m old
    · exact named x hx

/-- A record's request passed the command table, or is tagged MALFORMED (R191). -/
theorem Request.tabled_recordRequest (command : Word) (payload : List Word) : (recordRequest command payload).tabled := by
  simp [Request.tabled, recordRequest]

theorem Request.tabled_requestOf (words : List Word) : (requestOf words).tabled := by simp [Request.tabled, requestOf]

/-- A request that is carried out as a command passed the command table's row of it, where it passed the table at all (R16). -/
theorem Request.tabled.row {r : Request} (h : r.tabled) {c : Command} (hc : r.command = some c) : c.row r.target r.payload := by
  unfold Request.command at hc
  split at hc
  · cases hc
  next sound =>
    have allowed := h (Bool.eq_false_iff.2 sound)
    rw [commandTableAllows, hc, Bool.and_eq_true] at allowed
    exact (c.row_iff _ _).1 allowed

/-- A LOAD_ENVELOPE that passed the command table has 1 to 8 rows (R16, R75). -/
theorem length_envelopeRows_of_row {target : BitVec 4} {payload : List Word} (h : Command.loadEnvelope.row target payload) :
    1 ≤ (envelopeRows payload.tail).length ∧ (envelopeRows payload.tail).length ≤ 8 := by
  obtain ⟨-, count, rest, rfl, low, high, length⟩ := h
  have rows : (envelopeRows rest).length = count.toNat := length_envelopeRows (by simp only [List.length_cons] at length; omega)
  rw [List.tail_cons, rows]
  exact ⟨low, high⟩

/-- A write stores a bank of the catalogue where it finds one (R75, R76, R178). -/
theorem Bank.inCatalogue.written {b c : Bank} {r : Request} {result : Result} {payload : List Word} (h : b.inCatalogue)
    (tabled : r.tabled) (written : b.written r = .stored c result payload) : c.inCatalogue := by
  unfold Bank.written at written
  split at written
  next =>
    unfold Bank.writeSetting at written
    dsimp only at written
    split at written
    · cases written
    · cases written
    · cases written
    · split at written
      · cases written
        exact h.write _ _
      · cases written
    · split at written
      · cases written
        exact Bank.inCatalogue_setFeeder h ((h.2.2 _).write _ _)
      · cases written
  next command =>
    unfold Bank.loadEnvelope at written
    split at written
    · cases written
    · cases written
      obtain ⟨nonempty, few⟩ := length_envelopeRows_of_row (tabled.row command)
      exact Bank.inCatalogue_setFeeder h ((h.2.2 _).envelope nonempty few (envelopeRows_mem _))
  next =>
    unfold Bank.loadResponse at written
    split at written
    next read =>
      cases written
      exact Bank.inCatalogue_setFeeder h ((h.2.2 _).response fun x hx => (responseEntries_mem read x hx).2)
    · cases written
  next => cases written

theorem Bank.default_inCatalogue : Bank.default.inCatalogue := by
  have feeder : FeederBank.default.inCatalogue := by
    refine ⟨fun i => ?_, .inl rfl, ?_⟩
    · cases i <;> decide
    · decide
  refine ⟨fun d => ?_, .inr (.inr (.inl rfl)), fun f => ?_⟩
  · cases d <;> decide
  · cases f <;> exact feeder

end Sys2Proof.Machine
end

section
/-! What one command may do to the two banks and to the requests the part holds, with the waiting commands left alone: said once for
every operation, and the invariants of the banks that follow from it (R175, R176, R180, R192). -/
open Sys2Proof Sys2Proof.Machine
namespace Sys2Proof.Machine

/-! ### The moves of the banks -/

/-- What the invariants of the banks read of a state: the banks, whether a commit of the shadow bank waits (a deferred one, or an
image's, R183, R192), and the requests queued or in flight; and the commands that wait. -/
structure BankView where
  active : Bank
  shadow : Bank
  awaits : Prop
  holds : Request → Prop
  pending : List Instr

def State.banks (s : State) : BankView where
  active := s.tables.active
  shadow := s.tables.shadow
  awaits := s.management.engine = .deferred ∨ s.loader.state = .waiting ∨ s.due = some .imageCommit
  holds r := r ∈ s.ingress.queue ∨ s.management.inFlight = some r
  pending := s.pending

/-- What may become of the banks between v and w. -/
inductive BankView.Change (v w : BankView) : Prop
  /-- they stand; a commit comes to wait only for a shadow bank that passes validation (R180) -/
  | stand (active : w.active = v.active) (shadow : w.shadow = v.shadow) (awaits : w.awaits → v.awaits ∨ v.shadow.valid = true)
  /-- a commit that waited, or that passed validation, takes effect (R185, R192) -/
  | commit (passed : v.awaits ∨ v.shadow.valid = true) (active : w.active = v.shadow) (shadow : w.shadow = v.shadow)
  /-- the shadow bank becomes a copy of the active one (R179, R188) -/
  | discard (active : w.active = v.active) (shadow : w.shadow = v.active)
  /-- both hold the defaults (R190, R191) -/
  | default (active : w.active = Bank.default) (shadow : w.shadow = Bank.default)
  /-- a request held writes the shadow bank, and no commit waits (R175) -/
  | write (active : w.active = v.active) (idle : ¬ w.awaits) {r : Request} (held : v.holds r) {result : Result}
      {payload : List Word} (written : v.shadow.written r = .stored w.shadow result payload)
  /-- an image's records write the shadow bank, which passes validation (R191) -/
  | image (active : w.active = v.active) (valid : w.shadow.valid = true) {records : List Request}
      (tabled : ∀ r ∈ records, r.tabled) (applied : v.shadow.applyRecords records = some w.shadow)

/-- One move: a change of the banks, while a request not held before has passed the command table or is tagged MALFORMED (R16), and
the commands that wait stand. -/
structure BankView.Move (v w : BankView) : Prop where
  change : v.Change w
  arrived : ∀ r, w.holds r → v.holds r ∨ r.tabled
  pending : w.pending = v.pending

/-- The banks of t follow from those of s by moves. -/
def State.leads (s t : State) : Prop := Relation.ReflTransGen BankView.Move s.banks t.banks

/-- The view with further requests held. -/
def BankView.also (more : Request → Prop) (v : BankView) : BankView := { v with holds := fun r => v.holds r ∨ more r }

/-- A move may be made while further requests are held. -/
theorem BankView.Move.also {v w : BankView} (move : v.Move w) (more : Request → Prop) : (v.also more).Move (w.also more) := by
  refine ⟨?_, fun r held => ?_, move.pending⟩
  · cases move.change with
    | stand active shadow awaits => exact .stand active shadow awaits
    | commit passed active shadow => exact .commit passed active shadow
    | discard active shadow => exact .discard active shadow
    | default active shadow => exact .default active shadow
    | write active idle held written => exact .write active idle (.inl held) written
    | image active valid tabled applied => exact .image active valid tabled applied
  · rcases held with held | further
    · exact (move.arrived r held).imp .inl id
    · exact .inl (.inr further)

/-! ### What every move keeps -/

/-- The active bank passes validation, and so does the shadow bank while a commit of it waits (R175, R180). -/
def BankView.valid (v : BankView) : Prop := v.active.valid = true ∧ (v.awaits → v.shadow.valid = true)

/-- Both banks lie in the catalogue, and the requests held passed the command table or are tagged MALFORMED (R176, R16). -/
structure BankView.inCatalogue (v : BankView) : Prop where
  active : v.active.inCatalogue
  shadow : v.shadow.inCatalogue
  tabled : ∀ r, v.holds r → r.tabled

theorem banksSound_iff (s : State) : banksSound s ↔ s.banks.valid := Iff.rfl

theorem tablesInCatalogue_iff (s : State) : tablesInCatalogue s ↔ s.banks.inCatalogue := by
  constructor
  · rintro ⟨active, shadow, queued, inFlight⟩
    exact ⟨active, shadow, fun r held => held.elim (queued r) (inFlight r)⟩
  · rintro ⟨active, shadow, tabled⟩
    exact ⟨active, shadow, fun r queued => tabled r (.inl queued), fun r inFlight => tabled r (.inr inFlight)⟩

theorem BankView.valid.move {v w : BankView} (h : v.valid) (move : v.Move w) : w.valid := by
  obtain ⟨active, shadow⟩ := h
  have passes : v.awaits ∨ v.shadow.valid = true → v.shadow.valid = true := fun passed => passed.elim shadow id
  unfold BankView.valid
  cases move.change with
  | stand sameActive sameShadow awaits =>
    rw [sameActive, sameShadow]
    exact ⟨active, fun waits => passes (awaits waits)⟩
  | commit passed newActive sameShadow =>
    rw [newActive, sameShadow]
    exact ⟨passes passed, fun _ => passes passed⟩
  | discard sameActive newShadow =>
    rw [sameActive, newShadow]
    exact ⟨active, fun _ => active⟩
  | default newActive newShadow =>
    rw [newActive, newShadow]
    exact ⟨by decide, fun _ => by decide⟩
  | write sameActive idle =>
    rw [sameActive]
    exact ⟨active, fun waits => absurd waits idle⟩
  | image sameActive valid =>
    rw [sameActive]
    exact ⟨active, fun _ => valid⟩

/-- Records of an image keep a bank in the catalogue (R191). -/
theorem Bank.inCatalogue.applyRecords {b c : Bank} (h : b.inCatalogue) {records : List Request}
    (tabled : ∀ r ∈ records, r.tabled) (applied : b.applyRecords records = some c) : c.inCatalogue := by
  refine Bank.applyRecords_keeps (P := Bank.inCatalogue) (fun x y r hr hx one => ?_) h applied
  unfold Bank.applyRecord at one
  split at one
  next written =>
    cases one
    exact hx.written (tabled r hr) written
  · cases one

theorem BankView.inCatalogue.move {v w : BankView} (h : v.inCatalogue) (move : v.Move w) : w.inCatalogue := by
  obtain ⟨active, shadow, tabled⟩ := h
  have requests : ∀ r, w.holds r → r.tabled := fun r held => (move.arrived r held).elim (tabled r) id
  cases move.change with
  | stand sameActive sameShadow => exact ⟨sameActive ▸ active, sameShadow ▸ shadow, requests⟩
  | commit _ newActive sameShadow => exact ⟨newActive ▸ shadow, sameShadow ▸ shadow, requests⟩
  | discard sameActive newShadow => exact ⟨sameActive ▸ active, newShadow ▸ active, requests⟩
  | default newActive newShadow => exact ⟨newActive ▸ Bank.default_inCatalogue, newShadow ▸ Bank.default_inCatalogue, requests⟩
  | write sameActive _ held written => exact ⟨sameActive ▸ active, shadow.written (tabled _ held) written, requests⟩
  | image sameActive _ passed applied => exact ⟨sameActive ▸ active, shadow.applyRecords passed applied, requests⟩

theorem State.leads.keeps {P : BankView → Prop} (move : ∀ {v w : BankView}, P v → v.Move w → P w) {s t : State} (h : s.leads t)
    (hs : P s.banks) : P t.banks := by
  have reached : ∀ w, Relation.ReflTransGen BankView.Move s.banks w → P w := fun w moves => by
    induction moves with
    | refl => exact hs
    | tail _ last ih => exact move ih last
  exact reached _ h

/-! ### The records of an image -/

/-- The records of an image have the command table's check (R189, R191). -/
theorem recordsOf_tabled {n : Nat} {words : List Word} {records : List Request} (h : recordsOf n words = some records) :
    ∀ r ∈ records, r.tabled := by
  induction n generalizing words records with
  | zero =>
    cases words with
    | nil => cases h; exact nofun
    | cons => cases h
  | succ n ih =>
    match words with
    | [] => cases h; exact nofun
    | [_] => cases h
    | command :: length :: rest =>
      rw [recordsOf] at h
      split at h
      · obtain ⟨later, read, rfl⟩ := Option.map_eq_some_iff.1 h
        exact List.forall_mem_cons.2 ⟨Request.tabled_recordRequest _ _, ih read⟩
      · cases h

theorem Memory.imageBank_applied {m : Memory} {shadow bank : Bank} (h : m.imageBank shadow = some bank) :
    ∃ records : List Request, (∀ r ∈ records, r.tabled) ∧ shadow.applyRecords records = some bank := by
  unfold Memory.imageBank at h
  split at h
  · cases h
  · split at h
    · cases h
    next records read => exact ⟨records, recordsOf_tabled read, h⟩

/-! ### Operations that leave the banks -/

theorem State.buffer_inFlight (s : State) (r : Reply) (x : Request) :
    (s.buffer r).management.inFlight = some x → s.management.inFlight = some x := by
  unfold State.buffer
  split
  · simp only [State.chooseNext_management, Management.join]
    split
    · exact id
    · exact nofun
  · simp only [Management.hold]
    split
    · exact id
    · exact nofun

theorem State.mem_queue_take {s : State} {r x : Request} (h : x ∈ (s.take r).ingress.queue) : x ∈ s.ingress.queue := by
  unfold State.take at h
  dsimp only at h
  split at h
  · exact List.mem_of_mem_tail h
  · exact h

/-- The engine's next request is queued or in flight (R169). -/
theorem State.holds_nextRequest {s : State} {r : Request} (h : s.nextRequest = some r) : s.banks.holds r := by
  unfold State.nextRequest at h
  split at h
  · cases h
  · split at h
    · exact .inl (List.mem_of_mem_head? h)
    · split at h
      · cases h
      · exact .inr h
    all_goals cases h

namespace State.leads

variable {s t u : State}

theorem refl (s : State) : s.leads s := Relation.ReflTransGen.refl

theorem trans (h : s.leads t) (g : t.leads u) : s.leads u := Relation.ReflTransGen.trans h g

theorem single (change : s.banks.Change t.banks) (arrived : ∀ r, t.banks.holds r → s.banks.holds r ∨ r.tabled)
    (pending : t.pending = s.pending := by simp) : s.leads t :=
  Relation.ReflTransGen.single ⟨change, arrived, pending⟩

/-- A change of the banks while every request held was held before. Each difference is settled by the operations' frame lemmas where
it is not given. -/
theorem ofChange (change : s.banks.Change t.banks) (queue : ∀ r ∈ t.ingress.queue, r ∈ s.ingress.queue := by simp)
    (inFlight : ∀ r, t.management.inFlight = some r → s.management.inFlight = some r := by simp)
    (pending : t.pending = s.pending := by simp) : s.leads t :=
  single change (fun r held => .inl (held.imp (queue r) (inFlight r))) pending

/-- The banks stand, no commit comes to wait, and no request arrives. -/
theorem frame (tables : t.tables = s.tables := by simp)
    (engine : t.management.engine = .deferred → s.management.engine = .deferred := by simp)
    (loader : t.loader.state = .waiting → s.loader.state = .waiting := by simp)
    (due : t.due = some .imageCommit → s.due = some .imageCommit := by simp)
    (queue : ∀ r ∈ t.ingress.queue, r ∈ s.ingress.queue := by simp)
    (inFlight : ∀ r, t.management.inFlight = some r → s.management.inFlight = some r := by simp)
    (pending : t.pending = s.pending := by simp) : s.leads t :=
  ofChange (.stand (congrArg Tables.active tables) (congrArg Tables.shadow tables) fun waits =>
    .inl (waits.imp engine (Or.imp loader due))) queue inFlight pending

/-! ### Replies, commits and loads -/

theorem buffer (s : State) (r : Reply) : s.leads (s.buffer r) := frame (inFlight := s.buffer_inFlight r)

theorem answer (s : State) (r : Request) (result : Result) (payload : List Word) : s.leads (s.answer r result payload) :=
  buffer s _

theorem take (s : State) (r : Request) (held : s.banks.holds r) : s.leads (s.take r) :=
  single (.stand rfl rfl fun waits => .inl (.inr (waits.resolve_left nofun))) fun x => by
    rintro (queued | inFlight)
    · exact .inl (.inl (State.mem_queue_take queued))
    · exact .inl (Option.some.inj inFlight ▸ held)

/-- A request held in s may be taken after other operations, even where they have answered it (R130). -/
theorem retake (h : s.leads t) {r : Request} (held : s.banks.holds r) : s.leads (t.take r) := by
  have widened : Relation.ReflTransGen BankView.Move (s.banks.also s.banks.holds) (t.banks.also s.banks.holds) :=
    h.lift (BankView.also s.banks.holds) fun _ _ move => move.also _
  refine ((Relation.ReflTransGen.single ?_).trans widened).tail ?_
  · exact ⟨.stand rfl rfl .inl, fun x held => .inl (held.elim id id), rfl⟩
  · refine ⟨.stand rfl rfl fun waits => .inl (.inr (waits.resolve_left nofun)), fun x => ?_, rfl⟩
    rintro (queued | inFlight)
    · exact .inl (.inl (.inl (State.mem_queue_take queued)))
    · exact .inl (.inr (Option.some.inj inFlight ▸ held))

theorem commitBank (s : State) (passed : s.banks.awaits ∨ s.tables.shadow.valid = true) : s.leads s.commitBank :=
  ofChange (.commit passed rfl rfl)

theorem autoEnlist (s : State) : s.leads s.autoEnlist := frame

theorem takeCommit (s : State) (r : Request) (passed : s.banks.awaits ∨ s.tables.shadow.valid = true) : s.leads (s.takeCommit r) :=
  ((commitBank s passed).trans frame).trans (answer (s.commitBank.note .commitTakesEffect) r _ _)

/-- The image committed leaves the loader IDLE and nothing due (R192). -/
theorem commitImage (s : State) (waits : s.banks.awaits) : s.leads s.commitImage := by
  unfold State.commitImage
  refine trans ?_ (autoEnlist _)
  exact (commitBank s (.inl waits)).trans (frame (loader := nofun) (due := nofun))

theorem failLoad (s : State) (outcome : LoadOutcome) : s.leads (s.failLoad outcome) := by
  unfold State.failLoad
  refine trans ?_ (autoEnlist _)
  exact ofChange (.default rfl rfl)

theorem loadImage (s : State) : s.leads s.loadImage := by
  unfold State.loadImage
  split
  · exact failLoad s _
  next bank made =>
    split
    next valid =>
      obtain ⟨records, tabled, applied⟩ := Memory.imageBank_applied made
      exact ofChange (.image rfl valid tabled applied) (fun _ => id) (fun _ => id) rfl
    · exact failLoad s _

theorem readEnds (s : State) (a : MemoryAnswer) : s.leads (s.readEnds a) := by
  cases a with
  | silent => exact failLoad s _
  | stored => exact loadImage s
  | replaced bytes => exact loadImage { s with memory := Memory.ofBytes bytes }

theorem powerOn (s : State) : s.leads s.powerOn :=
  ofChange (.default rfl rfl) (fun _ => id ∘ nofun) nofun

theorem manageReset (s : State) : s.leads s.manageReset := by
  unfold State.manageReset
  refine trans ?_ (autoEnlist _)
  exact ofChange (.discard rfl rfl) nofun nofun

theorem carryDue (s : State) : s.leads s.carryDue := by
  unfold State.carryDue
  split
  · exact refl s
  · exact manageReset s
  next due => exact commitImage s (.inr (.inr due))

theorem resetRelease (s : State) (straps : BitVec 2) : s.leads (if s.inReset then s.release straps else s.carryDue) := by
  split
  · exact frame (loader := nofun)
  · exact carryDue s

/-! ### The work of a cell -/

theorem ageCommit (s : State) (zero : Bool) : s.leads (s.ageCommit zero) := by
  by_cases deferred : s.management.engine = .deferred
  · have older : s.leads s.growOlder := frame (engine := id) (inFlight := fun _ => id)
    rcases s.ageCommit_cases zero with ⟨r, e⟩ | ⟨r, e⟩ | e | e <;> rw [e]
    · exact older.trans (takeCommit _ r (.inl (.inl deferred)))
    · exact older.trans (answer (s.growOlder.note _) r _ _)
    · exact older
    · exact refl s
  · rw [State.ageCommit_of_ne deferred]
    exact refl s

theorem waitImage (s : State) : s.leads s.waitImage := by
  unfold State.waitImage
  split
  next waits => exact commitImage s (.inr (.inl waits.1))
  next => exact refl s

theorem setEcho (s : State) (r : Request) (on : Bool) : s.leads (s.setEcho r on) := by
  unfold State.setEcho
  split
  · exact answer s _ _ _
  · exact answer { s with egress := { s.egress with echo := on } } _ _ _

theorem settleEcho (s : State) : s.leads s.settleEcho := by
  rcases s.settleEcho_cases with ⟨r, on, e⟩ | e <;> rw [e]
  · exact setEcho s r on
  · exact refl s

theorem endCell (s : State) (zero : Bool) : s.leads (s.endCell zero) :=
  ((ageCommit s zero).trans (waitImage _)).trans (settleEcho _)

theorem settleSwitch (s : State) : s.leads s.settleSwitch := frame

theorem workMissing (s : State) (w : Work) : s.leads (s.workMissing w) :=
  (frame (t := (s.passMissing w).restartChecks) (queue := fun _ => id)).trans (endCell _ _)

theorem endWork (s : State) : s.leads s.endWork := frame

theorem finishCell (s : State) (w : Work) : s.leads (s.finishCell w) := by
  have sent : s.leads ((((s.recordCell w).abandonChange w.bank).sendDrive (s.recordCell w).engines w).lateRestart w) := frame
  exact (sent.trans (endCell _ w.zeroCrossing)).trans (endWork _)

theorem advance (s : State) : s.leads s.advance := by
  unfold State.advance
  split
  · exact refl s
  · split
    · split
      · exact frame (queue := fun _ => id)
      · exact (workMissing s _).trans (settleSwitch _)
    · exact frame
    · exact frame
    · exact finishCell s _

theorem workTo (s : State) (p : WorkPoint) : s.leads (s.workTo p) :=
  State.workTo_keeps (fun u h => h.trans (advance u)) p (refl s)

theorem finishWork (s : State) : s.leads s.finishWork := workTo s _

theorem toBetween (s : State) : s.leads s.toBetween := State.toBetween_keeps (fun u h => h.trans (advance u)) (refl s)

theorem comesAbout (x : Occurrence) (s : State) : s.leads (State.comesAbout x s) := by
  unfold State.comesAbout
  split
  · exact finishWork { s with came := [] }
  · exact refl s

/-! ### Arriving cells and the links -/

theorem count (s : State) (k : LinkCounter) (n : Nat) : s.leads (s.count k n) := frame (queue := fun _ => id)

theorem dropped (s : State) (k : LinkCounter) (d : DeviceFlag) : s.leads ((s.count k 1).latch d) := count s k 1

theorem accept (s : State) (c : Sense) (missing : Nat) (breaks switches : Bool) : s.leads (s.accept c missing breaks switches) := by
  have entered : s.leads (s.enterCell c missing breaks switches) := by
    rw [State.enterCell_eq]
    exact refl s
  exact entered.trans (settleSwitch _)

theorem arriveSense (s : State) (words : List Word) : s.leads (s.arriveSense words) := by
  unfold State.arriveSense
  dsimp only
  split
  · exact dropped s _ _
  · split
    · unfold State.checkSequence
      split
      · exact accept s _ _ _ _
      · exact count s _ _
      · exact accept s _ _ _ _
    · exact dropped s _ _

/-- An arriving request has the command table's check (R16). -/
theorem offer (s : State) {r : Request} (tabled : r.tabled) : s.leads (s.offer r) := by
  have stand : ∀ {t : State}, t.tables = s.tables → t.loader = s.loader → t.due = s.due →
      (t.management.engine = .deferred → s.management.engine = .deferred) →
      (∀ x, t.banks.holds x → s.banks.holds x ∨ x.tabled) → t.pending = s.pending → s.leads t :=
    fun tables loader due engine arrived pending =>
    single (.stand (congrArg Tables.active tables) (congrArg Tables.shadow tables) fun waits =>
      .inl (waits.imp engine (Or.imp (loader ▸ id) (due ▸ id)))) arrived pending
  unfold State.offer
  split
  · refine stand rfl rfl rfl nofun (fun x => ?_) rfl
    rintro (queued | inFlight)
    · exact .inl (.inl (State.mem_queue_take queued))
    · exact .inr (Option.some.inj inFlight ▸ tabled)
  · split
    · refine stand rfl rfl rfl id (fun x => ?_) rfl
      rintro (queued | inFlight)
      · rcases List.mem_append.1 queued with old | new
        · exact .inl (.inl old)
        · exact .inr (List.mem_singleton.1 new ▸ tabled)
      · exact .inl (.inr inFlight)
    · exact dropped s _ _

theorem arrive (s : State) (words : List Word) : s.leads (s.arrive words) := by
  unfold State.arrive
  split
  · split
    · split
      · exact arriveSense s words
      · split
        · unfold State.arriveManage
          split
          · exact offer s (Request.tabled_requestOf words)
          · exact dropped s _ _
        · exact dropped s _ _
    · exact dropped s _ _
  · exact dropped s _ _

theorem quietEntry (s : State) : s.leads s.quietEntry := by
  have blocks : s.leads s.quietBlocks := by
    unfold State.quietBlocks
    exact frame (queue := by simp [State.loseLink])
  rw [State.quietEntry_eq]
  by_cases deferred : s.quietBlocks.management.engine = .deferred
  · rcases s.quietBlocks.quietCommit_cases with e | ⟨r, e⟩ <;> rw [e]
    · exact blocks
    · exact blocks.trans (takeCommit _ r (.inl (.inl deferred)))
  · rwa [State.quietCommit_waits (.inl deferred)]

theorem selfTimed (s : State) : s.leads s.selfTimed := by
  unfold State.selfTimed
  exact frame

theorem driveSent (s : State) : s.leads s.driveSent := by
  unfold State.driveSent
  split
  · exact frame
  · exact refl s
  · exact refl s

theorem replySent (s : State) : s.leads s.replySent := by
  have inFlight : ∀ r, s.management.replyLeaves.inFlight = some r → s.management.inFlight = some r := fun r => by
    rw [Management.replyLeaves_eq]
    exact id
  unfold State.replySent
  split
  · split
    · exact frame (engine := Management.replyLeaves_engine) (due := nofun) (inFlight := inFlight)
    · exact frame (engine := Management.replyLeaves_engine) (inFlight := inFlight)
  · exact refl s
  · exact refl s

/-! ### The requests -/

theorem refuseMalformed (s : State) : s.leads s.refuseMalformed := by
  unfold State.refuseMalformed
  split
  · exact refl s
  next r next =>
    split
    · exact (take s r (State.holds_nextRequest next)).trans (answer _ _ _ _)
    · exact refl s

theorem readSetting (s : State) (r : Request) : s.leads (s.readSetting r) := by
  unfold State.readSetting
  split
  · exact answer s _ _ _
  · split
    · exact answer s _ _ _
    · exact answer s _ _ _

/-- A write's outcome is settled on the shadow bank, which no commit awaits (R175). -/
theorem settleWrite (s : State) (r : Request) {w : Written} (written : s.tables.shadow.written r = w) (idle : ¬ s.banks.awaits)
    (held : s.banks.holds r) : s.leads (s.settleWrite r w) := by
  cases w with
  | refused result => exact answer s _ _ _
  | stored bank result payload =>
    refine trans ?_ (answer { s with tables := { s.tables with shadow := bank } } r result payload)
    exact ofChange (.write rfl idle held written) (fun _ => id) fun _ => id

/-- A commit comes to wait for a shadow bank that passed validation (R180, R181). -/
theorem defer (s : State) (passed : s.tables.shadow.fault = none) : s.leads s.defer := by
  have valid : s.tables.shadow.valid = true := by rw [Bank.valid, passed]; rfl
  exact ofChange (.stand rfl rfl fun _ => .inr valid) (fun _ => id) fun _ => id

theorem commitNow (s : State) (r : Request) : s.leads (s.commitNow r) := by
  unfold State.commitNow
  split
  · exact answer s _ _ _
  next passed =>
    have valid : s.tables.shadow.valid = true := by rw [Bank.valid, passed]; rfl
    split
    · refine trans ?_ (takeCommit { s with management := { s.management with deferralAge := 0 } } r (.inr valid))
      exact refl s
    · exact defer s passed

theorem commitSync (s : State) (r : Request) : s.leads (s.commitSync r) := by
  unfold State.commitSync
  split
  · exact answer s _ _ _
  next passed => exact (defer s passed).trans (refl s.defer)

theorem discardShadow (s : State) (r : Request) :
    s.leads (State.answer { s with tables := { s.tables with shadow := s.tables.active } } r .done []) := by
  refine trans ?_ (answer { s with tables := { s.tables with shadow := s.tables.active } } r .done [])
  exact ofChange (.discard rfl rfl) (fun _ => id) fun _ => id

theorem forFeeder (s : State) (r : Request) {act : Feeder → State} (hact : ∀ f, s.leads (act f)) : s.leads (s.forFeeder r act) := by
  unfold State.forFeeder
  split
  · exact hact _
  · exact answer s _ _ _

theorem acceptChange (s : State) (r : Request) (map : List Feeder) (after : PerFeeder Engine) :
    s.leads (s.acceptChange r map after) := answer ((s.announce _ _).moveEngines after) _ _ _

theorem enlist (s : State) (r : Request) (f : Feeder) : s.leads (s.enlist r f) := by
  unfold State.enlist
  split
  · split
    · split
      · exact acceptChange s _ _ _
      · exact answer s _ _ _
    · exact answer s _ _ _
  · exact answer s _ _ _

theorem retire (s : State) (r : Request) (f : Feeder) : s.leads (s.retire r f) := by
  unfold State.retire
  split
  · exact answer s _ _ _
  · split
    · split
      · exact acceptChange s _ _ _
      · exact answer s _ _ _
    · exact answer s _ _ _

theorem forceBypass (s : State) (r : Request) (f : Feeder) : s.leads (s.forceBypass r f) := by
  unfold State.forceBypass
  split
  · exact answer ((s.lockFeeder f).setOperator f) _ _ _
  · split
    · exact answer (s.setOperator f) _ _ _
    · exact answer s _ _ _

theorem writeCounter (s : State) (r : Request) : s.leads (s.writeCounter r) := by
  unfold State.writeCounter
  split
  · exact answer s _ _ _
  next k _ =>
    exact answer { s with ingress := { s.ingress with counters := s.ingress.counters.set k (r.word 1).toNat } } _ _ _

theorem readEvent (s : State) (r : Request) : s.leads (s.readEvent r) := by
  unfold State.readEvent
  split
  · exact answer s _ _ _
  · exact answer s _ _ _

theorem releaseEvent (s : State) (r : Request) : s.leads (s.releaseEvent r) := by
  unfold State.releaseEvent
  split
  · exact answer s.dropOldest _ _ _
  · exact answer s _ _ _

theorem echoRequest (s : State) (r : Request) : s.leads (s.echoRequest r) := by
  unfold State.echoRequest
  split
  · split
    · exact setEcho s _ _
    · exact frame (engine := id) (inFlight := fun _ => id)
  · exact answer s _ _ _

/-- Writing an image is no load (R193). -/
theorem saveImage (s : State) : s.leads s.saveImage := frame (engine := nofun) (loader := nofun) (inFlight := fun _ => id)

theorem endSave (s : State) (result : Result) : s.leads (s.endSave result) := by
  have stopped : s.leads s.stopWriting := frame (loader := nofun)
  unfold State.endSave
  split
  · exact stopped.trans (answer _ _ _ _)
  · exact stopped

theorem pageWritten (s : State) : s.leads s.pageWritten := by
  unfold State.pageWritten
  split
  · exact refl s
  next x rest _ =>
    split
    · exact endSave (s.storePage x rest) _
    · exact refl s

/-! ### Every command and every step -/

theorem ite {c : Prop} [Decidable c] (hs : c → s.leads t) : s.leads (if c then t else s) := by
  split
  · exact hs ‹_›
  · exact refl s

/-- A command acts on a part out of reset that has carried out what was due; a part held in reset stays as it is. -/
theorem ready (s : State) {act : State → State} (hact : ∀ x : State, x.acts → x.leads (act x))
    (e : (Host.Outcome.next (s.ready act) : Host.Outcome State Fault Refusal) = .next t) : s.leads t := by
  obtain rfl := Host.Outcome.next.inj e
  unfold State.ready
  split
  · exact refl s
  next awake => exact (carryDue s).trans (hact _ (State.carryDue_acts (Bool.eq_false_iff.2 awake)))

/-- The engine carries out a request while no commit waits, and holds that request (R169, R193). -/
theorem of_taken {r : Request} (acts : s.acts) (next : s.nextRequest = some r) :
    ¬ (s.take r).banks.awaits ∧ (s.take r).banks.holds r := by
  refine ⟨?_, .inr rfl⟩
  rintro (deferred | waiting | due)
  · cases deferred
  · have idle : s.loader.state.loading = false := State.nextRequest_loading next
    have waiting : s.loader.state = .waiting := waiting
    rw [waiting] at idle
    cases idle
  · exact absurd (acts.2.symm.trans due) nofun

/-- The same as `ready` for a request's step. -/
theorem readyRequest (s : State) (c : Command) {act : Request → State → State}
    (hact : ∀ (r : Request) (x : State), ¬ x.banks.awaits → x.banks.holds r → r.command = some c → x.leads (act r x))
    (e : (Host.Outcome.next (s.ready fun u => u.request c act) : Host.Outcome State Fault Refusal) = .next t) : s.leads t := by
  refine ready s (fun u acts => ?_) e
  unfold State.request
  split
  · exact refl u
  next r next =>
    split
    next command =>
      obtain ⟨idle, held⟩ := of_taken acts next
      exact (take u r (State.holds_nextRequest next)).trans (hact r _ idle held command)
    · exact refl u

/-- The same for a request carried out between cells, whose act leaves the banks. -/
theorem readyBetween (s : State) (c : Command) {act : Request → State → State}
    (hact : ∀ (r : Request) (x : State), x.leads (act r x))
    (e : (Host.Outcome.next (s.ready fun u => u.requestBetween c act) : Host.Outcome State Fault Refusal) = .next t) :
    s.leads t :=
  ready s (fun u _ => State.requestBetween_keeps (refl u) c fun r next =>
    ((toBetween u).retake (State.holds_nextRequest next)).trans (hact r _)) e

theorem exec {c : Instr} (e : exec c s = .next t) : s.leads t := by
  cases c
  case cellArrival words p => exact ready s (fun u _ => ((finishWork u).trans (arrive _ words)).trans (workTo _ p)) e
  case acquireEnd | confirmation | classificationPoint | eventEnd | burstTimerExpiry | releaseEnd | pathCheckVerdict
      | verifyFailure | mapChangeAbandon | commitTakesEffect | commitExpired | imageCommit =>
    exact ready s (fun u _ => comesAbout _ u) e
  case quietTimerExpiry => exact ready s (fun u _ => ite fun _ => (finishWork u).trans (quietEntry _)) e
  case selfTimedCell => exact ready s (fun u _ => ite fun _ => selfTimed u) e
  case driveCellSent => exact ready s (fun u _ => driveSent u) e
  case replySent => exact ready s (fun u _ => replySent u) e
  case malformed => exact ready s (fun u _ => refuseMalformed u) e
  case enquire => exact readyRequest s _ (fun r u _ _ _ => answer { u with flags := u.flags.clearChange } r _ _) e
  case readSetting => exact readyRequest s _ (fun r u _ _ _ => readSetting u r) e
  case writeSetting | loadEnvelope | loadResponse =>
    exact readyRequest s _ (fun r u idle held command =>
      settleWrite u r (by rw [Bank.written, command]) idle held) e
  case commitNow => exact readyRequest s _ (fun r u _ _ _ => commitNow u r) e
  case commitSync => exact readyRequest s _ (fun r u _ _ _ => commitSync u r) e
  case discardShadow => exact readyRequest s _ (fun r u _ _ _ => discardShadow u r) e
  case enlist => exact readyBetween s _ (fun r u => forFeeder u r fun f => enlist u r f) e
  case retire => exact readyBetween s _ (fun r u => forFeeder u r fun f => retire u r f) e
  case forceBypass => exact readyRequest s _ (fun r u _ _ _ => forFeeder u r fun f => forceBypass u r f) e
  case clearFlags => exact readyRequest s _ (fun r u _ _ _ => answer (u.unlatch _).lockoutExit r _ _) e
  case setReport => exact readyRequest s _ (fun r u _ _ _ => answer { u with flags := u.flags.report _ } r _ _) e
  case readCounters | readLive => exact readyRequest s _ (fun r u _ _ _ => answer u r _ _) e
  case writeCounter => exact readyRequest s _ (fun r u _ _ _ => writeCounter u r) e
  case readEvent => exact readyRequest s _ (fun r u _ _ _ => readEvent u r) e
  case releaseEvent => exact readyRequest s _ (fun r u _ _ _ => releaseEvent u r) e
  case setEcho => exact readyRequest s _ (fun r u _ _ _ => echoRequest u r) e
  case saveImage => exact readyRequest s _ (fun _ u _ _ _ => saveImage u) e
  case savePageAck => exact ready s (fun u _ => ite fun _ => pageWritten u) e
  case savePollTimeout => exact ready s (fun u _ => ite fun _ => endSave u _) e
  case deviceReset => exact readyRequest s _ (fun _ u _ _ _ => buffer u _) e
  case managementReset => exact ready s (fun u _ => refl u) e
  case powerOnReset => exact Host.Outcome.next.inj e ▸ powerOn s
  case resetRelease straps => exact Host.Outcome.next.inj e ▸ resetRelease s straps
  case imageReadComplete a => exact ready s (fun u _ => ite fun _ => readEnds u a) e

/-- A step takes the front command from the queue, or idles, and does the rest by moves (R11). -/
theorem step (e : step s = .next t) : ∃ rest, State.leads { s with pending := rest } t := by
  cases hp : s.pending with
  | nil => exact ⟨s.pending, ready s (fun u _ => finishWork u) (step_of_nil hp ▸ e)⟩
  | cons c rest => exact ⟨rest, exec (step_of_cons hp ▸ e)⟩

end State.leads

/-- Settles O53: every step is made of moves of the banks, and each move keeps both invariants. -/
theorem everyStepKeepsBanksSound : Obligations.EveryStepKeepsBanksSound := by
  refine ⟨fun s t sound e => ?_, fun s t sound e => ?_⟩
  · obtain ⟨rest, moves⟩ := State.leads.step e
    exact (banksSound_iff t).2 (moves.keeps BankView.valid.move ((banksSound_iff { s with pending := rest }).1 sound))
  · obtain ⟨rest, moves⟩ := State.leads.step e
    exact (tablesInCatalogue_iff t).2
      (moves.keeps BankView.inCatalogue.move ((tablesInCatalogue_iff { s with pending := rest }).1 sound))

/-- No command stops the part (log entry 26). -/
theorem exec_answers (c : Instr) (s : State) : ∃ t, exec c s = .next t := by cases c <;> exact ⟨_, rfl⟩

/-- Settles O2: a command is made of moves of the banks, and each leaves the waiting commands alone. -/
theorem everyCommandAnswersAndKeepsTheQueue : Obligations.EveryCommandAnswersAndKeepsTheQueue := fun c s => by
  obtain ⟨t, e⟩ := exec_answers c s
  exact ⟨t, e, (State.leads.exec e).keeps (P := fun v => v.pending = s.pending) (fun h move => move.pending.trans h) rfl⟩

end Sys2Proof.Machine
end

section
/-! The validation of a bank: the store levels, then each feeder's envelope and rearm level in turn (R78, R180). -/
open Sys2Proof Sys2Proof.Machine
namespace Sys2Proof.Machine

/-- An envelope's durations ascend where each is below every later one (R78). -/
theorem durationsAscend_iff (rows : List EnvelopeRow) :
    durationsAscend rows = true ↔ (rows.map EnvelopeRow.duration).Pairwise (· < ·) := by
  rw [← List.isChain_iff_pairwise]
  induction rows with
  | nil => simp [durationsAscend]
  | cons r rows ih =>
    cases rows with
    | nil => simp [durationsAscend]
    | cons q rest => simpa [durationsAscend] using fun _ => ih

theorem envelopeValid_iff (rows : List EnvelopeRow) :
    envelopeValid rows = true
      ↔ (rows.map EnvelopeRow.duration).Pairwise (· < ·) ∧ rows.head?.map EnvelopeRow.duration = some 0 := by
  rw [← durationsAscend_iff]
  cases rows with
  | nil => simp [envelopeValid]
  | cons r rest => simp [envelopeValid, and_comm]

section
variable {b : FeederBank} {f : Feeder}

theorem FeederBank.fault_of_badEnvelope (bad : ¬ envelopeValid b.envelope = true) :
    b.fault f = some { item := 48, target := f.number } := by
  rw [FeederBank.fault, Bool.eq_false_iff.2 bad]
  rfl

theorem FeederBank.fault_of_badLevel (envelope : envelopeValid b.envelope = true) (level : b.rearmLevel ≤ b.shedLevel) :
    b.fault f = some { item := 39, target := f.number } := by
  rw [FeederBank.fault, envelope]
  exact if_neg (Nat.not_lt_of_le level)

theorem FeederBank.fault_of_sound (envelope : envelopeValid b.envelope = true) (level : b.shedLevel < b.rearmLevel) :
    b.fault f = none := by
  rw [FeederBank.fault, envelope]
  exact if_pos level

end

/-- The feeders before one of them in ascending order. -/
theorem Feeder.all_split (f : Feeder) : ∃ before after, Feeder.all = before ++ f :: after ∧ ∀ g ∈ before, g.number < f.number :=
  match f with
  | .f0 => ⟨[], [.f1, .f2, .f3], rfl, by decide⟩
  | .f1 => ⟨[.f0], [.f2, .f3], rfl, by decide⟩
  | .f2 => ⟨[.f0, .f1], [.f3], rfl, by decide⟩
  | .f3 => ⟨[.f0, .f1, .f2], [], rfl, by decide⟩

section
variable {b : Bank} (levels : b.storeFloor < b.storeFull)
include levels

/-- A bank's fault is that of the lowest-numbered feeder that fails (R180). -/
theorem Bank.fault_of_feeder {f : Feeder} {x : TableFault} (sound : ∀ g : Feeder, g.number < f.number → (b.feeder g).fault g = none)
    (fails : (b.feeder f).fault f = some x) : b.fault = some x := by
  obtain ⟨before, after, split, lower⟩ := Feeder.all_split f
  rw [Bank.fault, if_neg (Nat.not_le_of_lt levels)]
  exact List.findSome?_eq_some_iff.2 ⟨before, f, after, split, fails, fun g hg => sound g (lower g hg)⟩

theorem Bank.fault_of_sound (sound : ∀ g : Feeder, (b.feeder g).fault g = none) : b.fault = none := by
  rw [Bank.fault, if_neg (Nat.not_le_of_lt levels)]
  exact List.findSome?_eq_none_iff.2 fun g _ => sound g

end

/-- Settles O36. -/
theorem validationNamesTheFirstFailingCheck : Obligations.ValidationNamesTheFirstFailingCheck := by
  refine fun b => ⟨fun levels => if_pos levels, fun f levels earlier => ?_, fun levels sound => ?_⟩
  · have sound : ∀ g : Feeder, g.number < f.number → (b.feeder g).fault g = none := fun g lower => by
      obtain ⟨⟨_, rfl, ascend, zero⟩, level⟩ := earlier g lower
      exact FeederBank.fault_of_sound ((envelopeValid_iff _).2 ⟨ascend, zero⟩) level
    constructor
    · exact fun bad => Bank.fault_of_feeder levels sound (FeederBank.fault_of_badEnvelope (mt (envelopeValid_iff _).1 bad))
    · exact fun ascend zero level => Bank.fault_of_feeder levels sound
        (FeederBank.fault_of_badLevel ((envelopeValid_iff _).2 ⟨ascend, zero⟩) level)
  · refine Bank.fault_of_sound levels fun g => ?_
    obtain ⟨ascend, zero, level⟩ := sound g
    exact FeederBank.fault_of_sound ((envelopeValid_iff _).2 ⟨ascend, zero⟩) level

end Sys2Proof.Machine
end

section
/-! The requests that report the state, and the link counters (R172 to R174, R156). -/
open Sys2Proof Sys2Proof.Machine
namespace Sys2Proof.Machine

section
variable {s : State} {r : Request} (acts : s.acts)
include acts

/-! ### ENQUIRE and READ_LIVE -/

theorem exec_enquire_of_requests (h : s.requests .enquire r) : exec .enquire s = .next ((s.take r).enquire r) :=
  congrArg Host.Outcome.next (State.ready_request acts h _)

theorem exec_readLive_of_requests (h : s.requests .readLive r) :
    exec .readLive s = .next ((s.take r).answer r .done s.livePayload) :=
  congrArg Host.Outcome.next (State.ready_request acts h _)

theorem exec_readCounters_of_requests (h : s.requests .readCounters r) :
    exec .readCounters s = .next ((s.take r).answer r .done s.countersPayload) :=
  congrArg Host.Outcome.next (State.ready_request acts h _)

theorem exec_writeCounter_of_requests (h : s.requests .writeCounter r) :
    exec .writeCounter s = .next ((s.take r).writeCounter r) :=
  congrArg Host.Outcome.next (State.ready_request acts h _)

end

/-- FEEDER_CHANGE is flag 10, and unlatching it empties its set (R156). -/
theorem FlagUnit.clearChange_eq (u : FlagUnit) :
    u.clearChange = { u with latched := u.latched &&& ~~~(1#32 <<< 10), changed := ⟨false, false, false, false⟩ } := rfl

/-- Settles O28. -/
theorem enquireAndReadLiveReportTheState : Obligations.EnquireAndReadLiveReportTheState := by
  refine ⟨fun s r acts requests => ⟨_, exec_enquire_of_requests acts requests, ?_⟩,
    fun s r acts requests => ⟨_, exec_readLive_of_requests acts requests, s.answered_answer r .done _⟩⟩
  have reported := State.answered_answer { s with flags := s.flags.clearChange } r .done s.enquirePayload
  rw [FlagUnit.clearChange_eq] at reported
  refine (congrArg (answered _ _ r .done) ?_).mpr reported
  unfold State.enquirePayload
  cases s.maps.pending <;> rfl

/-! ### The link counters -/

theorem LinkCounter.all_get {k : Nat} (h : k ≤ 7) : ∃ c, LinkCounter.all[k]? = some c :=
  ⟨_, List.getElem?_eq_getElem (Nat.lt_succ_of_le h)⟩

/-- Settles O29. -/
theorem countersAreReadAndWritten : Obligations.CountersAreReadAndWritten := by
  refine ⟨fun s r acts requests => ⟨_, exec_readCounters_of_requests acts requests, s.answered_answer r .done _⟩,
    fun s r acts requests => ⟨fun k index low => ?_, fun high => ⟨_, exec_writeCounter_of_requests acts requests, ?_⟩⟩⟩
  · obtain ⟨c, named⟩ := LinkCounter.all_get low
    refine ⟨c, _, named, exec_writeCounter_of_requests acts requests, ?_⟩
    have index : (r.word 0).toNat = k := index
    rw [State.writeCounter, index, named]
    exact State.answered_answer
      { s with ingress := { s.ingress with counters := s.ingress.counters.set c (r.payload.getD 1 0).toNat } } r .done []
  · have none : LinkCounter.all[(r.word 0).toNat]? = Option.none := List.getElem?_eq_none high
    rw [State.writeCounter, none]
    exact s.answered_answer r .malformed []

end Sys2Proof.Machine
end

section
/-! READ_SETTING, WRITE_SETTING and DISCARD_SHADOW: which item a number names, and what the requests read and write (R176 to R179). -/
open Sys2Proof Sys2Proof.Machine
namespace Sys2Proof.Machine

/-! ### The items of the catalogue and their numbers -/

theorem Item.ofNumber_number (item : Item) : Item.ofNumber item.number = some item := by
  cases item with
  | device d => cases d <;> rfl
  | feeder i => cases i <;> rfl
  | envelope => rfl
  | response => rfl

theorem Item.number_of_ofNumber {n : Nat} {item : Item} (h : Item.ofNumber n = some item) : item.number = n := by
  unfold Item.ofNumber at h
  split at h
  next d found =>
    cases h
    exact (decide_eq_true_iff.1 (List.find?_some found :) : d.number = n)
  next =>
    split at h
    next i found =>
      cases h
      exact (decide_eq_true_iff.1 (List.find?_some found :) : i.number = n)
    next =>
      split at h
      next envelope => cases h; exact envelope.symm
      next =>
        split at h
        next response => cases h; exact response.symm
        next => cases h

theorem DeviceItem.number_mem (d : DeviceItem) : d.number ∈ List.range' 1 25 := by cases d <;> decide

theorem FeederItem.number_mem (i : FeederItem) : i.number ∈ List.range' 32 14 := by cases i <;> decide

/-- The numbers the catalogue does not list name no item (R176). -/
theorem Item.ofNumber_unlisted {n : Nat} (h : n ∉ List.range' 1 25 ++ List.range' 32 14 ++ [48, 49]) : Item.ofNumber n = none := by
  refine Option.eq_none_iff_forall_ne_some.2 fun item named => h ?_
  obtain rfl := Item.number_of_ofNumber named
  cases item with
  | device d => exact List.mem_append_left _ (List.mem_append_left _ d.number_mem)
  | feeder i => exact List.mem_append_left _ (List.mem_append_right _ i.number_mem)
  | envelope => decide
  | response => decide

/-- The numbers the catalogue lists name an item each (R176). -/
theorem Item.exists_of_listed {n : Nat} (h : n ∈ List.range' 1 25 ++ List.range' 32 14 ++ [48, 49]) :
    ∃ item, Item.ofNumber n = some item :=
  Option.isSome_iff_exists.1 ((by decide : ∀ m ∈ List.range' 1 25 ++ List.range' 32 14 ++ [48, 49], (Item.ofNumber m).isSome) n h)

/-- The item is one of each feeder (R176). -/
def Item.ofFeeders : Item → Bool
  | .device _ => false
  | .feeder _ | .envelope | .response => true

theorem Item.exists_of_feederNumber {n : Nat} (h : n ∈ List.range' 32 14 ++ [48, 49]) :
    ∃ item, Item.ofNumber n = some item ∧ item.ofFeeders = true :=
  (Option.any_eq_true _ _).1 ((by decide : ∀ m ∈ List.range' 32 14 ++ [48, 49], (Item.ofNumber m).any Item.ofFeeders) n h)

theorem Request.feeder_of_high {r : Request} (h : 4 ≤ r.target.toNat) : r.feeder = none := by
  unfold Request.feeder Feeder.ofNumber
  split
  case h_5 => rfl
  all_goals omega

/-! ### READ_SETTING -/

/-- A feeder item needs a target that names a feeder (R177). -/
theorem Bank.payload_noFeeder (b : Bank) {item : Item} {r : Request} (feeders : item.ofFeeders = true) (target : r.feeder = none) :
    b.payload item r = none := by
  cases item with
  | device d => cases feeders
  | feeder i => exact congrArg (Option.map _) target
  | envelope => exact congrArg (Option.map _) target
  | response => exact congrArg (Option.map _) target

theorem Bank.payload_feeder (b : Bank) {item : Item} {r : Request} {f : Feeder} (feeders : item.ofFeeders = true)
    (target : r.feeder = some f) : b.payload item r = some ((b.feeder f).payload item) := by
  cases item with
  | device d => cases feeders
  | feeder i => exact congrArg (Option.map _) target
  | envelope => exact congrArg (Option.map _) target
  | response => exact congrArg (Option.map _) target

section
variable {s : State} {r : Request} {item : Item}

theorem exec_readSetting_of_requests (acts : s.acts) (h : s.requests .readSetting r) :
    exec .readSetting s = .next ((s.take r).readSetting r) :=
  congrArg Host.Outcome.next (State.ready_request acts h _)

theorem State.answered_readSetting_unknown (unknown : Item.ofNumber (r.word 0).toNat = none) :
    answered s ((s.take r).readSetting r) r .unknownItem [] := by
  rw [State.readSetting, unknown]
  exact s.answered_answer r .unknownItem []

/-- The selector names no bank, or the item's kind does not match the target (R177). -/
theorem State.answered_readSetting_malformed (known : Item.ofNumber (r.word 0).toNat = some item)
    (none : (s.tables.selected (r.word 1).toNat).bind (fun b => b.payload item r) = none) :
    answered s ((s.take r).readSetting r) r .malformed [] := by
  rw [State.readSetting, known]
  dsimp only
  rw [State.take_tables, none]
  exact s.answered_answer r .malformed []

theorem State.answered_readSetting_done {b : Bank} {payload : List Word} (known : Item.ofNumber (r.word 0).toNat = some item)
    (selected : s.tables.selected (r.word 1).toNat = some b) (read : b.payload item r = some payload) :
    answered s ((s.take r).readSetting r) r .done payload := by
  have found : (s.tables.selected (r.word 1).toNat).bind (fun b => b.payload item r) = some payload := by
    rw [selected]
    exact read
  rw [State.readSetting, known]
  dsimp only
  rw [State.take_tables, found]
  exact s.answered_answer r .done payload

end

theorem Tables.selected_above (t : Tables) {n : Nat} (h : 2 ≤ n) : t.selected n = none := by
  rw [Tables.selected, if_neg (by omega), if_neg (by omega)]

/-- Settles O30. -/
theorem readSettingReadsTheNamedBank : Obligations.ReadSettingReadsTheNamedBank := by
  intro s r acts requests
  have named : ∀ {item : Item}, (r.payload.getD 0 0).toNat = item.number → Item.ofNumber (r.word 0).toNat = some item :=
    fun number => (congrArg Item.ofNumber number).trans (Item.ofNumber_number _)
  refine ⟨_, exec_readSetting_of_requests acts requests,
    fun unlisted => State.answered_readSetting_unknown (Item.ofNumber_unlisted unlisted),
    fun d number target => ?_, fun listed target => ?_, fun listed selector => ?_, fun b bank => ?_⟩
  · refine State.answered_readSetting_malformed (item := .device d) (named number) (Option.bind_eq_none_iff.2 fun b _ => ?_)
    exact if_neg target
  · obtain ⟨item, known, feeders⟩ := Item.exists_of_feederNumber listed
    exact State.answered_readSetting_malformed known
      (Option.bind_eq_none_iff.2 fun b _ => b.payload_noFeeder feeders (Request.feeder_of_high target))
  · obtain ⟨item, known⟩ := Item.exists_of_listed listed
    exact State.answered_readSetting_malformed known (Option.bind_eq_none_iff.2 fun b selected => by
      cases (s.tables.selected_above selector).symm.trans selected)
  · have selected : s.tables.selected (r.word 1).toNat = some b := by
      rcases bank with ⟨selector, rfl⟩ | ⟨selector, rfl⟩
      · exact if_pos selector
      · have selector : (r.word 1).toNat = 1 := selector
        rw [Tables.selected, selector]
        rfl
    refine ⟨fun d number target => ?_, fun i f number target => ?_, fun f number target => ?_, fun f number target => ?_⟩
    · exact State.answered_readSetting_done (item := .device d) (named number) selected (if_pos target)
    · exact State.answered_readSetting_done (item := .feeder i) (named number) selected
        (b.payload_feeder rfl (Request.feeder_of_target target))
    · exact State.answered_readSetting_done (item := .envelope) (named number) selected
        (b.payload_feeder rfl (Request.feeder_of_target target))
    · exact State.answered_readSetting_done (item := .response) (named number) selected
        (b.payload_feeder rfl (Request.feeder_of_target target))

/-! ### WRITE_SETTING -/

section
variable {s : State} {r : Request}

theorem exec_writeSetting_of_requests (acts : s.acts) (h : s.requests .writeSetting r) :
    exec .writeSetting s = .next ((s.take r).settleWrite r (s.tables.shadow.writeSetting r)) :=
  congrArg Host.Outcome.next (State.ready_request acts h _)

/-- A number that names no single-valued item names none to write (R178). -/
theorem Bank.writeSetting_unknown (b : Bank) (unlisted : (r.word 0).toNat ∉ List.range' 1 25 ++ List.range' 32 14) :
    b.writeSetting r = .refused .unknownItem := by
  unfold Bank.writeSetting
  dsimp only
  cases known : Item.ofNumber (r.word 0).toNat with
  | none => rfl
  | some item =>
    have number := Item.number_of_ofNumber known
    cases item with
    | device d => exact absurd (List.mem_append_left _ (number ▸ d.number_mem)) unlisted
    | feeder i => exact absurd (List.mem_append_right _ (number ▸ i.number_mem)) unlisted
    | envelope => rfl
    | response => rfl

theorem Bank.writeSetting_device (b : Bank) {d : DeviceItem} (number : (r.word 0).toNat = d.number) :
    b.writeSetting r = if r.target = 15 then b.storeDevice d (joinWords (r.word 1) (r.word 2)) else .refused .malformed := by
  have known : Item.ofNumber (r.word 0).toNat = some (.device d) := number ▸ Item.ofNumber_number (.device d)
  rw [Bank.writeSetting, known]
  rfl

theorem Bank.writeSetting_feeder (b : Bank) {i : FeederItem} (number : (r.word 0).toNat = i.number) {f : Feeder}
    (target : r.feeder = some f) : b.writeSetting r = b.storeFeeder f i (joinWords (r.word 1) (r.word 2)) := by
  have known : Item.ofNumber (r.word 0).toNat = some (.feeder i) := number ▸ Item.ofNumber_number (.feeder i)
  rw [Bank.writeSetting, known, target]

theorem Bank.writeSetting_noFeeder (b : Bank) {i : FeederItem} (number : (r.word 0).toNat = i.number) (target : r.feeder = none) :
    b.writeSetting r = .refused .malformed := by
  have known : Item.ofNumber (r.word 0).toNat = some (.feeder i) := number ▸ Item.ofNumber_number (.feeder i)
  rw [Bank.writeSetting, known, target]

end

/-- Settles O31. -/
theorem writeSettingStoresInTheShadowBank : Obligations.WriteSettingStoresInTheShadowBank := by
  intro s r v acts requests value
  have given : joinWords (r.word 1) (r.word 2) = v := value.symm
  refine ⟨_, exec_writeSetting_of_requests acts requests, fun unlisted => ?_, fun d number target => ?_,
    fun i number target => ?_, fun d number target => ?_, fun i f number target => ?_⟩
  · rw [Bank.writeSetting_unknown _ unlisted]
    exact s.answered_refused r .unknownItem
  · rw [Bank.writeSetting_device _ number, if_neg target]
    exact s.answered_refused r .malformed
  · rw [Bank.writeSetting_noFeeder _ number (Request.feeder_of_high target)]
    exact s.answered_refused r .malformed
  · rw [Bank.writeSetting_device _ number, if_pos target, given]
    exact s.answered_stored r _ _ _
  · rw [Bank.writeSetting_feeder _ number (Request.feeder_of_target target), given]
    exact s.answered_stored r _ _ _

/-! ### DISCARD_SHADOW -/

/-- Settles O34. -/
theorem discardShadowCopiesTheActiveBank : Obligations.DiscardShadowCopiesTheActiveBank := fun s r acts requests =>
  ⟨_, congrArg Host.Outcome.next (State.ready_request acts requests _),
    State.answered_answer { s with tables := { active := s.tables.active, shadow := s.tables.active } } r .done []⟩

end Sys2Proof.Machine
end

section
/-! DEVICE_RESET, SAVE_IMAGE with its pages, and the management reset with the feeders that AUTO_ENLIST names (R140, R186 to R188,
R194). -/
open Sys2Proof Sys2Proof.Machine
namespace Sys2Proof.Machine

/-! ### DEVICE_RESET -/

/-- The DONE reply to a DEVICE_RESET (R187). -/
def Request.resetReply (r : Request) : Reply := { tag := r.tag, result := .done, payload := [], answersReset := true }

section
variable {s : State} {r : Request}

theorem exec_deviceReset_of_requests (acts : s.acts) (h : s.requests .deviceReset r) :
    exec .deviceReset s = .next ((s.take r).deviceReset r) :=
  congrArg Host.Outcome.next (State.ready_request acts h _)

theorem State.hasRoom_iff (s : State) : s.management.hasRoom = true ↔ s.management.replies.length < 2 := decide_eq_true_iff

/-- With room the reply joins the buffer, a free link begins what goes next, and the request stays in flight, carried out (R170,
R187). -/
theorem State.deviceReset_of_room (room : s.management.replies.length < 2) :
    (s.take r).deviceReset r = { s.take r with
      management := { (s.take r).management with
        replies := s.management.replies ++ [r.resetReply], carriedOut := true, echoWaits := none }
      egress := s.egressAfter r.resetReply } := by
  rw [State.deviceReset, State.buffer, if_pos ((s.take r).hasRoom_iff.2 room), State.egressAfter]
  by_cases free : s.egress.onLink = none
  · rw [if_pos ⟨free, room⟩]
    exact State.chooseNext_free free
  · rw [if_neg (mt And.left free)]
    exact State.chooseNext_busy free

/-- With two replies buffered the reply is held, and the request stays in flight, carried out (R170, R187). -/
theorem State.deviceReset_of_full (full : ¬ s.management.replies.length < 2) :
    (s.take r).deviceReset r = { s.take r with
      management := { (s.take r).management with
        engine := .waitReply, held := some r.resetReply, carriedOut := true, echoWaits := none } } := by
  rw [State.deviceReset, State.buffer, if_neg (mt (s.take r).hasRoom_iff.1 full)]
  rfl

/-- A request carried out, or a reply held, leaves the engine no next request (R169). -/
theorem State.nextRequest_of_carriedOut (engine : s.management.engine = .executing ∨ s.management.engine = .waitReply)
    (done : s.management.carriedOut = true) : s.nextRequest = none := by
  unfold State.nextRequest
  split
  · rfl
  · rcases engine with executing | waiting
    · rw [executing]
    · rw [waiting]

end

/-- Settles O47. -/
theorem deviceResetStaysInFlight : Obligations.DeviceResetStaysInFlight := by
  intro s r acts requests
  refine ⟨(s.take r).deviceReset r, r.resetReply, exec_deviceReset_of_requests acts requests, ?_, rfl, ?_⟩
  · by_cases room : s.management.replies.length < 2
    · rw [State.deviceReset_of_room room]
      exact State.nextRequest_of_carriedOut (.inl rfl) rfl
    · rw [State.deviceReset_of_full room]
      exact State.nextRequest_of_carriedOut (.inr rfl) rfl
  · by_cases room : s.management.replies.length < 2
    · rw [State.deviceReset_of_room room]
      simp only [room, if_true]
      simp [State.take, State.egressAfter, room]
    · rw [State.deviceReset_of_full room]
      simp [State.take, room]

/-! ### SAVE_IMAGE -/

section
variable {s : State} {r : Request}

/-- Outside IDLE the queue keeps its head, so a request in flight is answered as one just taken (R15, R169). -/
theorem State.answer_take (busy : s.management.engine ≠ .idle) (result : Result) (payload : List Word) :
    (s.take r).answer r result payload = s.answer r result payload := by
  have queue : (s.take r).ingress = s.ingress := congrArg (fun q => { s.ingress with queue := q }) (if_neg busy)
  have joined : ∀ x : Reply, x.answersReset = false → (s.take r).management.join x = s.management.join x := fun x plain => by
    simp [Management.join, State.take, plain]
  have held : ∀ x : Reply, x.answersReset = false → (s.take r).management.hold x = s.management.hold x := fun x plain => by
    simp [Management.hold, State.take, plain]
  have same : ∀ m : Management, { s.take r with management := m } = { s with management := m } := fun m => by
    change { s with ingress := (s.take r).ingress, management := m } = _
    rw [queue]
  have room : (s.take r).management.hasRoom = s.management.hasRoom := rfl
  rw [State.answer, State.answer, State.buffer, State.buffer, room, joined _ rfl, held _ rfl, same, same]

theorem State.answered_of_busy (busy : s.management.engine ≠ .idle) (result : Result) (payload : List Word) :
    answered s (s.answer r result payload) r result payload :=
  State.answer_take busy result payload ▸ s.answered_answer r result payload

/-- The end of a save answers its request, the loader IDLE (R186, R194). -/
theorem State.answered_endSave (engine : s.management.engine = .saving) (flight : s.management.inFlight = some r) (result : Result) :
    answered { s with loader := { s.loader with state := .idle, writes := [] } } (s.endSave result) r result [] := by
  rw [State.endSave, flight]
  exact State.answered_of_busy (s := s.stopWriting) (by rw [State.stopWriting_management, engine]; exact nofun) result []

theorem exec_saveImage_of_requests (acts : s.acts) (h : s.requests .saveImage r) :
    exec .saveImage s = .next (s.take r).saveImage :=
  congrArg Host.Outcome.next (State.ready_request acts h _)

theorem exec_savePageAck_of_writing (acts : s.acts) (writing : s.loader.state = .writing) :
    exec .savePageAck s = .next s.pageWritten :=
  congrArg Host.Outcome.next ((State.ready_acts acts _).trans (if_pos writing))

theorem exec_savePollTimeout_of_writing (acts : s.acts) (writing : s.loader.state = .writing) :
    exec .savePollTimeout s = .next (s.endSave .writeFailed) :=
  congrArg Host.Outcome.next ((State.ready_acts acts _).trans (if_pos writing))

/-- A page acknowledged stands in the memory, and where it is the last one the save ends (R194). -/
theorem State.pageWritten_of_writes {x : PageWrite} {rest : List PageWrite} (writes : s.loader.writes = x :: rest) :
    s.pageWritten = if rest = [] then (s.storePage x rest).endSave .done else s.storePage x rest := by
  rw [State.pageWritten, writes]

end

/-- Settles O46. -/
theorem saveImageWritesPageByPage : Obligations.SaveImageWritesPageByPage := by
  refine ⟨fun s r acts requests => ⟨_, exec_saveImage_of_requests acts requests, rfl⟩, fun s x rest acts writing writes more => ?_,
    fun s x r acts writing writes engine flight => ?_, fun s r acts writing engine flight => ?_⟩
  · rw [exec_savePageAck_of_writing acts writing, State.pageWritten_of_writes writes, if_neg more]
    rfl
  · refine ⟨_, exec_savePageAck_of_writing acts writing, ?_⟩
    rw [State.pageWritten_of_writes writes, if_pos rfl]
    exact State.answered_endSave (s := s.storePage x []) engine flight .done
  · exact ⟨_, exec_savePollTimeout_of_writing acts writing, State.answered_endSave engine flight .writeFailed⟩

/-! ### Auto-enlist -/

theorem Bank.mem_enlisted (b : Bank) (f : Feeder) : f ∈ b.enlisted ↔ b.autoEnlist.testBit f.number = true := by
  simp [Bank.enlisted, Feeder.mem_all]

/-- AUTO_ENLIST names no feeder where its bits 0 to 3 are clear (R140). -/
theorem Bank.enlisted_eq_nil_iff (b : Bank) : b.enlisted = [] ↔ b.autoEnlist % 16 = 0 := by
  have bit : ∀ i, (b.autoEnlist % 2 ^ 4).testBit i = (decide (i < 4) && b.autoEnlist.testBit i) := fun i =>
    Nat.testBit_mod_two_pow _ _ _
  rw [List.eq_nil_iff_forall_not_mem]
  simp only [Bank.mem_enlisted, Bool.not_eq_true]
  constructor
  · intro clear
    refine Nat.eq_of_testBit_eq fun i => ?_
    rw [show 16 = 2 ^ 4 from rfl, bit, Nat.zero_testBit]
    match i with
    | 0 => exact (Bool.true_and _).trans (clear .f0)
    | 1 => exact (Bool.true_and _).trans (clear .f1)
    | 2 => exact (Bool.true_and _).trans (clear .f2)
    | 3 => exact (Bool.true_and _).trans (clear .f3)
    | n + 4 => rw [decide_eq_false (by omega), Bool.false_and]
  · intro zero f
    have low : f.number < 4 := by cases f <;> decide
    have clear := bit f.number
    rw [show 2 ^ 4 = 16 from rfl, zero, Nat.zero_testBit, decide_eq_true low, Bool.true_and] at clear
    exact clear.symm

/-- The engines once auto-enlist has moved the feeders it names (R140). -/
def State.enginesEnlisted (s : State) : PerFeeder Engine :=
  PerFeeder.build fun f => if f ∈ s.tables.active.enlisted then (s.engines.get f).enter .enlisting else s.engines.get f

section
variable {s : State}

theorem State.autoEnlist_of_none (h : s.tables.active.enlisted = []) : s.autoEnlist = s := by rw [State.autoEnlist, h]

theorem State.autoEnlist_of_some (h : s.tables.active.enlisted ≠ []) :
    s.autoEnlist = (s.announce 1 s.tables.active.enlisted).moveEnginesRaising s.enginesEnlisted := by
  unfold State.autoEnlist
  split
  · contradiction
  · rfl

end

/-- No feeder of a reset part drives, so its mismatch counters stand at 0 (R149). -/
theorem Verifier.left_reset (before after : PerFeeder Engine) : Verifier.reset.left before after = Verifier.reset := by
  have zero : ∀ f, Verifier.reset.mismatches.get f = ⟨0, 0, 0⟩ := PerFeeder.get_fill _
  simp only [Verifier.left, zero, ite_self]
  rfl

/-! ### The management reset -/

section
variable (s : State)

/-- The management-reset values take every feeder OFFLINE, in its reset state (R98, R113, R188). -/
theorem State.manageValues_engine (f : Feeder) : s.manageValues.engines.get f = Engine.reset := PerFeeder.get_fill _ f

theorem State.manageReset_engine (f : Feeder) :
    s.manageReset.engines.get f
      = if s.tables.active.autoEnlist.testBit f.number then { Engine.reset with state := .enlisting } else Engine.reset := by
  have named : f ∈ s.manageValues.tables.active.enlisted ↔ s.tables.active.autoEnlist.testBit f.number = true :=
    Bank.mem_enlisted _ f
  have moved : s.manageValues.enginesEnlisted.get f
      = if s.tables.active.autoEnlist.testBit f.number then { Engine.reset with state := .enlisting } else Engine.reset := by
    rw [State.enginesEnlisted, PerFeeder.get_build, s.manageValues_engine, if_congr named rfl rfl]
    rfl
  by_cases none : s.manageValues.tables.active.enlisted = []
  · rw [State.manageReset, State.autoEnlist_of_none none, s.manageValues_engine, if_neg]
    rw [← named, none]
    exact List.not_mem_nil
  · rw [State.manageReset, State.autoEnlist_of_some none]
    exact moved

/-- The blocks that auto-enlist may change but leaves at their reset values (R126, R148, R149, R188). -/
theorem State.manageReset_blocks :
    s.manageReset.verifier = Verifier.reset ∧ s.manageReset.maps.epoch = 0 ∧ s.manageReset.maps.active = []
      ∧ s.manageReset.maps.age = 0 ∧ (∀ f, s.manageReset.maps.checks.get f = Check.start)
      ∧ s.manageReset.flags.reported = s.flags.reported := by
  have start : ∀ f, s.manageValues.maps.checks.get f = Check.start := PerFeeder.get_fill _
  by_cases none : s.manageValues.tables.active.enlisted = []
  · rw [State.manageReset, State.autoEnlist_of_none none]
    exact ⟨rfl, rfl, rfl, rfl, start, rfl⟩
  · rw [State.manageReset, State.autoEnlist_of_some none]
    exact ⟨Verifier.left_reset _ _, rfl, rfl, rfl, fun f => settleChecks_of_start (start f) _ _,
      FlagUnit.raiseChanges_reported _ _ _⟩

/-- With AUTO_ENLIST naming no feeder no change is pending and no flag is latched (R140, R157). -/
theorem State.manageReset_of_none (clear : s.tables.active.enlisted = []) :
    s.manageReset.maps.pending = none ∧ s.manageReset.flags.latched = 0 ∧ s.manageReset.flags.changed = PerFeeder.fill false := by
  rw [State.manageReset, State.autoEnlist_of_none (s := s.manageValues) clear]
  exact ⟨rfl, rfl, rfl⟩

/-- A feeder AUTO_ENLIST names changes its state, and no other does (R140). -/
theorem State.manageValues_moves_iff (f : Feeder) :
    (s.manageValues.engines.get f).state ≠ (s.manageValues.enginesEnlisted.get f).state ↔ f ∈ s.tables.active.enlisted := by
  rw [State.enginesEnlisted, PerFeeder.get_build, s.manageValues_engine]
  by_cases named : f ∈ s.tables.active.enlisted
  · rw [if_pos (by exact named)]
    exact iff_of_true nofun named
  · rw [if_neg (by exact named)]
    exact iff_of_false (fun differs => differs rfl) named

theorem State.manageReset_of_some (named : s.tables.active.enlisted ≠ []) :
    s.manageReset.maps.pending = some { epoch := 1, feeders := s.tables.active.enlisted }
      ∧ s.manageReset.flags.latched = 1#32 <<< 10
      ∧ ∀ f, s.manageReset.flags.changed.get f = decide (f ∈ s.tables.active.enlisted) := by
  rw [State.manageReset, State.autoEnlist_of_some (s := s.manageValues) named]
  refine ⟨rfl, BitVec.eq_of_getLsbD_eq fun i hi => ?_, fun f => ?_⟩
  · have some : (Feeder.all.any fun f =>
        decide ((s.manageValues.engines.get f).state ≠ (s.manageValues.enginesEnlisted.get f).state)) = true := by
      obtain ⟨f, hf⟩ := List.exists_mem_of_ne_nil _ named
      exact List.any_eq_true.2 ⟨f, Feeder.mem_all f, decide_eq_true ((s.manageValues_moves_iff f).2 hf)⟩
    refine (FlagUnit.raiseChanges_latched _ _ _ i hi).trans ?_
    rw [State.announce_engines, some, Bool.and_true]
    change (BitVec.getLsbD 0#32 i || decide (i = 10)) = _
    interval_cases i <;> rfl
  · refine (FlagUnit.raiseChanges_changed _ _ _ f).trans ?_
    have clear : (s.manageValues.announce 1 s.tables.active.enlisted).flags.changed.get f = false := PerFeeder.get_fill false f
    exact (congrArg (· || _) clear).trans (decide_eq_decide.2 (s.manageValues_moves_iff f))

end

theorem exec_managementReset_of_due {s : State} (awake : s.inReset = false) (due : s.due = some .managementReset) :
    exec .managementReset s = .next s.manageReset := by
  have carried : s.carryDue = s.manageReset := by rw [State.carryDue, due]
  rw [exec_carryDue awake (State.carryDue_acts awake) (by decide), carried]
  exact congrArg Host.Outcome.next (State.ready_acts s.manageReset_acts id)

/-- Settles O48. -/
theorem managementResetKeepsConfigurationAndRecords : Obligations.ManagementResetKeepsConfigurationAndRecords := by
  intro s awake due
  obtain ⟨verifier, epoch, active, age, checks, reported⟩ := s.manageReset_blocks
  have enlist := s.tables.active.enlisted_eq_nil_iff
  refine ⟨s.manageReset, exec_managementReset_of_due awake due, ?_⟩
  have kept : s.manageReset.store = StoreAccount.reset := State.autoEnlist_store _
  rw [kept]
  refine ⟨State.autoEnlist_ingress _, State.autoEnlist_monitor _, rfl, rfl, rfl, rfl, fun f => ?_, verifier,
    State.autoEnlist_management _, State.autoEnlist_tracker _, State.autoEnlist_egress _, State.autoEnlist_recorder _,
    State.autoEnlist_tables _, epoch, active, age, ?_, checks, reported, State.autoEnlist_memory _, State.autoEnlist_straps _,
    State.autoEnlist_pending _, State.autoEnlist_inReset _, State.autoEnlist_due _, State.autoEnlist_work _,
    s.manageReset_engine, fun clear => s.manageReset_of_none (enlist.2 clear), fun named => ?_⟩
  · cases f <;> exact ⟨rfl, rfl, rfl⟩
  · rw [State.manageReset, State.autoEnlist_loader]
    rfl
  · obtain ⟨pending, latched, changed⟩ := s.manageReset_of_some (mt enlist.1 named)
    refine ⟨pending, latched, fun f => (changed f).trans ?_⟩
    simp only [Bank.mem_enlisted, Bool.decide_eq_true]

end Sys2Proof.Machine
end

section
/-! COMMIT_NOW and COMMIT_SYNC as the engine takes them, and how a deferred commit ends at the end of a cell's work (R180 to R185). -/
open Sys2Proof Sys2Proof.Machine
namespace Sys2Proof.Machine

/-! ### The conditions of a commit -/

/-- The quiescent condition: ACQUIRING or NORMAL, and no feeder INJECTING or RELEASING (R181). -/
theorem State.quiescent_iff (s : State) :
    s.quiescent = true ↔ (s.monitor.sag = .acquiring ∨ s.monitor.sag = .normal)
      ∧ ∀ f, (s.engines.get f).state ≠ .injecting ∧ (s.engines.get f).state ≠ .releasing := by
  rw [State.quiescent, Bool.and_eq_true, SagState.quietState_iff, Bool.not_eq_true', ← Bool.not_eq_true, anyDriving_iff]
  simp only [not_exists, not_or]

/-- A deferred commit takes effect at the end of a cell under the quiescent condition, a COMMIT SYNC only where that cell is a zero
crossing worked after it was taken (R182, R183). -/
theorem State.commitMeets_iff {s : State} {w : Work} (hw : s.work = some w) (r : Request) (zero : Bool) :
    s.commitMeets r zero = true
      ↔ s.quiescent = true ∧ (r.command = some .commitNow ∨ (zero = true ∧ w.syncBarred = false)) := by
  simp [State.commitMeets, hw, Request.commitsNow]

/-! ### What a commit that takes effect leaves -/

section
variable (s : State) (r : Request)

theorem State.takeCommit_tracker : (s.takeCommit r).tracker = s.tracker.commit s.tables.shadow := by
  rw [State.takeCommit, State.answer_tracker]
  rfl

/-- No window is left above the new HALF_WINDOW (R44). -/
theorem State.takeCommit_window (p : Phase) :
    (s.takeCommit r).monitor.windows.get p
      = (s.monitor.windows.get p).drop ((s.monitor.windows.get p).length - s.tables.shadow.halfWindow) := by
  rw [State.takeCommit, State.answer_monitor]
  cases p <;> rfl

theorem Verifier.empty_history (u : Verifier) (f : Feeder) (p : Phase) : (u.empty.histories.get f).get p = [] := by
  rw [Verifier.empty, PerFeeder.get_fill]
  cases p <;> rfl

/-- Every history is empty (R143). -/
theorem State.takeCommit_history (f : Feeder) (p : Phase) : ((s.takeCommit r).verifier.histories.get f).get p = [] := by
  rw [State.takeCommit, State.answer_verifier]
  exact Verifier.empty_history s.verifier f p

/-- A running check restarts (R138). -/
theorem State.takeCommit_check {f : Feeder} (checking : (s.engines.get f).state = .checking) :
    (s.takeCommit r).maps.checks.get f = Check.start := by
  rw [State.takeCommit, State.answer_maps]
  exact (PerFeeder.get_build _ f).trans (if_pos checking)

theorem State.takeCommit_work : (s.takeCommit r).work = s.work.map fun w => { w with commitDuring := true } := by
  rw [State.takeCommit, State.answer_work]
  rfl

theorem State.takeCommit_noted : .commitTakesEffect ∈ (s.takeCommit r).came := by
  rw [State.takeCommit, State.answer_came]
  exact List.mem_append_right _ (List.mem_singleton_self _)

theorem State.expireCommit_noted : .commitExpired ∈ (s.expireCommit r).came := by
  rw [State.expireCommit, State.answer_came]
  exact List.mem_append_right _ (List.mem_singleton_self _)

/-- The engine and its replies once a request in flight has been answered (R169 to R171). -/
theorem State.answer_management (result : Result) (payload : List Word) :
    (s.answer r result payload).management.inFlight = none
      ∧ (s.management.replies.length < 2 → (s.answer r result payload).management.engine = .idle
          ∧ (s.answer r result payload).management.replies = s.management.replies ++ [r.reply result payload])
      ∧ (2 ≤ s.management.replies.length → (s.answer r result payload).management.engine = .waitReply
          ∧ (s.answer r result payload).management.held = some (r.reply result payload)) := by
  refine ⟨s.answer_inFlight r result payload, fun room => State.answer_management_of_room room r result payload, fun full => ?_⟩
  rw [State.answer, State.buffer, if_neg (mt s.hasRoom_iff.1 (Nat.not_lt_of_le full))]
  exact ⟨rfl, rfl⟩

theorem State.answer_deferralAge (result : Result) (payload : List Word) :
    (s.answer r result payload).management.deferralAge = s.management.deferralAge := by
  unfold State.answer State.buffer
  split <;> rfl

end

/-! ### COMMIT_NOW and COMMIT_SYNC as they are taken -/

section
variable {s : State} {r : Request}

theorem exec_commitNow_of_requests (acts : s.acts) (h : s.requests .commitNow r) :
    exec .commitNow s = .next ((s.take r).commitNow r) :=
  congrArg Host.Outcome.next (State.ready_request acts h _)

theorem exec_commitSync_of_requests (acts : s.acts) (h : s.requests .commitSync r) :
    exec .commitSync s = .next ((s.take r).commitSync r) :=
  congrArg Host.Outcome.next (State.ready_request acts h _)

theorem State.answered_commitNow_invalid {x : TableFault} (fault : s.tables.shadow.fault = some x) :
    answered s ((s.take r).commitNow r) r .invalidTable x.words := by
  rw [State.commitNow, State.take_tables, fault]
  exact s.answered_answer r .invalidTable _

theorem State.answered_commitSync_invalid {x : TableFault} (fault : s.tables.shadow.fault = some x) :
    answered s ((s.take r).commitSync r) r .invalidTable x.words := by
  rw [State.commitSync, State.take_tables, fault]
  exact s.answered_answer r .invalidTable _

/-- A valid COMMIT NOW between two cells' work, under the quiescent condition, takes effect at once (R181). -/
theorem State.commitNow_at_once (valid : s.tables.shadow.fault = none) (between : s.betweenCells = true)
    (quiescent : s.quiescent = true) :
    s.commitNow r = State.takeCommit { s with management := { s.management with deferralAge := 0 } } r := by
  rw [State.commitNow, valid, between, quiescent]
  rfl

theorem State.commitNow_deferred (valid : s.tables.shadow.fault = none) (waits : s.betweenCells = false ∨ s.quiescent = false) :
    s.commitNow r = s.defer := by
  have waits : (s.betweenCells && s.quiescent) = false := Bool.and_eq_false_iff.2 waits
  rw [State.commitNow, valid, waits]
  rfl

theorem State.commitSync_deferred (valid : s.tables.shadow.fault = none) : s.commitSync r = s.defer.barSync := by
  rw [State.commitSync, valid]

end

/-- Settles O35. -/
theorem commitsAreValidatedThenTakenOrDeferred : Obligations.CommitsAreValidatedThenTakenOrDeferred := by
  refine ⟨fun s r c i x named acts requests fault => ?invalid, fun s r acts requests valid accepted quiet idle => ?taken,
    fun s r c i named acts requests valid => ?deferred⟩
  case invalid =>
    rcases named with ⟨rfl, rfl⟩ | ⟨rfl, rfl⟩
    · exact ⟨_, exec_commitNow_of_requests acts requests, State.answered_commitNow_invalid fault⟩
    · exact ⟨_, exec_commitSync_of_requests acts requests, State.answered_commitSync_invalid fault⟩
  case taken =>
    have between : (s.take r).betweenCells = true := (s.take r).betweenCells_iff.2 accepted
    have quiescent : (s.take r).quiescent = true := (s.take r).quiescent_iff.2 ⟨quiet, idle⟩
    refine ⟨_, State.note (State.commitBank { s with management := { s.management with deferralAge := 0 } }) .commitTakesEffect,
      exec_commitNow_of_requests acts requests, ?_, rfl, Verifier.empty_history s.verifier, rfl⟩
    rw [State.commitNow_at_once (s := s.take r) valid between quiescent]
    exact State.answered_answer _ r .done []
  case deferred =>
    rcases named with ⟨rfl, rfl, waits⟩ | ⟨rfl, rfl⟩
    · have waits : (s.take r).betweenCells = false ∨ (s.take r).quiescent = false := by
        rw [← Bool.not_eq_true, ← Bool.not_eq_true, State.betweenCells_iff, State.quiescent_iff]
        rcases waits with ⟨w, hw, begun⟩ | event | ⟨f, driving⟩
        · exact .inl fun accepted => begun (accepted w hw)
        · exact .inr fun quiet => quiet.1.elim event.1 event.2
        · exact .inr fun quiet => driving.elim (quiet.2 f).1 (quiet.2 f).2
      refine ⟨(s.take r).defer, ?_, rfl, rfl, rfl, rfl, rfl, id⟩
      rw [exec_commitNow_of_requests acts requests, State.commitNow_deferred (s := s.take r) valid waits]
    · refine ⟨(s.take r).defer.barSync, ?_, rfl, rfl, rfl, rfl, rfl, fun none => ?_⟩
      · rw [exec_commitSync_of_requests acts requests, State.commitSync_deferred (s := s.take r) valid]
      · exact congrArg (Option.map _) none

/-! ### The end of a cell's work with a commit deferred -/

section
variable {s : State} {r : Request} (engine : s.management.engine = .deferred) (flight : s.management.inFlight = some r)
  (image : s.loader.state ≠ .waiting)
include engine flight image

theorem State.endCell_takes {zero : Bool} (meets : s.commitMeets r zero = true) : s.endCell zero = s.growOlder.takeCommit r := by
  have aged : s.ageCommit zero = s.growOlder.takeCommit r := by
    rw [State.ageCommit, engine, flight]
    exact if_pos meets
  rw [State.endCell, aged, State.waitImage_of_ne (by rwa [State.takeCommit_loader]),
    State.settleEcho_of_none (by exact State.answer_echoWaits _ _ _ _)]

theorem State.endCell_expires {zero : Bool} (fails : s.commitMeets r zero = false)
    (old : s.tables.active.commitDeferLimit ≤ min 65535 (s.management.deferralAge + 1)) :
    s.endCell zero = s.growOlder.expireCommit r := by
  have aged : s.ageCommit zero = s.growOlder.expireCommit r := by
    rw [State.ageCommit, engine, flight]
    exact (if_neg (Bool.eq_false_iff.1 fails)).trans (if_pos old)
  rw [State.endCell, aged, State.waitImage_of_ne (by rwa [State.expireCommit_loader]),
    State.settleEcho_of_none (by exact State.answer_echoWaits _ _ _ _)]

end

/-! ### An accepted cell -/

section
variable (s : State) (w : Work)

@[simp] theorem State.withDrive_tables : (s.withDrive w).tables = s.tables := by simp [State.withDrive, State.atDrive]
@[simp] theorem State.withDrive_tracker : (s.withDrive w).tracker = s.tracker := by simp [State.withDrive, State.atDrive]
@[simp] theorem State.withDrive_monitor : (s.withDrive w).monitor = s.monitor := by simp [State.withDrive, State.atDrive]
@[simp] theorem State.withDrive_work : (s.withDrive w).work = s.work := by simp [State.withDrive, State.atDrive]

theorem State.withDrive_aged : (s.withDrive w).growOlder.management = s.growOlder.management := by
  rw [State.growOlder, s.withDrive_management]
  rfl

end

section
variable {s : State} {w : Work} {r : Request}

/-- With no abandon due the feeders stand when the DRIVE cell is made (R132). -/
theorem State.withDrive_engines_of_stands (stands : s.changeStands w.bank) : (s.withDrive w).engines = s.engines := by
  have recorded : (s.recordCell w).changeStands w.bank := by
    unfold State.changeStands
    rwa [State.recordCell_maps]
  rw [State.withDrive, State.lateRestart_engines, State.readyDrive_engines, State.atDrive,
    State.abandonChange_of_stands recorded, State.recordCell_engines]

theorem State.withDrive_commitMeets (stands : s.changeStands w.bank) (zero : Bool) :
    (s.withDrive w).commitMeets r zero = s.commitMeets r zero := by
  rw [State.commitMeets, State.quiescent, s.withDrive_monitor, s.withDrive_work, State.withDrive_engines_of_stands stands]
  rfl

/-- A row whose occurrence comes about in the last stage of the cell's work carries that work to its end (log entry 2). -/
theorem exec_of_finishCell {c : Instr} {x : Occurrence} (h : s.standsIn w .engined)
    (row : exec c s = .next (s.ready (State.comesAbout x))) (noted : x ∈ (State.finishCell { s with came := [] } w).came) :
    exec c s = .next (State.finishCell { s with came := [] } w) := by
  obtain ⟨acts, hw, stage⟩ := h
  have rest : s.restOfWork = State.finishCell { s with came := [] } w :=
    State.finishWork_engined (s := { s with came := [] }) hw stage
  rw [row, State.ready_acts acts, State.comesAbout_of_mem (rest ▸ noted), rest]

section deferred
variable (stands : s.changeStands w.bank) (engine : s.management.engine = .deferred) (flight : s.management.inFlight = some r)
  (image : s.loader.state ≠ .waiting)
include stands engine flight image

theorem State.finishCell_takes (meets : s.commitMeets r w.zeroCrossing = true) :
    s.finishCell w = ((s.withDrive w).growOlder.takeCommit r).endWork := by
  rw [State.finishCell_eq, State.endCell_takes (by rwa [State.withDrive_management]) (by rwa [State.withDrive_management])
    (by rwa [State.withDrive_loader]) (by rwa [State.withDrive_commitMeets stands])]

theorem State.finishCell_expires (fails : s.commitMeets r w.zeroCrossing = false)
    (old : s.tables.active.commitDeferLimit ≤ min 65535 (s.management.deferralAge + 1)) :
    s.finishCell w = ((s.withDrive w).growOlder.expireCommit r).endWork := by
  rw [State.finishCell_eq, State.endCell_expires (by rwa [State.withDrive_management]) (by rwa [State.withDrive_management])
    (by rwa [State.withDrive_loader]) (by rwa [State.withDrive_commitMeets stands])
    (by rwa [State.withDrive_tables, State.withDrive_management])]

end deferred
end

/-! ### A missing cell -/

section
variable {s : State}

/-- What came about before stays noted through an advance. -/
theorem State.came_advance {x : Occurrence} (h : x ∈ s.came) : x ∈ s.advance.came := by
  unfold State.advance
  split
  · exact h
  next w _ =>
    split
    · split
      · exact List.mem_append_left _ h
      · have passed : x ∈ (s.passMissing w).restartChecks.came := by
          change x ∈ (if burstExpires s.monitor (s.monitorAlone w) then s.came ++ [Occurrence.burstTimerExpiry] else s.came)
          split
          · exact List.mem_append_left _ h
          · exact h
        rw [State.settleSwitch_came]
        exact State.came_endCell passed _
    · exact List.mem_append_left _ h
    · exact h
    · exact State.came_finishCell h w

/-- Once both banks are the same one, the end of a cell's work leaves them so: another commit copies that bank (R185, R192). -/
theorem State.endCell_copied {b : Bank} (h : s.tables = { active := b, shadow := b }) (zero : Bool) :
    (s.endCell zero).tables = { active := b, shadow := b } := by
  have aged : (s.ageCommit zero).tables = { active := b, shadow := b } := by
    rcases s.ageCommit_cases zero with ⟨r, e⟩ | ⟨r, e⟩ | e | e <;> rw [e]
    · rw [State.takeCommit_tables, State.growOlder_tables, h]
    · rwa [State.expireCommit_tables]
    · exact h
    · exact h
  rw [State.endCell, State.settleEcho_tables]
  rcases (s.ageCommit zero).waitImage_cases with e | e <;> rw [e]
  · rw [State.commitImage, State.autoEnlist_tables]
    change Tables.mk (s.ageCommit zero).tables.shadow (s.ageCommit zero).tables.shadow = _
    rw [aged]
  · exact aged

theorem State.advance_copied {b : Bank} (h : s.tables = { active := b, shadow := b }) :
    s.advance.tables = { active := b, shadow := b } := by
  unfold State.advance
  split
  · exact h
  next w _ =>
    split
    · split
      · exact h
      · rw [State.settleSwitch_tables]
        exact State.endCell_copied (s := (s.passMissing w).restartChecks) h _
    · exact h
    · exact h
    · rw [State.finishCell_eq, State.endWork_tables]
      exact State.endCell_copied (by rwa [State.withDrive_tables]) _

/-- The epoch switch leaves the work but for its own mark (R131). -/
theorem State.settleSwitch_work {w : Work} (hw : s.work = some w) : ∃ b, s.settleSwitch.work = some { w with switches := b } := by
  unfold State.settleSwitch
  rw [hw]
  dsimp only
  split
  · exact ⟨false, State.switchEpoch_work _⟩
  · exact ⟨w.switches, hw⟩

/-- A deferred commit takes effect at the end of a missing cell, before the next cell's work (R9, R182, R183). -/
theorem State.advance_takes {w : Work} {r : Request} (hw : s.work = some w) (stage : w.stage = .accepted) (missing : 1 ≤ w.missing)
    (engine : s.management.engine = .deferred) (flight : s.management.inFlight = some r) (image : s.loader.state ≠ .waiting)
    (quiescent : s.quiescent = true)
    (meets : r.command = some .commitNow ∨ (zeroCrossing s.tracker (s.liveAlone w) = true ∧ w.syncBarred = false)) :
    s.advance = ((s.passMissing w).restartChecks.growOlder.takeCommit r).settleSwitch := by
  have passed : (s.passMissing w).restartChecks.quiescent = true := by
    have sag : (s.monitorAlone w).sag = s.monitor.sag := by rw [State.monitorAlone, Monitor.workMissing_eq]
    rw [State.quiescent_iff] at quiescent ⊢
    exact ⟨sag.symm ▸ quiescent.1, quiescent.2⟩
  have worked : (s.passMissing w).restartChecks.commitMeets r (zeroCrossing s.tracker (s.liveAlone w)) = true :=
    (State.commitMeets_iff (w := { w with missing := w.missing - 1 }) rfl r _).2 ⟨passed, meets⟩
  rw [State.advance_of_missing hw stage (Nat.sub_add_cancel missing).symm, State.workMissing,
    State.endCell_takes (s := (s.passMissing w).restartChecks) engine flight image worked]

end

/-- A commit that takes effect in the first advance of a cell's work: the row carries the work to its end, both banks the same one. -/
theorem exec_commitTakesEffect_of_advance {w : Work} {b : Bank} (acts : s.acts) (hw : s.work = some w)
    (noted : .commitTakesEffect ∈ (State.advance { s with came := [] }).came)
    (copied : (State.advance { s with came := [] }).tables = { active := b, shadow := b }) :
    ∃ t, exec .commitTakesEffect s = .next t ∧ t.work = none ∧ t.tables = { active := b, shadow := b } := by
  have rest : s.restOfWork = State.advanceTo .ended (w.missing + 3) (State.advance { s with came := [] }) := by
    rw [State.restOfWork, State.finishWork_eq (s := { s with came := [] }) hw,
      State.advanceTo_ended_some (s := { s with came := [] }) hw]
  have ended : .commitTakesEffect ∈ s.restOfWork.came :=
    rest ▸ State.advanceTo_keeps (P := fun u => .commitTakesEffect ∈ u.came) (fun _ => State.came_advance) _ _ noted
  refine ⟨s.restOfWork, ?_, State.finishWork_work _, ?_⟩
  · exact congrArg Host.Outcome.next ((State.ready_acts acts _).trans (State.comesAbout_of_mem ended))
  · exact rest ▸ State.advanceTo_keeps (P := fun u => u.tables = { active := b, shadow := b })
      (fun _ => State.advance_copied) _ _ copied

/-- Settles O23. -/
theorem deferredCommitsTakeEffectOrExpire : Obligations.DeferredCommitsTakeEffectOrExpire := by
  refine ⟨fun s w r standing engine flight stands image quiet idle meets => ?takes,
    fun s w r standing engine flight stands image fails old => ?expires,
    fun s w r standing missing engine flight image quiet idle meets => ?gap⟩
  case takes =>
    have worked : s.commitMeets r w.zeroCrossing = true :=
      (State.commitMeets_iff standing.2.1 r _).2 ⟨s.quiescent_iff.2 ⟨quiet, idle⟩, meets⟩
    have ended := State.finishCell_takes (s := { s with came := [] }) stands engine flight image worked
    have engines := State.withDrive_engines_of_stands (s := { s with came := [] }) stands
    refine ⟨_, exec_of_finishCell standing rfl (ended ▸ State.takeCommit_noted _ r), ?_⟩
    rw [ended]
    obtain ⟨answered, room, full⟩ := State.answer_management
      (((State.withDrive { s with came := [] } w).growOlder.commitBank).note .commitTakesEffect) r .done []
    rw [State.note_management, State.commitBank_management, State.withDrive_aged] at room full
    refine ⟨rfl, ?_, ?_, fun p => ?_, State.takeCommit_history _ r, fun f checking => ?_, answered, room, full⟩
    · rw [State.endWork_tables, State.takeCommit_tables, State.growOlder_tables, State.withDrive_tables]
    · rw [State.endWork_tracker, State.takeCommit_tracker, State.growOlder_tables, State.withDrive_tables,
        State.growOlder_tracker, State.withDrive_tracker]
      rfl
    · rw [State.endWork_monitor, State.takeCommit_window, State.growOlder_tables, State.withDrive_tables,
        State.growOlder_monitor, State.withDrive_monitor]
    · exact State.takeCommit_check _ r (by rw [State.growOlder_engines, engines]; exact checking)
  case expires =>
    have unmet : s.commitMeets r w.zeroCrossing = false := by
      rw [← Bool.not_eq_true, State.commitMeets_iff standing.2.1, State.quiescent_iff]
      rintro ⟨⟨quiet, idle⟩, meets⟩
      rcases fails with (event | ⟨f, driving⟩) | ⟨sync, waits⟩
      · exact quiet.elim event.1 event.2
      · exact driving.elim (idle f).1 (idle f).2
      · rcases meets with now | ⟨zero, unbarred⟩
        · exact sync now
        · exact waits.elim (by rw [zero]; decide) (by rw [unbarred]; decide)
    have ended := State.finishCell_expires (s := { s with came := [] }) stands engine flight image unmet old
    refine ⟨_, exec_of_finishCell standing rfl (ended ▸ State.expireCommit_noted _ r), ?_⟩
    rw [ended]
    obtain ⟨answered, room, full⟩ := State.answer_management
      ((State.withDrive { s with came := [] } w).growOlder.note .commitExpired) r .expired []
    rw [State.note_management, State.withDrive_aged] at room full
    refine ⟨rfl, ?_, answered, ?_, room, full⟩
    · rw [State.endWork_tables, State.expireCommit_tables, State.growOlder_tables, State.withDrive_tables]
    · rw [State.endWork_management, State.expireCommit, State.answer_deferralAge, State.note_management, State.withDrive_aged]
      rfl
  case gap =>
    obtain ⟨acts, hw, stage⟩ := standing
    have meets : r.command = some .commitNow ∨ (zeroCrossing s.tracker (s.liveAlone w) = true ∧ w.syncBarred = false) :=
      meets.imp_right fun ⟨unbarred, wraps⟩ => ⟨decide_eq_true wraps, unbarred⟩
    have advanced := State.advance_takes hw stage missing engine flight image (s.quiescent_iff.2 ⟨quiet, idle⟩) meets
    have worked : ((s.passMissing w).restartChecks.growOlder.takeCommit r).work
        = some { w with missing := w.missing - 1, commitDuring := true } := State.takeCommit_work _ r
    obtain ⟨b, switched⟩ := State.settleSwitch_work worked
    refine ⟨⟨{ w with missing := w.missing - 1, commitDuring := true, switches := b }, by rw [advanced]; exact switched, rfl, rfl, stage, rfl⟩, ?_, ?_, ?_⟩
    · rw [advanced, State.settleSwitch_tables, State.takeCommit_tables]
      rfl
    · rw [advanced, State.settleSwitch_management]
      exact State.answer_inFlight _ r .done []
    · have advanced := State.advance_takes (s := { s with came := [] }) hw stage missing engine flight image
        (s.quiescent_iff.2 ⟨quiet, idle⟩) meets
      refine exec_commitTakesEffect_of_advance acts hw ?_ ?_ <;> rw [advanced]
      · exact (State.settleSwitch_came _).symm ▸ State.takeCommit_noted _ r
      · exact (State.settleSwitch_tables _).trans (State.takeCommit_tables _ r)

end Sys2Proof.Machine
end

section
/-! The resets and the start of the image read: the power-on values, RESET held and released, and the invariants of the steps at
the reset state (R188, R190). -/
open Sys2Proof Sys2Proof.Machine
namespace Sys2Proof.Machine

/-! ### The power-on values -/

theorem exec_powerOnReset (s : State) : exec .powerOnReset s = .next s.powerOn := rfl

/-- Settles O3. -/
theorem powerOnResetGivesPowerOnValues : Obligations.PowerOnResetGivesPowerOnValues := by
  intro s
  have engine : ∀ f, s.powerOn.engines.get f = Engine.reset := PerFeeder.get_fill _
  refine ⟨s.powerOn, exec_powerOnReset s, rfl, rfl, rfl, rfl, rfl, rfl, rfl, fun f => ?readings, fun f => ?engine, rfl, rfl, rfl, rfl,
    PerFeeder.get_fill _, fun f p => ?histories, PerFeeder.get_fill _, rfl, rfl, rfl, rfl, rfl, rfl, rfl, rfl, rfl, rfl, rfl, rfl,
    rfl, rfl, rfl, rfl, rfl⟩
  case readings => exact ⟨PerFeeder.get_fill _ f, PerFeeder.get_fill _ f, PerFeeder.get_fill _ f⟩
  case engine =>
    rw [engine]
    exact ⟨rfl, rfl, rfl, rfl, rfl, rfl, rfl, rfl, rfl, rfl, rfl⟩
  case histories =>
    have empty : s.powerOn.verifier.histories.get f = ⟨[], [], []⟩ := PerFeeder.get_fill _ f
    have zero : s.powerOn.verifier.mismatches.get f = ⟨0, 0, 0⟩ := PerFeeder.get_fill _ f
    rw [empty, zero]
    cases p <;> exact ⟨rfl, rfl⟩

/-! ### RESET held and released -/

theorem State.ready_held {s : State} (held : s.inReset = true) (act : State → State) : s.ready act = s := if_pos held

/-- A part held in reset stays as it is at every command but POWER_ON_RESET and RESET_RELEASE (log entry 5). -/
theorem exec_of_held {s : State} (held : s.inReset = true) {c : Instr} (powerOn : c ≠ .powerOnReset)
    (release : ∀ x, c ≠ .resetRelease x) : exec c s = .next s := by
  cases c
  case powerOnReset => exact absurd rfl powerOn
  case resetRelease x => exact absurd rfl (release x)
  all_goals exact congrArg Host.Outcome.next (State.ready_held held _)

theorem exec_resetRelease_of_held {s : State} (held : s.inReset = true) (x : BitVec 2) :
    exec (.resetRelease x) s = .next (s.release x) :=
  congrArg Host.Outcome.next (if_pos held)

/-- Out of reset, RESET_RELEASE carries out what is due and nothing else (log entries 3 and 4). -/
theorem exec_resetRelease_of_awake {s : State} (awake : s.inReset = false) (x : BitVec 2) :
    exec (.resetRelease x) s = .next s.carryDue :=
  congrArg Host.Outcome.next (if_neg (Bool.eq_false_iff.1 awake))

/-- Nothing comes about where no cell is being worked. -/
theorem State.comesAbout_of_none {s : State} (h : s.work = none) (x : Occurrence) : State.comesAbout x s = s := by
  have rest : s.restOfWork = { s with came := [] } := State.finishWork_of_none h
  rw [State.comesAbout, rest]
  exact if_neg List.not_mem_nil

theorem State.commitImage_work_of_none {s : State} (h : s.work = none) : s.commitImage.work = none := by
  rw [State.commitImage, State.autoEnlist_work]
  exact congrArg (Option.map _) h

/-- An image's commit that is due with no cell being worked is all that IMAGE_COMMIT carries out (R192). -/
theorem exec_imageCommit_of_due {s : State} (awake : s.inReset = false) (due : s.due = some .imageCommit) (idle : s.work = none) :
    exec .imageCommit s = .next s.commitImage := by
  have carried : s.carryDue = s.commitImage := by rw [State.carryDue, due]
  rw [exec_carryDue awake (State.carryDue_acts awake) (by decide)]
  refine congrArg Host.Outcome.next ((State.ready_acts (State.carryDue_acts awake) _).trans ?_)
  rw [carried, State.comesAbout_of_none (State.commitImage_work_of_none idle)]

/-- Settles O4. -/
theorem resetReleaseStartsTheImageRead : Obligations.ResetReleaseStartsTheImageRead := by
  refine ⟨fun s x held => exec_resetRelease_of_held held x, fun s x awake => ⟨fun idle => ?_, fun due => ?_, fun due idle => ?_⟩,
    fun s t x held released => ?_, fun c s held powerOn release => exec_of_held held powerOn release⟩
  · rw [exec_resetRelease_of_awake awake, State.carryDue_of_none idle]
  · rw [exec_resetRelease_of_awake awake, exec_managementReset_of_due awake due, State.carryDue, due]
  · rw [exec_resetRelease_of_awake awake, exec_imageCommit_of_due awake due idle, State.carryDue, due]
  · obtain rfl := Host.Outcome.next.inj ((exec_resetRelease_of_held held x).symm.trans released)
    rfl

/-! ### The invariants at the reset state -/

/-- Settles O58. -/
theorem invariantsHoldAtReset : Obligations.InvariantsHoldAtReset := by
  have banks : banksSound State.reset := ⟨by decide, fun _ => by decide⟩
  have queues : queuesBounded State.reset := ⟨Nat.zero_le _, Nat.zero_le _, Nat.zero_le _, Ingress.bounded_reset.2⟩
  have flags : flagsSound State.reset := FlagUnit.sound_reset (by decide)
  have tables : tablesInCatalogue State.reset := ⟨Bank.default_inCatalogue, Bank.default_inCatalogue, nofun, nofun⟩
  exact ⟨gainsSound.reset rfl, Monitor.exact_reset, banks, Banded.powerOn State.reset, SlotView.sound.powerOn State.reset, queues,
    flags, rfl, rfl, tables⟩

end Sys2Proof.Machine
end

section
/-! The records of an image: their words read back, and which records are known (R16, R171, R189, R191). -/
open Sys2Proof Sys2Proof.Machine
namespace Sys2Proof.Machine

/-! ### Records and their words -/

/-- A record's words: its command word, the length of its payload, and its payload (R189). -/
def recordWords (x : Word × List Word) : List Word := x.1 :: BitVec.ofNat 16 x.2.length :: x.2

/-- The request a record stands for (R189, R191). -/
def requestFor (x : Word × List Word) : Request := recordRequest x.1 x.2

/-- Records written one after the other are read as they were written (R189, R191). -/
theorem recordsOf_recordWords {records : List (Word × List Word)} (short : ∀ x ∈ records, x.2.length < 65536) {n : Nat}
    (room : (records.flatMap recordWords).length ≤ n) :
    recordsOf n (records.flatMap recordWords) = some (records.map requestFor) := by
  induction records generalizing n with
  | nil => cases n <;> rfl
  | cons x records ih =>
    obtain ⟨length, rest⟩ := List.forall_mem_cons.1 short
    have counted : (BitVec.ofNat 16 x.2.length).toNat = x.2.length := toNat_ofNat_word length
    rw [List.flatMap_cons] at room ⊢
    simp only [recordWords, List.cons_append, List.length_cons, List.length_append] at room ⊢
    obtain ⟨k, rfl⟩ : ∃ k, n = k + 1 := ⟨n - 1, by omega⟩
    rw [recordsOf, counted, if_pos (by simp), List.drop_left, List.take_left]
    exact congrArg (Option.map _) (ih rest (by omega))

/-- Words that are read as records are the words of those records (R189, R191). -/
theorem exists_recordWords {n : Nat} {words : List Word} {requests : List Request} (h : recordsOf n words = some requests) :
    ∃ records : List (Word × List Word), words = records.flatMap recordWords ∧ (∀ x ∈ records, x.2.length < 65536)
      ∧ requests = records.map requestFor := by
  induction n generalizing words requests with
  | zero =>
    cases words with
    | nil => cases h; exact ⟨[], rfl, nofun, rfl⟩
    | cons => cases h
  | succ n ih =>
    match words with
    | [] => cases h; exact ⟨[], rfl, nofun, rfl⟩
    | [_] => cases h
    | command :: length :: rest =>
      rw [recordsOf] at h
      split at h
      next fits =>
        obtain ⟨later, read, rfl⟩ := Option.map_eq_some_iff.1 h
        obtain ⟨records, words, short, rfl⟩ := ih read
        have taken : (rest.take length.toNat).length = length.toNat := List.length_take_of_le fits
        refine ⟨(command, rest.take length.toNat) :: records, ?_, List.forall_mem_cons.2 ⟨taken.trans_lt length.isLt, short⟩, rfl⟩
        rw [List.flatMap_cons, ← words, recordWords, taken, BitVec.ofNat_toNat, BitVec.setWidth_eq, List.cons_append,
          List.cons_append, List.take_append_drop]
      next => cases h

/-! ### Which requests store a bank -/

/-- The bank a write stores, if it stores one. -/
def Written.bank : Written → Option Bank
  | .stored bank _ _ => some bank
  | .refused _ => none

theorem Bank.applyRecord_eq (b : Bank) (r : Request) : b.applyRecord r = (b.written r).bank := by
  unfold Bank.applyRecord
  cases b.written r <;> rfl

section
variable (b : Bank) {r : Request}

theorem Request.feeder_ne_none_iff : r.feeder ≠ none ↔ r.target.toNat ≤ 3 := by
  constructor
  · exact fun named => Nat.le_of_not_lt fun high => named (Request.feeder_of_high high)
  · intro low
    obtain ⟨f, number⟩ := (by decide : ∀ n ≤ 3, ∃ f ∈ Feeder.all, n = f.number) _ low
    rw [Request.feeder_of_target number.2]
    exact nofun

/-- WRITE_SETTING writes a device item for target 15 and a feeder item for a target that names a feeder (R178). -/
theorem Bank.writeSetting_stores_iff :
    (b.writeSetting r).bank ≠ none ↔
      ((r.word 0).toNat ∈ List.range' 1 25 ∧ r.target = 15) ∨ ((r.word 0).toNat ∈ List.range' 32 14 ∧ r.target.toNat ≤ 3) := by
  by_cases device : (r.word 0).toNat ∈ List.range' 1 25
  · obtain ⟨d, -, number⟩ := (by decide : ∀ n ∈ List.range' 1 25, ∃ d ∈ DeviceItem.all, n = d.number) _ device
    have only : (r.word 0).toNat ∉ List.range' 32 14 := (by decide : ∀ n ∈ List.range' 1 25, n ∉ List.range' 32 14) _ device
    rw [b.writeSetting_device number]
    split
    next target => exact iff_of_true nofun (.inl ⟨device, target⟩)
    next target => exact iff_of_false (· rfl) (fun known => known.elim (target ·.2) (only ·.1))
  · by_cases feeder : (r.word 0).toNat ∈ List.range' 32 14
    · obtain ⟨i, -, number⟩ := (by decide : ∀ n ∈ List.range' 32 14, ∃ i ∈ FeederItem.all, n = i.number) _ feeder
      have named := r.feeder_ne_none_iff
      cases target : r.feeder with
      | none =>
        rw [b.writeSetting_noFeeder number target]
        exact iff_of_false (· rfl) (fun known => known.elim (device ·.1) (fun low => named.2 low.2 target))
      | some f =>
        rw [b.writeSetting_feeder number target]
        exact iff_of_true nofun (.inr ⟨feeder, named.1 (target ▸ nofun)⟩)
    · rw [b.writeSetting_unknown (fun listed => (List.mem_append.1 listed).elim device feeder)]
      exact iff_of_false (· rfl) (fun known => known.elim (device ·.1) (feeder ·.1))

theorem Bank.loadEnvelope_stores_iff : (b.loadEnvelope r).bank ≠ none ↔ r.target.toNat ≤ 3 := by
  rw [← Request.feeder_ne_none_iff, Bank.loadEnvelope]
  cases r.feeder with
  | none => exact iff_of_false (· rfl) (· rfl)
  | some f => exact iff_of_true nofun nofun

theorem Mode.ofResponseCode_ne_none_iff {n : Nat} : Mode.ofResponseCode n ≠ Option.none ↔ n ≤ 3 := by
  match n with
  | 0 | 1 | 2 | 3 => exact iff_of_true nofun (by decide)
  | n + 4 => exact iff_of_false (· rfl) (by omega)

/-- A payload of pairs is read exactly where every class is 0 to 15 and every mode code 0 to 3 (R76). -/
theorem responseEntries_ne_none_iff : ∀ {payload : List Word}, payload.length % 2 = 0 →
    (responseEntries payload ≠ none ↔ ∀ i, i < payload.length → (payload.getD i 0).toNat ≤ if i % 2 = 0 then 15 else 3)
  | [], _ => iff_of_true nofun nofun
  | [_], even => by cases even
  | c :: m :: rest, even => by
    have later := responseEntries_ne_none_iff (payload := rest) (by simp only [List.length_cons] at even; omega)
    have first : (responseEntries (c :: m :: rest) ≠ none)
        ↔ c.toNat ≤ 15 ∧ Mode.ofResponseCode m.toNat ≠ none ∧ responseEntries rest ≠ none := by
      rw [responseEntries]
      cases Mode.ofResponseCode m.toNat <;> cases responseEntries rest <;> simp
    rw [first, Mode.ofResponseCode_ne_none_iff, later, List.length_cons, List.length_cons, Nat.forall_lt_succ_left,
      Nat.forall_lt_succ_left]
    simp [Nat.add_assoc]

theorem Bank.loadResponse_stores_iff :
    (b.loadResponse r).bank ≠ none ↔ r.target.toNat ≤ 3 ∧ responseEntries r.payload ≠ none := by
  rw [← Request.feeder_ne_none_iff, Bank.loadResponse]
  cases r.feeder <;> cases responseEntries r.payload <;> simp [Written.bank]

/-! ### Known records -/

/-- A record makes a bank exactly where it is known, whatever the bank (R191). -/
theorem Bank.applyRecord_ne_none_iff (x : Word × List Word) : b.applyRecord (requestFor x) ≠ none ↔ recordKnown x.1 x.2 := by
  rw [Bank.applyRecord_eq, Bank.written]
  by_cases allowed : commandTableAllows (x.1.extractLsb' 8 8) (x.1.extractLsb' 0 4) x.2 = true
  · obtain ⟨c, code, row⟩ := (commandTableAllows_iff _ _ _).1 allowed
    have command : (requestFor x).command = some c := by
      rw [Request.command, if_neg (by simp [requestFor, recordRequest, allowed])]
      exact (Command.ofCode_eq_some_iff _ c).2 code
    have row := (c.row_iff _ _).1 row
    rw [command]
    cases c
    case writeSetting =>
      refine b.writeSetting_stores_iff.trans ⟨fun stores => ⟨allowed, .inl ⟨code, stores⟩⟩, ?_⟩
      rintro ⟨-, ⟨-, stores⟩ | other | ⟨other, -⟩⟩
      · exact stores
      · exact absurd (code.symm.trans other) (by decide)
      · exact absurd (code.symm.trans other) (by decide)
    case loadEnvelope => exact iff_of_true (b.loadEnvelope_stores_iff.2 row.1) ⟨allowed, .inr (.inl code)⟩
    case loadResponse =>
      obtain ⟨target, even, -⟩ := row
      refine b.loadResponse_stores_iff.trans ⟨fun stores => ?_, ?_⟩
      · exact ⟨allowed, .inr (.inr ⟨code, (responseEntries_ne_none_iff even).1 stores.2⟩)⟩
      · rintro ⟨-, ⟨other, -⟩ | other | ⟨-, named⟩⟩
        · exact absurd (code.symm.trans other) (by decide)
        · exact absurd (code.symm.trans other) (by decide)
        · exact ⟨target, (responseEntries_ne_none_iff even).2 named⟩
    all_goals exact iff_of_false (· rfl) (by simp [recordKnown, code, Command.code])
  · have command : (requestFor x).command = none := if_pos (by simp [requestFor, recordRequest, allowed])
    rw [command]
    exact iff_of_false (· rfl) fun known => allowed known.1

end

/-- Records make a bank exactly where every one of them is known, whatever the bank (R191). -/
theorem Bank.applyRecords_ne_none_iff (b : Bank) (records : List (Word × List Word)) :
    b.applyRecords (records.map requestFor) ≠ none ↔ ∀ x ∈ records, recordKnown x.1 x.2 := by
  induction records generalizing b with
  | nil => exact iff_of_true nofun nofun
  | cons x records ih =>
    have known := b.applyRecord_ne_none_iff x
    rw [List.map_cons, Bank.applyRecords, List.forall_mem_cons]
    cases applied : b.applyRecord (requestFor x) with
    | none => exact iff_of_false (· rfl) fun all => known.2 all.1 applied
    | some c => exact (ih c).trans (and_iff_right (known.1 (applied ▸ nofun))).symm

end Sys2Proof.Machine
end

section
/-! The end of the image read: which images make no bank, and what becomes of the load (R189, R191 to R193). -/
open Sys2Proof Sys2Proof.Machine
namespace Sys2Proof.Machine

/-! ### The image -/

section
variable (m : Memory)

/-- The signature, the version, the count of record words and the check word are right (R189, R191). -/
def Memory.imageFramed : Prop :=
  m.readWord 0 = 0x5A3C ∧ m.readWord 1 = 1 ∧ (m.readWord 2).toNat ≤ 2048
    ∧ m.readWord ((m.readWord 2).toNat + 3) = crc16 (m.readWords ((m.readWord 2).toNat + 3))

/-- The words from the fourth on that the image counts (R189). -/
def Memory.recordWords : List Word := (List.range (m.readWord 2).toNat).map fun i => m.readWord (i + 3)

theorem Memory.drop_readWords (n : Nat) : (m.readWords (n + 3)).drop 3 = (List.range n).map fun i => m.readWord (i + 3) := by
  rw [Memory.readWords, Nat.add_comm, List.range_add, List.map_append, List.drop_left' (by simp), List.map_map]
  exact List.map_congr_left fun i _ => congrArg m.readWord (Nat.add_comm 3 i)

theorem Memory.imageRecords_of_framed (h : m.imageFramed) : m.imageRecords = some m.recordWords := by
  obtain ⟨signature, version, few, check⟩ := h
  rw [Memory.imageRecords, signature, version, if_pos ⟨rfl, rfl, few⟩, if_pos check, m.drop_readWords]
  rfl

theorem Memory.imageRecords_of_unframed (h : ¬ m.imageFramed) : m.imageRecords = none := by
  unfold Memory.imageRecords
  dsimp only
  split
  next header =>
    obtain ⟨signature, version, few⟩ := header
    exact if_neg fun check => h ⟨BitVec.eq_of_toNat_eq signature, BitVec.eq_of_toNat_eq version, few, check⟩
  next => rfl

/-- An image makes a bank of any bank where it is framed and its record words are a sequence of known records (R191). -/
theorem Memory.imageBank_ne_none_iff (base : Bank) :
    m.imageBank base ≠ none ↔ m.imageFramed ∧ ∃ records : List (Word × List Word),
      m.recordWords = records.flatMap Machine.recordWords ∧ ∀ x ∈ records, x.2.length < 65536 ∧ recordKnown x.1 x.2 := by
  by_cases framed : m.imageFramed
  · rw [Memory.imageBank, m.imageRecords_of_framed framed, and_iff_right framed]
    dsimp only
    constructor
    · intro bank
      cases read : recordsOf m.recordWords.length m.recordWords with
      | none => rw [read] at bank; exact absurd rfl bank
      | some requests =>
        rw [read] at bank
        obtain ⟨records, words, short, rfl⟩ := exists_recordWords read
        exact ⟨records, words, fun x hx => ⟨short x hx, (base.applyRecords_ne_none_iff records).1 bank x hx⟩⟩
    · rintro ⟨records, words, all⟩
      rw [words, recordsOf_recordWords (fun x hx => (all x hx).1) le_rfl]
      exact (base.applyRecords_ne_none_iff records).2 fun x hx => (all x hx).2
  · rw [Memory.imageBank, m.imageRecords_of_unframed framed]
    exact iff_of_false (· rfl) fun known => framed known.1

/-- An image makes no bank exactly where one of its parts is wrong (R191). -/
theorem Memory.imageBank_eq_none_iff (base : Bank) :
    m.imageBank base = none ↔
      m.readWord 0 ≠ 0x5A3C ∨ m.readWord 1 ≠ 1 ∨ 2048 < (m.readWord 2).toNat
        ∨ m.readWord ((m.readWord 2).toNat + 3) ≠ crc16 (m.readWords ((m.readWord 2).toNat + 3))
        ∨ ¬ ∃ records : List (Word × List Word),
          m.recordWords = records.flatMap Machine.recordWords ∧ ∀ x ∈ records, x.2.length < 65536 ∧ recordKnown x.1 x.2 := by
  rw [← not_iff_not, ← ne_eq, m.imageBank_ne_none_iff, Memory.imageFramed]
  simp only [not_or, not_not, Nat.not_lt, ne_eq, and_assoc]

end

/-! ### The read ends -/

section
variable {s : State} (acts : s.acts) (reading : s.loader.state = .reading)
include acts reading

theorem exec_imageReadComplete_of_reading (answer : MemoryAnswer) :
    exec (.imageReadComplete answer) s = .next (s.readEnds answer) :=
  congrArg Host.Outcome.next ((State.ready_acts acts _).trans (if_pos reading))

end

/-- A load that fails leaves the defaults, which name no feeder to enlist, IMAGE_FAULT latched, and the loader IDLE (R191, R193). -/
theorem State.failLoad_eq (s : State) (outcome : LoadOutcome) :
    s.failLoad outcome = { s with
      tables := { active := Bank.default, shadow := Bank.default }
      flags := { s.flags with latched := s.flags.latched ||| (1#32 <<< 9) }
      loader := { s.loader with state := .idle, outcome := some outcome } } :=
  State.autoEnlist_of_none (show Bank.default.enlisted = [] by decide)

/-- An image that passes validation is committed at once only between two cells' work, in ACQUIRING or NORMAL (R191, R192). -/
theorem State.passLoad_eq (s : State) (b : Bank) :
    s.passLoad b = { s with
      tables := { s.tables with shadow := b }
      loader := { s.loader with state := .waiting }
      due := if (s.work.all fun w => decide (w.stage = .accepted)) = true
              ∧ (s.monitor.sag = .acquiring ∨ s.monitor.sag = .normal) then some .imageCommit
          else none } := by
  have between : s.betweenCells = s.work.all fun w => decide (w.stage = .accepted) := by
    unfold State.betweenCells
    cases s.work <;> rfl
  rw [State.passLoad, between]
  simp only [Bool.and_eq_true, SagState.quietState_iff]

theorem State.loadImage_of_corrupt {s : State} (h : s.memory.imageBank s.tables.shadow = none) :
    s.loadImage = s.failLoad .corrupt := by
  rw [State.loadImage, h]

theorem State.loadImage_of_some {s : State} {b : Bank} (h : s.memory.imageBank s.tables.shadow = some b) :
    s.loadImage = if b.valid then s.passLoad b else s.failLoad .invalid := by
  rw [State.loadImage, h]

theorem Bank.valid_iff (b : Bank) : b.valid = true ↔ b.fault = none := Option.isNone_iff_eq_none

/-- Settles O49. -/
theorem imageReadDecidesTheLoad : Obligations.ImageReadDecidesTheLoad := by
  refine ⟨fun s acts reading => ?silent, fun s acts reading corrupt => ?corrupt, fun s b acts reading image fault => ?invalid,
    fun s b acts reading image passes => ?passes, fun s bytes acts reading => ⟨?replaced, fun m base n count => ?unread⟩⟩
  case silent =>
    rw [exec_imageReadComplete_of_reading acts reading]
    exact congrArg Host.Outcome.next (s.failLoad_eq .absent)
  case corrupt =>
    rw [exec_imageReadComplete_of_reading acts reading]
    exact congrArg Host.Outcome.next ((State.loadImage_of_corrupt corrupt).trans (s.failLoad_eq .corrupt))
  case invalid =>
    rw [exec_imageReadComplete_of_reading acts reading, State.readEnds, State.loadImage_of_some image,
      if_neg (mt b.valid_iff.1 fault), State.failLoad_eq]
  case passes =>
    rw [exec_imageReadComplete_of_reading acts reading, State.readEnds, State.loadImage_of_some image,
      if_pos (b.valid_iff.2 passes), State.passLoad_eq]
  case replaced =>
    rw [exec_imageReadComplete_of_reading acts reading,
      exec_imageReadComplete_of_reading (s := { s with memory := Memory.ofBytes bytes }) acts reading]
    rfl
  case unread =>
    subst count
    exact m.imageBank_eq_none_iff base

end Sys2Proof.Machine
end

section
/-! IMAGE_COMMIT: what the commit of an image leaves, made at once or at the end of a cell's work, with the feeders that AUTO_ENLIST
names (R140, R185, R192, R193). -/
open Sys2Proof Sys2Proof.Machine
namespace Sys2Proof.Machine

/-! ### Auto-enlist -/

section
variable (s : State)

/-- Auto-enlist takes the feeders AUTO_ENLIST names to ENLISTING and leaves the others (R140). -/
theorem State.autoEnlist_engine (f : Feeder) :
    s.autoEnlist.engines.get f
      = if s.tables.active.autoEnlist.testBit f.number then (s.engines.get f).enter .enlisting else s.engines.get f := by
  rw [← if_congr (s.tables.active.mem_enlisted f) rfl rfl]
  by_cases none : s.tables.active.enlisted = []
  · rw [State.autoEnlist_of_none none, none, if_neg List.not_mem_nil]
  · rw [State.autoEnlist_of_some none]
    exact PerFeeder.get_build _ f

/-- No history changes (R143). -/
theorem State.autoEnlist_histories : s.autoEnlist.verifier.histories = s.verifier.histories := by
  unfold State.autoEnlist
  split <;> rfl

variable {s}

/-- A feeder that auto-enlist takes to ENLISTING from another state raises FEEDER_CHANGE (R140, R156). -/
theorem State.autoEnlist_raises {f : Feeder} (named : s.tables.active.autoEnlist.testBit f.number = true)
    (outside : (s.engines.get f).state ≠ .enlisting) :
    s.autoEnlist.flags.latched.getLsbD 10 = true ∧ s.autoEnlist.flags.changed.get f = true := by
  have listed : f ∈ s.tables.active.enlisted := (s.tables.active.mem_enlisted f).2 named
  have moves : (s.engines.get f).state ≠ (s.enginesEnlisted.get f).state := by
    rw [State.enginesEnlisted, PerFeeder.get_build, if_pos listed]
    exact outside
  rw [State.autoEnlist_of_some (List.ne_nil_of_mem listed)]
  constructor
  · refine (FlagUnit.raiseChanges_latched _ _ _ 10 (by decide)).trans ?_
    have raised : (Feeder.all.any fun g => decide ((s.engines.get g).state ≠ (s.enginesEnlisted.get g).state)) = true :=
      List.any_eq_true.2 ⟨f, Feeder.mem_all f, decide_eq_true moves⟩
    rw [State.announce_engines, raised, decide_eq_true rfl, Bool.and_true, Bool.or_true]
  · refine (FlagUnit.raiseChanges_changed _ _ _ f).trans ?_
    rw [State.announce_engines, decide_eq_true moves, Bool.or_true]

theorem State.autoEnlist_pendingMap (named : s.tables.active.autoEnlist % 16 ≠ 0) :
    s.autoEnlist.maps.pending = some { epoch := 1, feeders := s.tables.active.enlisted } := by
  rw [State.autoEnlist_of_some (mt s.tables.active.enlisted_eq_nil_iff.1 named)]
  rfl

end

/-! ### The commit of an image -/

/-- What the commit of the image that waited in s leaves in t (R185, R192, R193, R140). -/
structure State.imageCommitted (s t : State) : Prop where
  due : t.due = none
  tables : t.tables = { active := s.tables.shadow, shadow := s.tables.shadow }
  loader : t.loader.state = .idle ∧ t.loader.outcome = some .loaded
  histories : ∀ f p, (t.verifier.histories.get f).get p = []
  amplitude : t.tracker.amplitudeRef = s.tables.shadow.clampAmplitude s.tracker.amplitudeRef
  enlists : ∀ f : Feeder, t.engines.get f
    = if s.tables.shadow.autoEnlist.testBit f.number then (s.engines.get f).enter .enlisting else s.engines.get f
  raises : ∀ f : Feeder, s.tables.shadow.autoEnlist.testBit f.number = true → (s.engines.get f).state = .offline →
    t.flags.latched.getLsbD 10 = true ∧ t.flags.changed.get f = true
  pending : s.tables.shadow.autoEnlist % 16 ≠ 0 → t.maps.pending = some { epoch := 1, feeders := s.tables.shadow.enlisted }

/-- The state with the image's bank taken and the loader IDLE, before auto-enlist (R192). -/
def State.imageTaken (s : State) : State :=
  { s.commitBank with
    loader := { s.loader with state := .idle, outcome := some .loaded }
    came := s.came ++ [.imageCommit]
    due := none }

theorem State.commitImage_eq (s : State) : s.commitImage = s.imageTaken.autoEnlist := rfl

theorem State.imageCommitted_commitImage (s : State) : s.imageCommitted s.commitImage := by
  rw [State.commitImage_eq]
  refine ⟨State.autoEnlist_due _, State.autoEnlist_tables _, ?_, fun f p => ?_, ?_, s.imageTaken.autoEnlist_engine,
    fun f named offline => ?_, s.imageTaken.autoEnlist_pendingMap⟩
  · rw [State.autoEnlist_loader]
    exact ⟨rfl, rfl⟩
  · rw [State.autoEnlist_histories]
    exact s.verifier.empty_history f p
  · rw [State.autoEnlist_tracker]
    rfl
  · exact s.imageTaken.autoEnlist_raises named (by change (s.engines.get f).state ≠ _; rw [offline]; decide)

/-- The commit at the end of a cell's work finds the shadow bank, the tracker and the engines as the work left them. -/
theorem State.imageCommitted.before {s u t : State} (h : u.imageCommitted t) (tables : u.tables = s.tables)
    (tracker : u.tracker = s.tracker) (engines : u.engines = s.engines) : s.imageCommitted t := by
  obtain ⟨due, banks, loader, histories, amplitude, enlists, raises, pending⟩ := h
  rw [tables] at banks amplitude enlists raises pending
  rw [tracker] at amplitude
  rw [engines] at enlists raises
  exact ⟨due, banks, loader, histories, amplitude, enlists, raises, pending⟩

/-- A SET_ECHO settled after the commit leaves what the commit left (R23). -/
theorem State.imageCommitted.settled {s t : State} (h : s.imageCommitted t) : s.imageCommitted t.settleEcho.endWork := by
  obtain ⟨due, banks, loader, histories, amplitude, enlists, raises, pending⟩ := h
  constructor
  all_goals simpa

/-! ### At the end of a cell's work -/

section
variable {s : State} {w : Work}

/-- In ACQUIRING or NORMAL, with no commit deferred, the image in WAITING is committed at the cell's end (R192). -/
theorem State.finishCell_commits (image : s.loader.state = .waiting) (quiet : s.monitor.sag = .acquiring ∨ s.monitor.sag = .normal)
    (engine : s.management.engine ≠ .deferred) :
    s.finishCell w = (s.withDrive w).commitImage.settleEcho.endWork := by
  have commits : (s.withDrive w).waitImage = (s.withDrive w).commitImage :=
    if_pos ⟨by rwa [State.withDrive_loader], by rwa [State.withDrive_monitor, SagState.quietState_iff]⟩
  rw [State.finishCell_eq, State.endCell, State.ageCommit_of_ne (by rwa [State.withDrive_management]), commits]

theorem State.finishCell_imageCommitted (image : s.loader.state = .waiting)
    (quiet : s.monitor.sag = .acquiring ∨ s.monitor.sag = .normal) (engine : s.management.engine ≠ .deferred)
    (stands : s.changeStands w.bank) : s.imageCommitted (s.finishCell w) := by
  rw [State.finishCell_commits image quiet engine]
  exact (State.imageCommitted_commitImage _).settled.before (s.withDrive_tables w) (s.withDrive_tracker w)
    (State.withDrive_engines_of_stands stands)

theorem State.finishCell_notes_imageCommit (image : s.loader.state = .waiting)
    (quiet : s.monitor.sag = .acquiring ∨ s.monitor.sag = .normal) (engine : s.management.engine ≠ .deferred) :
    .imageCommit ∈ (s.finishCell w).came := by
  rw [State.finishCell_commits image quiet engine, State.endWork_came, State.settleEcho_came, State.commitImage_eq,
    State.autoEnlist_came]
  exact List.mem_append_right _ (List.mem_singleton_self _)

end

/-- IMAGE_COMMIT leaves no cell being worked and the image committed, at once or at the end of the cell's work (R192). -/
theorem exec_imageCommit {s : State} (awake : s.inReset = false)
    (now : (s.due = some .imageCommit ∧ s.work = none)
      ∨ (∃ w, s.standsIn w .engined ∧ s.loader.state = .waiting ∧ (s.monitor.sag = .acquiring ∨ s.monitor.sag = .normal)
          ∧ s.maps.pending = none ∧ s.management.engine ≠ .deferred)) :
    ∃ t, exec .imageCommit s = .next t ∧ t.work = none ∧ s.imageCommitted t := by
  rcases now with ⟨due, idle⟩ | ⟨w, standing, image, quiet, pending, engine⟩
  · exact ⟨_, exec_imageCommit_of_due awake due idle, State.commitImage_work_of_none idle, s.imageCommitted_commitImage⟩
  · exact ⟨_, exec_of_finishCell standing rfl (State.finishCell_notes_imageCommit image quiet engine), State.finishCell_work _ _,
      (State.finishCell_imageCommitted (s := { s with came := [] }) image quiet engine (.inl pending)).before rfl rfl rfl⟩

/-- Settles O50. -/
theorem imageCommitFinishesTheLoad : Obligations.ImageCommitFinishesTheLoad := by
  intro s awake now
  obtain ⟨t, ran, idle, due, tables, ⟨loader, outcome⟩, histories, amplitude, enlists, raises, pending⟩ := exec_imageCommit awake now
  refine ⟨t, ran, idle, due, tables, loader, outcome, histories, amplitude, fun f named offline => ?_, fun f unnamed => ?_, pending⟩
  · rw [enlists, if_pos named]
    exact ⟨rfl, rfl, raises f named offline⟩
  · rw [enlists, unnamed]
    rfl

end Sys2Proof.Machine
end

section
/-! The page writes of a save and the memory they leave: an image read back word by word, and the signature blank until the last
write (R186, R189, R191, R194). -/
open Sys2Proof Sys2Proof.Machine
namespace Sys2Proof.Machine

/-! ### Bytes written from an address on -/

/-- A read after bytes were written: the byte at its place among them, and every other byte as before. -/
theorem Memory.read_writeFrom {m : Memory} (h : m.wf = true) (bytes : List Byte) (a x : Nat) :
    (m.writeFrom a bytes).read x = if a ≤ x then bytes[x - a]?.getD (m.read x) else m.read x := by
  induction bytes generalizing m a with
  | nil => simp [Memory.writeFrom]
  | cons b rest ih =>
    rw [Memory.writeFrom, ih (Memory.wf_write h a b), Memory.read_write h]
    rcases Nat.lt_trichotomy x a with below | rfl | above
    · rw [if_neg (by omega), if_neg (by omega), if_neg (by omega)]
    · rw [if_neg (by omega), if_pos rfl, if_pos le_rfl, Nat.sub_self]
      rfl
    · obtain ⟨k, rfl⟩ : ∃ k, x = a + 1 + k := ⟨x - (a + 1), by omega⟩
      rw [if_pos (by omega), if_neg (by omega), if_pos (by omega), show a + 1 + k - a = k + 1 by omega,
        List.getElem?_cons_succ, Nat.add_sub_cancel_left]

theorem Memory.writeFrom_append (m : Memory) (a : Nat) (front back : List Byte) :
    m.writeFrom a (front ++ back) = (m.writeFrom a front).writeFrom (a + front.length) back := by
  induction front generalizing m a with
  | nil => rfl
  | cons b front ih =>
    rw [List.cons_append, Memory.writeFrom, ih, List.length_cons, Nat.add_right_comm, Nat.add_assoc a]
    rfl

/-! ### Page writes -/

theorem writePages_cons (m : Memory) (x : PageWrite) (writes : List PageWrite) :
    writePages m (x :: writes) = writePages (m.writeFrom x.address x.bytes) writes := rfl

theorem writePages_append (m : Memory) (front back : List PageWrite) :
    writePages m (front ++ back) = writePages (writePages m front) back := List.foldl_append

theorem Memory.wf_writePages {m : Memory} (h : m.wf = true) (writes : List PageWrite) : (writePages m writes).wf = true := by
  induction writes generalizing m with
  | nil => exact h
  | cons x writes ih => exact ih (Memory.wf_writeFrom h _ _)

/-- A byte below every page written stays. -/
theorem Memory.read_writePages_below {m : Memory} (h : m.wf = true) {writes : List PageWrite} {a x : Nat}
    (above : ∀ p ∈ writes, a ≤ p.address) (below : x < a) : (writePages m writes).read x = m.read x := by
  induction writes generalizing m with
  | nil => rfl
  | cons p writes ih =>
    obtain ⟨first, rest⟩ := List.forall_mem_cons.1 above
    rw [writePages_cons, ih (Memory.wf_writeFrom h _ _) rest, Memory.read_writeFrom h, if_neg (by omega)]

/-- The pages of bytes lie from their first address on. -/
theorem pagesFrom_address {n a : Nat} {bytes : List Byte} : ∀ p ∈ pagesFrom n a bytes, a ≤ p.address := by
  induction n generalizing a bytes with
  | zero => exact nofun
  | succ n ih =>
    rw [pagesFrom]
    split
    · exact nofun
    · exact List.forall_mem_cons.2 ⟨le_rfl, fun p hp => (Nat.le_add_right _ _).trans (ih p hp)⟩

/-- Writing the pages of bytes, where they are pages enough, writes the bytes (R194). -/
theorem writePages_pagesFrom (m : Memory) {n a : Nat} {bytes : List Byte} (enough : bytes.length ≤ 32 * n) :
    writePages m (pagesFrom n a bytes) = m.writeFrom a bytes := by
  induction n generalizing m a bytes with
  | zero =>
    obtain rfl := List.length_eq_zero_iff.1 (Nat.le_zero.1 enough)
    rfl
  | succ n ih =>
    rw [pagesFrom]
    split
    next empty => rw [empty]; rfl
    next =>
      have later := ih (m.writeFrom a (bytes.take 32)) (a := a + 32) (bytes := bytes.drop 32) (by rw [List.length_drop]; omega)
      rw [writePages_cons]
      refine later.trans ?_
      by_cases last : bytes.length ≤ 32
      · rw [List.drop_of_length_le last, List.take_of_length_le last]
        rfl
      · conv_rhs => rw [← List.take_append_drop 32 bytes, Memory.writeFrom_append, List.length_take_of_le (by omega)]

/-! ### The writes of a save -/

/-- The first page of bytes with its signature blank, the pages after it, and the first page again (R194). -/
theorem saveWrites_imagePages {bytes : List Byte} (nonempty : bytes ≠ []) :
    saveWrites (imagePages bytes)
      = ⟨0, 0 :: 0 :: (bytes.take 32).drop 2⟩ :: pagesFrom (bytes.length / 32) 32 (bytes.drop 32) ++ [⟨0, bytes.take 32⟩] := by
  rw [imagePages, pagesFrom, if_neg nonempty]
  rfl

/-- Once every page write is acknowledged, the memory holds the bytes from address 0 on (R194). -/
theorem Memory.read_saved {m : Memory} (h : m.wf = true) {bytes : List Byte} (nonempty : bytes ≠ []) {x : Nat} (hx : x < bytes.length) :
    (writePages m (saveWrites (imagePages bytes))).read x = bytes[x] := by
  have blanked := Memory.wf_writeFrom h 0 (0 :: 0 :: (bytes.take 32).drop 2)
  rw [saveWrites_imagePages nonempty, List.cons_append, writePages_cons, writePages_append,
    writePages_pagesFrom _ (by rw [List.length_drop]; omega), writePages_cons]
  refine (Memory.read_writeFrom (Memory.wf_writeFrom blanked 32 (bytes.drop 32)) (bytes.take 32) 0 x).trans ?_
  rw [if_pos (Nat.zero_le x), Nat.sub_zero]
  by_cases first : x < 32
  · rw [List.getElem?_take_of_lt first, List.getElem?_eq_getElem hx, Option.getD_some]
  · have past : (bytes.take 32)[x]? = none := List.getElem?_eq_none (by rw [List.length_take]; omega)
    rw [past, Option.getD_none, Memory.read_writeFrom blanked, if_pos (by omega), List.getElem?_drop,
      Nat.add_sub_cancel' (by omega), List.getElem?_eq_getElem hx, Option.getD_some]

/-- Until the last page write is acknowledged, the signature stands blank (R194). -/
theorem Memory.read_saving {m : Memory} (h : m.wf = true) {bytes : List Byte} (nonempty : bytes ≠ []) {k : Nat} (begun : 1 ≤ k)
    (unfinished : k < (saveWrites (imagePages bytes)).length) {x : Nat} (signature : x < 2) :
    (writePages m ((saveWrites (imagePages bytes)).take k)).read x = 0 := by
  obtain ⟨k, rfl⟩ : ∃ j, k = j + 1 := ⟨k - 1, by omega⟩
  rw [saveWrites_imagePages nonempty, List.cons_append] at unfinished ⊢
  simp only [List.length_cons, List.length_append, List.length_nil] at unfinished
  rw [List.take_succ_cons, List.take_append_of_le_length (by omega), writePages_cons,
    Memory.read_writePages_below (Memory.wf_writeFrom h _ _) (fun p hp => pagesFrom_address p (List.mem_of_mem_take hp))
      (by omega : x < 32)]
  refine (Memory.read_writeFrom h _ 0 x).trans ?_
  interval_cases x <;> rfl

/-! ### Words as bytes -/

theorem length_wordBytes (words : List Word) : (wordBytes words).length = 2 * words.length := by
  simp [wordBytes, Nat.mul_comm]

/-- A word stands as its upper byte and then its lower byte (R189). -/
theorem getElem?_wordBytes {words : List Word} {i : Nat} (hi : i < words.length) :
    (wordBytes words)[2 * i]? = some (words[i].extractLsb' 8 8) ∧ (wordBytes words)[2 * i + 1]? = some (words[i].extractLsb' 0 8) := by
  induction words generalizing i with
  | nil => cases hi
  | cons w words ih =>
    cases i with
    | zero => exact ⟨rfl, rfl⟩
    | succ i => exact ih (Nat.lt_of_succ_lt_succ hi)

/-- A memory that holds the bytes of words reads those words (R189). -/
theorem Memory.readWords_of_bytes {m : Memory} {words : List Word}
    (holds : ∀ x (hx : x < (wordBytes words).length), m.read x = (wordBytes words)[x]) : m.readWords words.length = words := by
  refine List.ext_getElem (by simp [Memory.readWords]) fun i _ hi => ?_
  have length := length_wordBytes words
  obtain ⟨upper, lower⟩ := getElem?_wordBytes hi
  have upperRead := holds (2 * i) (by omega)
  have lowerRead := holds (2 * i + 1) (by omega)
  rw [(List.getElem?_eq_some_iff.1 upper).2] at upperRead
  rw [(List.getElem?_eq_some_iff.1 lower).2] at lowerRead
  have read : (m.readWords words.length)[i] = m.readWord i := by simp [Memory.readWords]
  rw [read, Memory.readWord, upperRead, lowerRead]
  exact BitVec.extractLsb'_append_extractLsb'

/-! ### A save interrupted -/

theorem wordBytes_imageWords_ne_nil (records : List Word) : wordBytes (imageWords records) ≠ [] := List.cons_ne_nil _ _

/-- Settles O60. -/
theorem interruptedSaveIsCorrupt : Obligations.InterruptedSaveIsCorrupt := by
  intro b base m k _ canonical begun unfinished
  have signature : (writePages m (b.saveWrites.take k)).readWord 0 = 0 := by
    have blank : ∀ x < 2, (writePages m (b.saveWrites.take k)).read x = 0 := fun x hx =>
      Memory.read_saving canonical (wordBytes_imageWords_ne_nil _) begun unfinished hx
    rw [Memory.readWord, blank _ (by decide), blank _ (by decide)]
    rfl
  exact ⟨signature, (Memory.imageBank_eq_none_iff _ base).2 (.inl (by rw [signature]; decide))⟩

/-! ### An image read back -/

/-- The words of an image read before its end are those it was formed of (R189). -/
theorem Memory.readWords_take {m : Memory} {words : List Word} (holds : m.readWords words.length = words) {k : Nat}
    (hk : k ≤ words.length) : m.readWords k = words.take k := by
  conv_rhs => rw [← holds]
  rw [Memory.readWords, Memory.readWords, ← List.map_take, List.take_range, Nat.min_eq_left hk]

theorem Memory.readWord_of_readWords {m : Memory} {words : List Word} (holds : m.readWords words.length = words) {i : Nat}
    (hi : i < words.length) : m.readWord i = words[i] := by
  have read : (m.readWords words.length)[i]? = some (m.readWord i) := by
    rw [Memory.readWords, List.getElem?_map, List.getElem?_range hi]
    rfl
  rw [holds] at read
  exact (List.getElem?_eq_some_iff.1 read).2.symm

/-- A memory that holds the image of record words is framed and counts those words (R189, R191). -/
theorem Memory.imageRecords_imageWords {m : Memory} {records : List Word} (few : records.length ≤ 2048)
    (holds : m.readWords (imageWords records).length = imageWords records) : m.imageRecords = some records := by
  have length : (imageWords records).length = records.length + 3 + 1 := by simp [imageWords, withCrc]
  have word : ∀ i (hi : i < (imageWords records).length), m.readWord i = (imageWords records)[i] := fun i hi =>
    Memory.readWord_of_readWords holds hi
  have count : (m.readWord 2).toNat = records.length := by
    rw [word 2 (by omega)]
    exact toNat_ofNat_word (by omega)
  have body : m.readWords (records.length + 3) = (imageWords records).take (records.length + 3) :=
    Memory.readWords_take holds (by omega)
  have header : (imageWords records).take (records.length + 3)
      = Word.ofNumber Config.imageSignature :: Word.ofNumber Config.imageVersion :: Word.ofNumber records.length :: records :=
    List.take_left' (by simp)
  have framed : m.imageFramed := by
    refine ⟨word 0 (by omega), word 1 (by omega), by omega, ?_⟩
    rw [count, body, header, word _ (by omega)]
    exact List.getElem_concat_length (by simp) _
  rw [Memory.imageRecords_of_framed m framed, Memory.recordWords, ← m.drop_readWords, count, body, header]
  rfl

end Sys2Proof.Machine
end

section
/-! What one record of a saved bank does to another bank: an item, an envelope, a whole Response Table (R64, R75, R76, R178, R189,
R191). -/
open Sys2Proof Sys2Proof.Machine
namespace Sys2Proof.Machine

/-! ### Values of the catalogue are stored as they are -/

theorem clampNat_of_within {low high v : Nat} (h : low ≤ v ∧ v ≤ high) : clampNat low high v = v := by
  unfold clampNat
  omega

theorem Bank.inCatalogue.stored {b : Bank} (h : b.inCatalogue) (d : DeviceItem) : d.stored (b.read d) = b.read d := by
  obtain ⟨range, average, -⟩ := h
  by_cases housekeeping : d = .housekeepingAverage
  · subst housekeeping
    change DeviceItem.stored .housekeepingAverage b.housekeepingAverage = b.housekeepingAverage
    rcases average with power | power | power | power <;> rw [power] <;> rfl
  · by_cases enlist : d = .autoEnlist
    · subst enlist
      exact Nat.mod_eq_of_lt (Nat.lt_succ_of_le (range .autoEnlist).2)
    · rw [DeviceItem.stored_clamped housekeeping enlist, clampNat_of_within (range d)]

theorem FeederBank.inCatalogue.stored {b : FeederBank} (h : b.inCatalogue) (i : FeederItem) : i.stored (b.read i) = b.read i := by
  obtain ⟨range, mode, -⟩ := h
  by_cases provisional : i = .provisionalMode
  · subst provisional
    change FeederItem.stored .provisionalMode b.provisionalMode.code = b.provisionalMode.code
    rcases mode with kept | kept | kept <;> rw [kept] <;> rfl
  · rw [FeederItem.stored_clamped provisional, clampNat_of_within (range i)]

/-! ### Banks that read alike -/

theorem Mode.code_injective {m n : Mode} (h : m.code = n.code) : m = n := by
  revert h
  cases m <;> cases n <;> decide

/-- A feeder's part of a bank is its items, its envelope and its Response Table (R176). -/
theorem FeederBank.eq_of_read {x y : FeederBank} (read : ∀ i, x.read i = y.read i) (envelope : x.envelope = y.envelope)
    (response : x.response = y.response) : x = y := by
  cases x
  cases y
  exact (FeederBank.mk.injEq ..).mpr ⟨read .scale, read .limit, read .attack, read .decay, read .shedDecay, read .margin,
    read .shedLevel, read .rearmLevel, Mode.code_injective (read .provisionalMode), read .tripCurrent, read .verifyTolerance,
    read .verifyDelay, read .verifyCount, read .checkLevel, envelope, response⟩

theorem PerFeeder.eq_of_get {α : Type} {x y : PerFeeder α} (get : ∀ f, x.get f = y.get f) : x = y := by
  cases x
  cases y
  exact (PerFeeder.mk.injEq ..).mpr ⟨get .f0, get .f1, get .f2, get .f3⟩

/-- A bank is its device items and the feeders' parts (R176). -/
theorem Bank.eq_of_read {x y : Bank} (read : ∀ d, x.read d = y.read d) (feeder : ∀ f, x.feeder f = y.feeder f) : x = y := by
  cases x
  cases y
  exact (Bank.mk.injEq ..).mpr ⟨read .cellPeriod, read .nominalStep, read .trackKp, read .trackKi, read .nominalPeak,
    read .lockFloor, read .acquireCells, read .tripDeviation, read .confirmCount, read .halfWindow, read .recoveryLevel,
    read .recoveryHold, read .jumpThreshold, read .unbalanceThreshold, read .burstWindow, read .storeFloor, read .storeFull,
    read .housekeepingAverage, read .heatLimit, read .heatHysteresis, read .storeHeatLimit, read .verifyMode, read .autoEnlist,
    read .commitDeferLimit, read .mapChangeLimit, PerFeeder.eq_of_get feeder⟩

theorem Bank.setFeeder_feeder (b : Bank) (f : Feeder) : b.setFeeder f (b.feeder f) = b :=
  Bank.eq_of_read (fun _ => Bank.read_setFeeder _ _ _ _) fun g => by
    rw [Bank.feeder_setFeeder]
    split
    next same => rw [same]
    next => rfl

theorem Bank.setFeeder_setFeeder (b : Bank) (f : Feeder) (x y : FeederBank) : (b.setFeeder f x).setFeeder f y = b.setFeeder f y :=
  Bank.eq_of_read (fun _ => by simp only [Bank.read_setFeeder]) fun g => by
    simp only [Bank.feeder_setFeeder]
    split <;> rfl

/-! ### One record -/

/-- A record of a command for a target with a payload, as its command word and its payload (R189). -/
def recordOf (c : Command) (target : BitVec 4) (payload : List Word) : Word × List Word := (commandWord c.code target, payload)

/-- A WRITE_SETTING record's payload: the item and its value (R194). -/
def settingPayload (item value : Nat) : List Word := Word.ofNumber item :: valueWords value

/-- The request of a command as an image's record gives it (R191). -/
def plainRequest (c : Command) (target : BitVec 4) (payload : List Word) : Request :=
  { tag := 0, code := c.code, target := target, payload := payload, malformed := false }

/-- A record of a command whose row allows its target and payload stands for that request (R16, R189). -/
theorem requestFor_recordOf {c : Command} {target : BitVec 4} {payload : List Word} (row : c.row target payload) :
    requestFor (recordOf c target payload) = plainRequest c target payload := by
  have code : (commandWord c.code target).extractLsb' 8 8 = c.code := by
    rw [commandWord, BitVec.extractLsb'_append_eq_of_le (by decide)]
    exact BitVec.extractLsb'_append_eq_left
  have named : (commandWord c.code target).extractLsb' 0 4 = target := BitVec.extractLsb'_append_eq_right
  have allowed : commandTableAllows c.code target payload = true :=
    (commandTableAllows_iff _ _ _).2 ⟨c, rfl, (c.row_iff _ _).2 row⟩
  rw [requestFor, recordOf, recordRequest, code, named, allowed]
  rfl

/-- The target that names a feeder. -/
def targetOf (f : Feeder) : BitVec 4 := BitVec.ofNat 4 f.number

theorem toNat_targetOf (f : Feeder) : (targetOf f).toNat = f.number := by cases f <;> rfl

theorem targetOf_le (f : Feeder) : (targetOf f).toNat ≤ 3 := by cases f <;> decide

theorem Request.feeder_plainRequest (c : Command) (f : Feeder) (payload : List Word) :
    (plainRequest c (targetOf f) payload).feeder = some f :=
  Request.feeder_of_target (toNat_targetOf f)

/-- A 32-bit value is carried by its two words (R177, R178). -/
theorem joinWords_twoWords {v : Nat} (h : v < 2 ^ 32) :
    joinWords ((BitVec.ofNat 32 v).extractLsb' 16 16) ((BitVec.ofNat 32 v).extractLsb' 0 16) = v := by
  simp only [joinWords, BitVec.extractLsb'_toNat, Nat.shiftRight_eq_div_pow, BitVec.toNat_ofNat]
  omega

theorem DeviceItem.number_lt (d : DeviceItem) : d.number < 65536 := by cases d <;> decide

theorem FeederItem.number_lt (i : FeederItem) : i.number < 65536 := by cases i <;> decide

section
variable (b : Bank)

/-- The value that a WRITE_SETTING record carries (R178, R194). -/
theorem joinWords_settingPayload (target : BitVec 4) (item : Nat) {v : Nat} (h : v < 2 ^ 32) :
    joinWords ((plainRequest .writeSetting target (settingPayload item v)).word 1)
      ((plainRequest .writeSetting target (settingPayload item v)).word 2) = v :=
  joinWords_twoWords h

/-- What a record of a device item does to a bank (R178, R191). -/
theorem Bank.applyRecord_device (d : DeviceItem) {v : Nat} (h : v < 2 ^ 32) :
    b.applyRecord (requestFor (recordOf .writeSetting deviceTarget (settingPayload d.number v))) = some (b.write d (d.stored v)) := by
  have row : Command.writeSetting.row deviceTarget (settingPayload d.number v) := ⟨.inr rfl, rfl⟩
  have item : ((plainRequest .writeSetting deviceTarget (settingPayload d.number v)).word 0).toNat = d.number :=
    toNat_ofNat_word d.number_lt
  have stores := (b.writeSetting_device item).trans (if_pos rfl)
  rw [joinWords_settingPayload _ _ h] at stores
  rw [requestFor_recordOf row, Bank.applyRecord_eq]
  exact congrArg Written.bank stores

/-- What a record of a feeder item does to a bank (R178, R191). -/
theorem Bank.applyRecord_feeder (f : Feeder) (i : FeederItem) {v : Nat} (h : v < 2 ^ 32) :
    b.applyRecord (requestFor (recordOf .writeSetting (targetOf f) (settingPayload i.number v)))
      = some (b.setFeeder f ((b.feeder f).write i (i.stored v))) := by
  have row : Command.writeSetting.row (targetOf f) (settingPayload i.number v) := ⟨.inl (targetOf_le f), rfl⟩
  have item : ((plainRequest .writeSetting (targetOf f) (settingPayload i.number v)).word 0).toNat = i.number :=
    toNat_ofNat_word i.number_lt
  have stores := b.writeSetting_feeder item (Request.feeder_plainRequest _ f _)
  rw [joinWords_settingPayload _ _ h] at stores
  rw [requestFor_recordOf row, Bank.applyRecord_eq]
  exact congrArg Written.bank stores

/-- What a record of an envelope does to a bank (R75, R191). -/
theorem Bank.applyRecord_envelope (f : Feeder) {rows : List EnvelopeRow} (nonempty : 1 ≤ rows.length) (few : rows.length ≤ 8)
    (fits : ∀ x ∈ rows, x.duration ≤ 65535 ∧ x.floor ≤ 1000) :
    b.applyRecord (requestFor
        (recordOf .loadEnvelope (targetOf f) (Word.ofNumber rows.length :: rows.flatMap EnvelopeRow.words)))
      = some (b.setFeeder f { b.feeder f with envelope := rows }) := by
  have count : (Word.ofNumber rows.length).toNat = rows.length := toNat_ofNat_word (by omega)
  have length : (rows.flatMap EnvelopeRow.words).length = 2 * rows.length := by
    simp [List.length_flatMap, EnvelopeRow.words, Nat.mul_comm]
  have row : Command.loadEnvelope.row (targetOf f) (Word.ofNumber rows.length :: rows.flatMap EnvelopeRow.words) :=
    ⟨targetOf_le f, _, _, rfl, by omega, by omega, by rw [List.length_cons]; omega⟩
  have kept : (rows.map fun x => { duration := x.duration, floor := min 1000 x.floor }) = rows :=
    (List.map_congr_left fun x hx => by rw [Nat.min_eq_right (fits x hx).2]; rfl).trans (List.map_id _)
  have stores := Bank.loadEnvelope_of_words (Request.feeder_plainRequest .loadEnvelope f _)
    (fun x hx => ⟨by have := fits x hx; omega, by have := fits x hx; omega⟩) (rfl : (plainRequest .loadEnvelope (targetOf f)
      (Word.ofNumber rows.length :: rows.flatMap EnvelopeRow.words)).payload.tail = _) b
  rw [kept] at stores
  rw [requestFor_recordOf row, Bank.applyRecord_eq]
  exact congrArg Written.bank stores

end

/-! ### A whole Response Table -/

/-- The entries that name classes from c on, in order (R194). -/
def entriesFrom : Nat → List Mode → List ResponseEntry
  | _, [] => []
  | c, m :: rest => ⟨c, m⟩ :: entriesFrom (c + 1) rest

theorem responsePairs_eq (c : Nat) (modes : List Mode) : responsePairs c modes = (entriesFrom c modes).flatMap ResponseEntry.words := by
  induction modes generalizing c with
  | nil => rfl
  | cons m modes ih => rw [responsePairs, ih]; rfl

theorem length_responsePairs (c : Nat) (modes : List Mode) : (responsePairs c modes).length = 2 * modes.length := by
  induction modes generalizing c with
  | nil => rfl
  | cons m modes ih => rw [responsePairs, List.length_cons, List.length_cons, ih, List.length_cons]; omega

theorem mem_entriesFrom {c : Nat} {modes : List Mode} {x : ResponseEntry} (h : x ∈ entriesFrom c modes) :
    x.eventClass < c + modes.length ∧ x.mode ∈ modes := by
  induction modes generalizing c with
  | nil => cases h
  | cons m modes ih =>
    rw [List.length_cons]
    rcases List.mem_cons.1 h with rfl | later
    · exact ⟨by dsimp only; omega, List.mem_cons_self⟩
    · obtain ⟨low, named⟩ := ih later
      exact ⟨by omega, List.mem_cons_of_mem _ named⟩

/-- Entries for every class from one on, in order, replace the table from there on (R64, R76). -/
theorem writeEntries_entriesFrom (front : List Mode) {old modes : List Mode} (length : old.length = modes.length) :
    writeEntries (front ++ old) (entriesFrom front.length modes) = front ++ modes := by
  induction modes generalizing front old with
  | nil => rw [List.length_eq_zero_iff.1 length]; rfl
  | cons m modes ih =>
    obtain ⟨o, old, rfl⟩ := List.exists_cons_of_length_eq_add_one length
    have set : (front ++ o :: old).set front.length m = front ++ [m] ++ old := by simp
    have later := ih (front ++ [m]) (Nat.succ.inj length)
    rw [List.length_append] at later
    calc writeEntries (front ++ o :: old) (entriesFrom front.length (m :: modes))
        = writeEntries ((front ++ o :: old).set front.length m) (entriesFrom (front.length + 1) modes) := rfl
      _ = front ++ [m] ++ modes := by rw [set]; exact later
      _ = front ++ m :: modes := by simp

/-- What a record of a whole Response Table does to a bank whose table is whole (R64, R76, R191). -/
theorem Bank.applyRecord_response (b : Bank) (f : Feeder) {modes : List Mode} (whole : modes.length = 16)
    (named : ∀ m ∈ modes, m ≠ .none) (old : (b.feeder f).response.length = 16) :
    b.applyRecord (requestFor (recordOf .loadResponse (targetOf f) (responsePairs 0 modes)))
      = some (b.setFeeder f { b.feeder f with response := modes }) := by
  have length := length_responsePairs 0 modes
  have row : Command.loadResponse.row (targetOf f) (responsePairs 0 modes) :=
    ⟨targetOf_le f, by omega, by omega, by omega⟩
  have read : responseEntries (responsePairs 0 modes) = some (entriesFrom 0 modes) := by
    rw [responsePairs_eq]
    refine responseEntries_words fun x hx => ?_
    obtain ⟨low, mode⟩ := mem_entriesFrom hx
    exact ⟨by omega, named _ mode⟩
  have stores := Bank.loadResponse_of_words (Request.feeder_plainRequest .loadResponse f (responsePairs 0 modes)) read b
  have replaced : writeEntries (b.feeder f).response (entriesFrom 0 modes) = modes :=
    writeEntries_entriesFrom [] (old.trans whole.symm)
  rw [replaced] at stores
  rw [requestFor_recordOf row, Bank.applyRecord_eq]
  exact congrArg Written.bank stores

end Sys2Proof.Machine
end

section
/-! The image of a bank: its records and their words, the bank they make of any other, and the save loaded back (R64, R189, R191,
R194). -/
open Sys2Proof Sys2Proof.Machine
namespace Sys2Proof.Machine

/-! ### The records of a bank -/

/-- The records of a feeder's part, one by one: its items, its envelope, its Response Table (R194). -/
def FeederBank.imageRecords (x : FeederBank) (f : Feeder) : List (Word × List Word) :=
  (FeederItem.all.map fun i => recordOf .writeSetting (targetOf f) (settingPayload i.number (x.read i)))
    ++ [recordOf .loadEnvelope (targetOf f) (Word.ofNumber x.envelope.length :: x.envelope.flatMap EnvelopeRow.words),
      recordOf .loadResponse (targetOf f) (responsePairs 0 x.response)]

/-- The records of a bank's image, one by one (R194). -/
def Bank.imageRecords (b : Bank) : List (Word × List Word) :=
  (DeviceItem.all.map fun d => recordOf .writeSetting deviceTarget (settingPayload d.number (b.read d)))
    ++ Feeder.all.flatMap fun f => (b.feeder f).imageRecords f

theorem recordWords_recordOf (c : Command) (target : BitVec 4) (payload : List Word) :
    recordWords (recordOf c target payload) = record c.code target payload := rfl

theorem FeederBank.records_eq (x : FeederBank) (f : Feeder) :
    x.records (targetOf f) = (x.imageRecords f).flatMap recordWords := by
  rw [FeederBank.imageRecords, List.flatMap_append, List.flatMap_map, FeederBank.records, List.append_assoc]
  simp only [recordWords_recordOf, List.flatMap_cons, List.flatMap_nil, List.append_nil]
  rfl

theorem Bank.records_eq (b : Bank) : b.records = b.imageRecords.flatMap recordWords := by
  rw [Bank.imageRecords, List.flatMap_append, List.flatMap_map, List.flatMap_assoc, Bank.records]
  simp only [← FeederBank.records_eq]
  rfl

/-- A feeder's records take 123 words at most (R61, R64, R189). -/
theorem FeederBank.length_records {x : FeederBank} (h : x.inCatalogue) (target : BitVec 4) : (x.records target).length ≤ 123 := by
  obtain ⟨-, -, -, rows, -, entries, -⟩ := h
  have envelope : (x.payload .envelope).length = 1 + 2 * x.envelope.length := by
    simp [FeederBank.payload, List.length_flatMap, Nat.mul_comm, Nat.add_comm]
  have settings : (FeederItem.all.flatMap fun i => settingRecord target i.number (x.read i)).length = 70 := rfl
  have response := length_responsePairs 0 x.response
  simp only [FeederBank.records, List.length_append, settings, record, List.length_cons, envelope, response]
  omega

/-- The records of a bank take 617 words at most, so every image's count is in its range (R189, R191). -/
theorem Bank.length_records {b : Bank} (h : b.inCatalogue) : b.records.length ≤ 617 := by
  obtain ⟨-, -, feeders⟩ := h
  have devices : (DeviceItem.all.flatMap fun d => settingRecord deviceTarget d.number (b.read d)).length = 125 := rfl
  have part := fun f => FeederBank.length_records (feeders f) (BitVec.ofNat 4 f.number)
  have f0 := part .f0
  have f1 := part .f1
  have f2 := part .f2
  have f3 := part .f3
  simp only [Bank.records, List.length_append, devices, Feeder.all, List.flatMap_cons, List.flatMap_nil, List.length_nil]
  omega

/-! ### The records applied -/

theorem Bank.applyRecords_append (b : Bank) (front back : List Request) :
    b.applyRecords (front ++ back) = (b.applyRecords front).bind fun c => c.applyRecords back := by
  induction front generalizing b with
  | nil => rfl
  | cons r front ih =>
    rw [List.cons_append, Bank.applyRecords, Bank.applyRecords]
    cases b.applyRecord r with
    | none => rfl
    | some c => exact ih c

theorem Bank.applyRecords_cons_of_some {b c : Bank} {r : Request} (h : b.applyRecord r = some c) (records : List Request) :
    b.applyRecords (r :: records) = c.applyRecords records := by
  rw [Bank.applyRecords, h]

/-- What is replaced at the places of a list, and at one place more, is replaced at the places of the longer list. -/
theorem ite_mem_cons {α β : Type} [DecidableEq α] (g : α → β) (l : List α) (a x : α) (old : β) :
    (if x ∈ l then g x else if x = a then g a else old) = if x ∈ a :: l then g x else old := by
  by_cases same : x = a
  · subst same
    simp
  · simp [same]

theorem DeviceItem.high_lt (d : DeviceItem) : d.high < 2 ^ 32 := by cases d <;> decide

theorem FeederItem.high_lt (i : FeederItem) : i.high < 2 ^ 32 := by cases i <;> decide

section
variable {b : Bank} (h : b.inCatalogue)
include h

/-- The records of device items give a bank the saved values of those items and leave everything else (R178, R191). -/
theorem Bank.applyRecords_devices (c : Bank) (items : List DeviceItem) :
    ∃ e : Bank, c.applyRecords ((items.map fun d =>
        recordOf .writeSetting deviceTarget (settingPayload d.number (b.read d))).map requestFor) = some e
      ∧ (∀ d, e.read d = if d ∈ items then b.read d else c.read d) ∧ ∀ f, e.feeder f = c.feeder f := by
  induction items generalizing c with
  | nil => exact ⟨c, rfl, fun d => (if_neg List.not_mem_nil).symm, fun _ => rfl⟩
  | cons d items ih =>
    have ⟨range, _⟩ := h
    have one := c.applyRecord_device d ((range d).2.trans_lt d.high_lt)
    rw [h.stored d] at one
    obtain ⟨e, applied, read, feeder⟩ := ih (c.write d (b.read d))
    refine ⟨e, (Bank.applyRecords_cons_of_some one _).trans applied, fun x => ?_, fun f => (feeder f).trans (Bank.feeder_write ..)⟩
    rw [read, Bank.read_write]
    exact ite_mem_cons b.read items d x _

end

section
variable {x : FeederBank} (h : x.inCatalogue) (f : Feeder)
include h

/-- The records of feeder items give a feeder's part the saved values of those items and leave everything else (R178, R191). -/
theorem Bank.applyRecords_items (c : Bank) (items : List FeederItem) :
    ∃ y : FeederBank, c.applyRecords ((items.map fun i =>
        recordOf .writeSetting (targetOf f) (settingPayload i.number (x.read i))).map requestFor) = some (c.setFeeder f y)
      ∧ (∀ i, y.read i = if i ∈ items then x.read i else (c.feeder f).read i)
      ∧ y.response = (c.feeder f).response := by
  induction items generalizing c with
  | nil => exact ⟨c.feeder f, by rw [c.setFeeder_feeder]; rfl, fun i => (if_neg List.not_mem_nil).symm, rfl⟩
  | cons i items ih =>
    have ⟨range, _⟩ := h
    have one := c.applyRecord_feeder f i ((range i).2.trans_lt i.high_lt)
    rw [h.stored i] at one
    obtain ⟨y, applied, read, response⟩ := ih (c.setFeeder f ((c.feeder f).write i (x.read i)))
    rw [Bank.setFeeder_setFeeder] at applied
    simp only [Bank.feeder_setFeeder, if_true, FeederBank.response_write] at read response
    refine ⟨y, (Bank.applyRecords_cons_of_some one _).trans applied, fun j => ?_, response⟩
    have kept := (c.feeder f).read_write i j (x.read i)
    rw [h.stored i] at kept
    rw [read, kept]
    exact ite_mem_cons x.read items i j _

/-- A feeder's records give any bank whose table is whole the saved part (R64, R191). -/
theorem Bank.applyRecords_feeder (c : Bank) (whole : (c.feeder f).response.length = 16) :
    c.applyRecords ((x.imageRecords f).map requestFor) = some (c.setFeeder f x) := by
  have ⟨_, _, nonempty, few, rows, entries, modes⟩ := h
  obtain ⟨y, applied, read, response⟩ := Bank.applyRecords_items h f c FeederItem.all
  have envelope := (c.setFeeder f y).applyRecord_envelope f nonempty few rows
  rw [Bank.feeder_setFeeder, if_pos rfl, Bank.setFeeder_setFeeder] at envelope
  have table := (c.setFeeder f { y with envelope := x.envelope }).applyRecord_response f entries modes (by
    rw [Bank.feeder_setFeeder, if_pos rfl, ← whole, ← response])
  rw [Bank.feeder_setFeeder, if_pos rfl, Bank.setFeeder_setFeeder] at table
  have saved : ({ y with envelope := x.envelope, response := x.response } : FeederBank) = x :=
    FeederBank.eq_of_read (fun i => by
      have listed : i ∈ FeederItem.all := by cases i <;> decide
      rw [← (read i).trans (if_pos listed)]
      cases i <;> rfl) rfl rfl
  rw [FeederBank.imageRecords, List.map_append, Bank.applyRecords_append, applied, Option.bind_some, List.map_cons,
    Bank.applyRecords_cons_of_some envelope, List.map_cons, Bank.applyRecords_cons_of_some table]
  exact congrArg (fun z => some (c.setFeeder f z)) saved

end

/-- The records of feeders give a bank their saved parts and leave everything else (R191). -/
theorem Bank.applyRecords_feeders {b : Bank} (h : b.inCatalogue) (c : Bank) (whole : ∀ f, (c.feeder f).response.length = 16)
    (feeders : List Feeder) :
    ∃ e : Bank, c.applyRecords ((feeders.flatMap fun f => (b.feeder f).imageRecords f).map requestFor) = some e
      ∧ (∀ d, e.read d = c.read d) ∧ ∀ f, e.feeder f = if f ∈ feeders then b.feeder f else c.feeder f := by
  induction feeders generalizing c with
  | nil => exact ⟨c, rfl, fun _ => rfl, fun f => (if_neg List.not_mem_nil).symm⟩
  | cons f feeders ih =>
    have ⟨_, _, inCatalogue⟩ := h
    have one := Bank.applyRecords_feeder (inCatalogue f) f c (whole f)
    obtain ⟨-, -, -, -, -, entries, -⟩ := inCatalogue f
    obtain ⟨e, applied, read, feeder⟩ := ih (c.setFeeder f (b.feeder f)) fun g => by
      rw [Bank.feeder_setFeeder]
      split
      · exact entries
      · exact whole g
    refine ⟨e, ?_, fun d => (read d).trans (Bank.read_setFeeder ..), fun g => ?_⟩
    · rw [List.flatMap_cons, List.map_append, Bank.applyRecords_append, one]
      exact applied
    · rw [feeder, Bank.feeder_setFeeder]
      exact ite_mem_cons b.feeder feeders f g _

/-- The records of a bank's image make that bank of any bank whose Response Tables are whole (R64, R191). -/
theorem Bank.applyRecords_imageRecords {b : Bank} (h : b.inCatalogue) (base : Bank)
    (whole : ∀ f, (base.feeder f).response.length = 16) : base.applyRecords (b.imageRecords.map requestFor) = some b := by
  obtain ⟨c, devices, readDevice, kept⟩ := Bank.applyRecords_devices h base DeviceItem.all
  obtain ⟨e, feeders, readKept, feeder⟩ := Bank.applyRecords_feeders h c (fun f => by rw [kept, whole]) Feeder.all
  have saved : e = b := Bank.eq_of_read
    (fun d => (readKept d).trans ((readDevice d).trans (if_pos (by cases d <;> decide))))
    fun f => (feeder f).trans (if_pos (Feeder.mem_all f))
  rw [Bank.imageRecords, List.map_append, Bank.applyRecords_append, devices, ← saved]
  exact saved ▸ feeders

/-! ### Decode of encode -/

theorem length_payload_le {records : List (Word × List Word)} {x : Word × List Word} (h : x ∈ records) :
    x.2.length ≤ (records.flatMap recordWords).length := by
  induction records with
  | nil => cases h
  | cons y records ih =>
    rw [List.flatMap_cons, List.length_append]
    rcases List.mem_cons.1 h with rfl | later
    · rw [recordWords, List.length_cons, List.length_cons]
      omega
    · exact (ih later).trans (Nat.le_add_left _ _)

/-- The image that a memory holds makes the bank whose records it is of (R191, R194). -/
theorem Memory.imageBank_of_image {b base : Bank} {m : Memory} (inCatalogue : b.inCatalogue)
    (whole : ∀ f, (base.feeder f).response.length = 16)
    (holds : m.readWords (imageWords b.records).length = imageWords b.records) : m.imageBank base = some b := by
  have length := Bank.length_records inCatalogue
  have records := Memory.imageRecords_imageWords (by omega) holds
  rw [b.records_eq] at length records
  have short : ∀ x ∈ b.imageRecords, x.2.length < 65536 := fun x hx => (length_payload_le hx).trans_lt (by omega)
  rw [Memory.imageBank, records]
  dsimp only
  rw [recordsOf_recordWords short le_rfl]
  exact Bank.applyRecords_imageRecords inCatalogue base whole

/-- Settles O59. -/
theorem savedImageLoadsBack : Obligations.SavedImageLoadsBack := by
  intro b base m inCatalogue whole canonical
  exact Memory.imageBank_of_image inCatalogue whole
    (Memory.readWords_of_bytes fun x hx => Memory.read_saved canonical (wordBytes_imageWords_ne_nil _) hx)

end Sys2Proof.Machine
end
